-- ==== Sys2Proof/Word.lean ====
section
/-! DEFINITION. The word types of the block and their plainest names. -/

namespace Sys2Proof

/-- A register word (R13: every register is a 32-bit word). -/
abbrev Word := BitVec 32

/-- A 16-bit word (drive words, trims, sense codes, loop-processor data). -/
abbrev Half := BitVec 16

abbrev Byte := BitVec 8

/-- Words held by number: strictly rising keys, no entry equal to the word an unlisted key reads as. -/
abbrev Mem := List (Nat × Word)

end Sys2Proof
end

