-- ==== Sys2Proof/Syntax.lean ====
section
/-! DEFINITION. The commands of the block: one constructor per row of spec/opcode_table.json, and the types of their operands. -/

namespace Sys2Proof

/-- The six modes (R390). -/
inductive Mode where
  | reset | load | calibrate | hold | run | kennel
deriving DecidableEq, Repr

/-- The three engines (R1). -/
inductive Variant where
  | pq512 | pq256 | pq128
deriving DecidableEq, Repr

/-- A bus master (R341, R342): a Pack member, or the FLP register window. -/
inductive Master where
  | memberA | memberB | flp
deriving DecidableEq, Repr

/-- The context of a register access: its master, and whether it executes in the secure state (R254). -/
structure Bus where
  master : Master
  secure : Bool
deriving DecidableEq, Repr

/-- The condition of a WAIT that the machine can wait for (R160). -/
inductive WCond where
  | visit | sweep | scan | rail | ev0 | ev1
deriving DecidableEq, Repr

/-- A block that a fault can reset (R351). -/
inductive Block where
  | lp (k : Fin 33) | sns | nvm | mgt
deriving DecidableEq, Repr

/-- A fault report as its pair and its locus carry it (R346, R350). -/
structure Report where
  source : Fin 128
  locus : Word
  master : Fin 8
  access : Fin 4
  index : Byte
deriving DecidableEq, Repr

/-- What the protection of the words an instruction touches finds (R137): PM, XM and YM of its machine. -/
inductive Ecc where
  | clean
  /-- Single-bit errors corrected: in one word, or in the X word and the Y word of one instruction. -/
  | corrected (both : Bool)
  | uncorrectable
deriving DecidableEq, Repr

/-- The machine that executes an instruction, and what its memories' protection finds. -/
structure Lp where
  k : Fin 33
  ecc : Ecc
deriving DecidableEq, Repr

/-- Pointer update of an address operand (R153). -/
inductive Upd where
  | keep | plus | minus
deriving DecidableEq, Repr

/-- A 4-bit address operand: P0 to P3 on the X bus, P4 to P7 on the Y bus (R153). -/
structure Ea4 where
  upd : Upd
  p : Fin 4
deriving DecidableEq, Repr

/-- A 5-bit address operand (R153). -/
structure Ea5 where
  upd : Upd
  p : Fin 8
deriving DecidableEq, Repr

/-- A parallel load of the MAC class: its D register and address operand. -/
structure MacLoad where
  d : Fin 8
  ea : Ea4
deriving DecidableEq, Repr

/-- The parallel load of the ALU class; `y`: on the Y bus. -/
structure AluLoad where
  y : Bool
  d : Fin 8
  ea : Ea4
deriving DecidableEq, Repr

/-- Forms of a multiply (R153). -/
inductive MacForm where
  | single (acc : Fin 4) (dx dy : Fin 8)
  | qx (dx : Fin 8)
  | qy (dy : Fin 8)
deriving DecidableEq, Repr

/-- What a multiply does with its product. -/
inductive MulOp where
  | set | add | sub
deriving DecidableEq, Repr

/-- The count of a LOOP (R153). -/
inductive LoopCount where
  | imm (n : Fin 4096)
  | reg (d : Fin 8)
deriving DecidableEq, Repr

/-- SCH_REQ1 to SCH_REQ5 of a submission (R216, R238). -/
structure SubmitWords where
  requester : Fin 128
  dlNs : BitVec 30
  dlSec : Word
  seqLo : Word
  seqHi : Word
deriving DecidableEq, Repr

/-- The width of a bus access (R400, R401). -/
inductive Width where
  | byte | half | word
deriving DecidableEq, Repr

/-- A result register (R339). -/
inductive ResultReg where
  | rte | cal | scent (g : Fin 8)
deriving DecidableEq, Repr

/-- An FLP message from the host (R331): the fields of its header but for TYPE, and the bytes that follow the header in the stream. -/
structure HostMsg where
  version : Byte
  session : Half
  sender : Byte
  flags : Byte
  reserved : Half
  seq : BitVec 64
  length : Word
  payload : List Byte
deriving DecidableEq, Repr

/-- Why a frame is dropped (R324): its length in bytes, a bad FCS, or that it is a PAUSE frame. -/
inductive FrameFault where
  | oversize (length : Nat)
  | badFcs
  | pause
deriving DecidableEq, Repr

/-- What a client offers in a TLS or DTLS handshake, by the code points of RFC 8446: cipher suite, group, signature, whether it uses PSK,
resumption or 0-RTT data; and its P-256 public key (R328). -/
structure Hello where
  suite : Half
  group : Half
  signature : Half
  psk : Bool
  key : List Word
deriving DecidableEq, Repr

/-- A command of the block: the rows with operands first, then those without, each in the order of the table. -/
inductive Instr where
  /-- REF_CHANGE (R31). -/
  | refChange (b : Bus) (v : Word)
  /-- REF_LOSS (R32). -/
  | refLoss (tin : Bool)
  /-- REF_RETURN (R32). -/
  | refReturn (tin : Bool)
  /-- PILOT_ON (R49). -/
  | pilotOn (p : Fin 4096)
  /-- PILOT_LOW (R50). -/
  | pilotLow (p : Fin 4096)
  /-- PILOT_LOW_CLEAR (R50). -/
  | pilotLowClear (p : Fin 4096)
  /-- RTE_ADD (R71). -/
  | rteAdd (b : Bus) (input output : Fin 512) (tenant : Fin 64)
  /-- RTE_REMOVE (R71). -/
  | rteRemove (b : Bus) (input output : Fin 512)
  /-- RTE_PERMUTE (R71). -/
  | rtePermute (b : Bus)
  /-- RTE_PIN (R67). -/
  | rtePin (b : Bus) (input output : Fin 512)
  /-- RTE_UNPIN (R67). -/
  | rteUnpin (b : Bus) (input : Fin 512)
  /-- RTE_BAD_OP (R71). -/
  | rteBadOp (b : Bus) (op : Fin 16)
  /-- RTE_ABORT (R76). -/
  | rteAbort (b : Bus)
  /-- VERIFY_COMPLETE (R86). -/
  | verifyComplete (flips : List (Nat × Word))
  /-- SCRUB_TILE (R89). -/
  | scrubTile (flips : List (Nat × Word))
  /-- WHISTLE (R90). -/
  | whistle (missed : List (Fin 34))
  /-- OPEN_CHECK (R99). -/
  | openCheck (charges : List (Nat × Nat))
  /-- LEAK_DETECT (R100). -/
  | leakDetect (e : Fin 34816) (excess since : Nat)
  /-- DRV_RESUME (R101). -/
  | drvResume (b : Bus) (v : Word)
  /-- DRV_FLT_FIFO_READ (R101). -/
  | drvFltFifoRead (b : Bus)
  /-- KENNEL_APPLY (R103). -/
  | kennelApply (flips : List (Nat × Word))
  /-- KENNEL_WHISTLE (R103). -/
  | kennelWhistle (missed : List (Fin 34))
  /-- KENNEL_TILE_RELOAD (R105). -/
  | kennelTileReload (flips : List (Nat × Word)) (ue : Option (Fin 16777216))
  /-- KENNEL_SCRUB_RELOAD (R434). -/
  | kennelScrubReload (flips : List (Nat × Word)) (ue : Option (Fin 16777216))
  /-- SCENT_CTL_WRITE (R107). -/
  | scentCtlWrite (b : Bus) (g : Fin 8) (v : Word)
  /-- CONVERSION_START (R117). -/
  | conversionStart (l : Fin 544)
  /-- LEASH_DECISION (R130). -/
  | leashDecision (l : Fin 544) (code : Fin 4096)
  /-- RESULT_WRITE (R122). -/
  | resultWrite (l : Fin 544) (code : Fin 4096)
  /-- LANE_CFG_WRITE (R129). -/
  | laneCfgWrite (b : Bus) (l : Fin 544) (v : Word)
  /-- MPY (R154). -/
  | mpy (c : Lp) (f : MacForm) (x y : Option MacLoad)
  /-- MAC (R154). -/
  | mac (c : Lp) (f : MacForm) (x y : Option MacLoad)
  /-- MSU (R154). -/
  | msu (c : Lp) (f : MacForm) (x y : Option MacLoad)
  /-- PAR (R154). -/
  | par (c : Lp) (x y : Option MacLoad)
  /-- FTAP (R157). -/
  | ftap (c : Lp) (op : MulOp) (acc : Fin 4) (x y : MacLoad)
  /-- CLR (R154). -/
  | clr (c : Lp) (dst : Fin 4) (ld : Option AluLoad)
  /-- ADD (R154). -/
  | add (c : Lp) (dst src : Fin 4) (ld : Option AluLoad)
  /-- SUB (R154). -/
  | sub (c : Lp) (dst src : Fin 4) (ld : Option AluLoad)
  /-- ADDD (R154). -/
  | addd (c : Lp) (dst : Fin 4) (dr : Fin 8) (ld : Option AluLoad)
  /-- SUBD (R154). -/
  | subd (c : Lp) (dst : Fin 4) (dr : Fin 8) (ld : Option AluLoad)
  /-- LDD (R154). -/
  | ldd (c : Lp) (dst : Fin 4) (dr : Fin 8) (ld : Option AluLoad)
  /-- NEG (R154). -/
  | neg (c : Lp) (dst : Fin 4) (ld : Option AluLoad)
  /-- ABS (R154). -/
  | abs (c : Lp) (dst : Fin 4) (ld : Option AluLoad)
  /-- ASL (R154). -/
  | asl (c : Lp) (dst : Fin 4) (imm : Fin 16) (ld : Option AluLoad)
  /-- ASR (R154). -/
  | asr (c : Lp) (dst : Fin 4) (imm : Fin 16) (ld : Option AluLoad)
  /-- MAX (R154). -/
  | max (c : Lp) (dst src : Fin 4) (ld : Option AluLoad)
  /-- MIN (R154). -/
  | min (c : Lp) (dst src : Fin 4) (ld : Option AluLoad)
  /-- CMP (R154). -/
  | cmp (c : Lp) (dst src : Fin 4) (ld : Option AluLoad)
  /-- LIM (R154). -/
  | lim (c : Lp) (dst : Fin 4) (dr : Fin 8) (ld : Option AluLoad)
  /-- RND (R146). -/
  | rnd (c : Lp) (dst : Fin 4) (ld : Option AluLoad)
  /-- MOVA (R145). -/
  | mova (c : Lp) (dst src : Fin 4) (ld : Option AluLoad)
  /-- TSTD (R154). -/
  | tstd (c : Lp) (dr : Fin 8) (ld : Option AluLoad)
  /-- LDX (R154). -/
  | ldx (c : Lp) (d : Fin 8) (ea : Ea5)
  /-- LDY (R154). -/
  | ldy (c : Lp) (d : Fin 8) (ea : Ea5)
  /-- LDXA (R154). -/
  | ldxa (c : Lp) (d : Fin 8) (addr : Fin 32768)
  /-- STX (R154). -/
  | stx (c : Lp) (d : Fin 8) (ea : Ea5)
  /-- STXA (R154). -/
  | stxa (c : Lp) (d : Fin 8) (addr : Fin 32768)
  /-- STH (R146). -/
  | sth (c : Lp) (a : Fin 4) (ea : Ea5) (shift : Fin 32)
  /-- STL (R146). -/
  | stl (c : Lp) (a : Fin 4) (ea : Ea5)
  /-- LDI (R154). -/
  | ldi (c : Lp) (rd : Fin 64) (v : Half)
  /-- MOV (R154). -/
  | mov (c : Lp) (rd rs : Fin 64)
  /-- UPD (R150). -/
  | upd (c : Lp) (ea : Ea5)
  /-- NOP (R154). -/
  | nop (c : Lp)
  /-- JMP (R154). -/
  | jmp (c : Lp) (target : Fin 8192)
  /-- JSR (R154). -/
  | jsr (c : Lp) (target : Fin 8192)
  /-- RTS (R154). -/
  | rts (c : Lp)
  /-- BRCC (R153). -/
  | brcc (c : Lp) (cond : Fin 8) (target : Fin 8192)
  /-- DBNZ (R154). -/
  | dbnz (c : Lp) (dr : Fin 8) (target : Fin 8192)
  /-- LOOP (R156). -/
  | loop (c : Lp) (len : Fin 32) (count : LoopCount)
  /-- WAIT (R160). -/
  | wait (c : Lp) (cond : Fin 16)
  /-- WAIT_COMPLETE (R160). -/
  | waitComplete (c : Lp)
  /-- CLRF (R147). -/
  | clrf (c : Lp) (mask : Byte)
  /-- EVT (R164). -/
  | evt (c : Lp)
  /-- HALT (R154). -/
  | halt (c : Lp)
  /-- LP_ILL_OP (R152). -/
  | lpIllOp (c : Lp) (w : Word)
  /-- LP_HANG (R165). -/
  | lpHang (k : Fin 33)
  /-- LP_EN_CLEAR (R168). -/
  | lpEnClear (b : Bus) (k : Fin 33)
  /-- LP_EN_SET (R168). -/
  | lpEnSet (b : Bus) (k : Fin 33)
  /-- LP_STEP (R170). -/
  | lpStep (b : Bus) (c : Lp)
  /-- CBANK_SWAP_REQ (R167). -/
  | cbankSwapReq (b : Bus) (k : Fin 33)
  /-- GSWAP_COMMIT (R167). -/
  | gswapCommit (b : Bus) (v : Word)
  /-- CAL_APPLY (R198). -/
  | calApply (b : Bus)
  /-- CAL_ABORT (R207). -/
  | calAbort (b : Bus)
  /-- CAL_RECAL (R201). -/
  | calRecal (b : Bus) (regions : Byte)
  /-- CAL_FULL (R208). -/
  | calFull (b : Bus)
  /-- CAL_AGE_TRIGGER (R201). -/
  | calAgeTrigger (r : Fin 8)
  /-- CAL_FULL_ROUND (R209). -/
  | calFullRound
  /-- CAL_DATA_WRITE (R215). -/
  | calDataWrite (b : Bus) (v : Word)
  /-- CAL_DATA_READ (R215). -/
  | calDataRead (b : Bus)
  /-- SUBMIT_ADD (R216). -/
  | submitAdd (b : Bus) (input output : Fin 512) (tenant : Fin 64) (q : SubmitWords)
  /-- SUBMIT_REMOVE (R216). -/
  | submitRemove (b : Bus) (input output : Fin 512) (q : SubmitWords)
  /-- SUBMIT_PERMUTE (R216). -/
  | submitPermute (b : Bus) (q : SubmitWords)
  /-- SUBMIT_PIN (R216). -/
  | submitPin (b : Bus) (input output : Fin 512) (q : SubmitWords)
  /-- SUBMIT_UNPIN (R216). -/
  | submitUnpin (b : Bus) (input : Fin 512) (q : SubmitWords)
  /-- TB_RATE_WRITE (R224). -/
  | tbRateWrite (b : Bus) (t : Fin 64) (v : Word)
  /-- TB_BURST_WRITE (R224). -/
  | tbBurstWrite (b : Bus) (t : Fin 64) (v : Word)
  /-- GL_COMMIT (R228). -/
  | glCommit (b : Bus) (discard : Bool)
  /-- GL_DISCARD (R228). -/
  | glDiscard (b : Bus)
  /-- GL_START_NS_WRITE (R433). -/
  | glStartNsWrite (b : Bus) (v : Word)
  /-- SCH_CANCEL (R235). -/
  | schCancel (b : Bus)
  /-- SCH_EN_WRITE (R221). -/
  | schEnWrite (b : Bus) (en : Bool)
  /-- SCH_OUT_READ (R236). -/
  | schOutRead (b : Bus)
  /-- TIM_RATE_WRITE (R242). -/
  | timRateWrite (b : Bus) (v : Word)
  /-- TIM_ADJUST (R243). -/
  | timAdjust (b : Bus) (v : Word)
  /-- TIM_SET (R243). -/
  | timSet (b : Bus) (v : Word)
  /-- NOW_CAPTURE (R241). -/
  | nowCapture (b : Bus)
  /-- TIM_SRC_WRITE (R245). -/
  | timSrcWrite (b : Bus) (v : Fin 4)
  /-- PTP_SERVO_UPDATE (R247). -/
  | ptpServoUpdate (t1 t2 t3 t4 sync resp : Int)
  /-- PPS_EDGE (R248). -/
  | ppsEdge (k : Fin 256)
  /-- CMP_ARM (R252). -/
  | cmpArm (b : Bus) (c : Fin 64) (periodic : Bool)
  /-- CMP_DISARM (R252). -/
  | cmpDisarm (b : Bus) (c : Fin 64) (periodic : Bool)
  /-- CMP_MATCH (R252). -/
  | cmpMatch (c : Fin 64) (missed : List (Fin 34))
  /-- CMP_NS_WRITE (R433). -/
  | cmpNsWrite (b : Bus) (c : Fin 64) (v : Word)
  /-- TOUT_ENABLE (R255). -/
  | toutEnable (b : Bus) (k : Fin 4) (pol periodic : Bool)
  /-- TOUT_EDGE (R255). -/
  | toutEdge (k : Fin 4)
  /-- TOUT_NS_WRITE (R433). -/
  | toutNsWrite (b : Bus) (k : Fin 4) (v : Word)
  /-- LEDGER_FIFO_READ (R259). -/
  | ledgerFifoRead (b : Bus)
  /-- LEDGER_TAKE (R260). -/
  | ledgerTake (b : Bus) (t : Fin 64)
  /-- EVT_CFG_REQUEST (R273). -/
  | evtCfgRequest (b : Bus) (v : Word)
  /-- HOST_TRIGGER (R265). -/
  | hostTrigger (b : Bus) (v : Byte)
  /-- RAIL_REPORT (R276). -/
  | railReport (rs : Vector (Half × Half) 8)
  /-- RAIL_UV_TRIP (R278). -/
  | railUvTrip (r : Fin 8) (uv : Nat)
  /-- UV_BLANK_END (R278). -/
  | uvBlankEnd (hp hn : Nat)
  /-- SD_CLEAR (R298). -/
  | sdClear (b : Bus) (v : Word)
  /-- EBKT_CAP_WRITE (R293). -/
  | ebktCapWrite (b : Bus) (v : Word)
  /-- THM_LIMIT_WRITE (R285). -/
  | thmLimitWrite (b : Bus) (which : Fin 3) (v : Word)
  /-- PAK_CYCLE_BOUNDARY (R305). -/
  | pakCycleBoundary (ceA ceB : Nat)
  /-- DELTA_APPLY (R308). -/
  | deltaApply
  /-- PAK_LOCKSTEP (R309). -/
  | pakLockstep (m : Bool)
  /-- PAK_SRAM_UE (R309). -/
  | pakSramUe (m tainted : Bool)
  /-- PAK_CFSIG (R309). -/
  | pakCfsig (m : Bool)
  /-- MEMBER_RESET (R310). -/
  | memberReset (m : Bool)
  /-- SELF_TEST_COMPLETE (R310). -/
  | selfTestComplete (m pass : Bool)
  /-- SEQ_DRAW (R316). -/
  | seqDraw (b : Bus)
  /-- SEQ_BASE_LOAD (R316). -/
  | seqBaseLoad (b : Bus) (v : Word)
  /-- SWAP_REQ (R317). -/
  | swapReq (b : Bus)
  /-- ROLE_EXCHANGE (R318). -/
  | roleExchange
  /-- CONNECT (R337). -/
  | connect (n : Fin 65) (m : HostMsg)
  /-- DISCONNECT (R337). -/
  | disconnect (n : Fin 65) (m : HostMsg)
  /-- FLP_PERMUTE (R337). -/
  | flpPermute (n : Fin 65) (m : HostMsg)
  /-- FLP_PIN (R336). -/
  | flpPin (n : Fin 65) (m : HostMsg)
  /-- FLP_UNPIN (R336). -/
  | flpUnpin (n : Fin 65) (m : HostMsg)
  /-- QUERY_ROUTE (R336). -/
  | queryRoute (n : Fin 65) (m : HostMsg)
  /-- QUERY_ELEMENT (R336). -/
  | queryElement (n : Fin 65) (m : HostMsg)
  /-- SUBSCRIBE (R338). -/
  | subscribe (n : Fin 65) (m : HostMsg)
  /-- LEDGER_READ (R336). -/
  | ledgerRead (n : Fin 65) (m : HostMsg)
  /-- LEDGER_ACK (R261). -/
  | ledgerAck (n : Fin 65) (m : HostMsg)
  /-- GATE_LOAD (R337). -/
  | gateLoad (n : Fin 65) (m : HostMsg)
  /-- MODE_REQ (R337). -/
  | modeReq (n : Fin 65) (m : HostMsg)
  /-- CAL_REQ (R337). -/
  | calReq (n : Fin 65) (m : HostMsg)
  /-- IMAGE_LOAD (R381). -/
  | imageLoad (n : Fin 65) (m : HostMsg)
  /-- KEY_ENROLL (R380). -/
  | keyEnroll (n : Fin 65) (m : HostMsg)
  /-- KEY_REVOKE (R380). -/
  | keyRevoke (n : Fin 65) (m : HostMsg)
  /-- KEY_OWN (R337). -/
  | keyOwn (n : Fin 65) (m : HostMsg)
  /-- FAULT_READ (R336). -/
  | faultRead (n : Fin 65) (m : HostMsg)
  /-- FAULT_READ_CLEAR (R348). -/
  | faultReadClear (n : Fin 65) (m : HostMsg)
  /-- REG_READ (R342). -/
  | regRead (n : Fin 65) (m : HostMsg)
  /-- REG_WRITE (R342). -/
  | regWrite (n : Fin 65) (m : HostMsg)
  /-- FLP_UNKNOWN_TYPE (R332). -/
  | flpUnknownType (n : Fin 65) (type : Byte) (m : HostMsg)
  /-- TLS_HANDSHAKE (R329). -/
  | tlsHandshake (h : Hello)
  /-- IDLE_TIMEOUT (R329). -/
  | idleTimeout (n : Fin 65)
  /-- TELEMETRY_PERIOD (R338). -/
  | telemetryPeriod (n : Fin 65)
  /-- ARP_REQUEST (R326). -/
  | arpRequest (ip : Word)
  /-- ICMP_ECHO (R326). -/
  | icmpEcho (ip : Word) (data : List Byte)
  /-- CLOSED_PORT_FRAME (R326). -/
  | closedPortFrame (tcp : Bool) (port : Half)
  /-- FRAME_DROP (R324). -/
  | frameDrop (k : FrameFault)
  /-- PTP_EVENT_RECEIVE (R327). -/
  | ptpEventReceive (frame : List Byte) (source : Word) (k : Fin 256) (best : Bool)
  /-- DELAY_REQ_TX (R327). -/
  | delayReqTx (seqId : Half) (k : Fin 256)
  /-- PTP_TX_STAMP_READ (R327). -/
  | ptpTxStampRead (b : Bus)
  /-- MDIO_START (R325). -/
  | mdioStart (b : Bus) (v : Word)
  /-- MDIO_COMPLETE (R325). -/
  | mdioComplete (data : Half)
  /-- PHY_MODE_WRITE (R344). -/
  | phyModeWrite (b : Bus) (v : Word)
  /-- TX_QUEUE_OFFER (R333). -/
  | txQueueOffer (sender : Bool) (session : Fin 65) (type flags : Byte) (seq : BitVec 64) (payload : List Byte)
  /-- RESULT_READ (R339). -/
  | resultRead (b : Bus) (r : ResultReg)
  /-- SPLIT_LOW_READ (R341). -/
  | splitLowRead (b : Bus) (a : Word)
  /-- SPLIT_HIGH_WRITE (R341). -/
  | splitHighWrite (b : Bus) (a : Word) (v : Word)
  /-- FAULT_REPORT (R348). -/
  | faultReport (found held : List Report)
  /-- PAIR_BROKEN (R347). -/
  | pairBroken (src : Fin 128)
  /-- PAIR_RESTORED (R347). -/
  | pairRestored (src : Fin 128)
  /-- FAULT_INJECT (R360). -/
  | faultInject (b : Bus) (src : Fin 128)
  /-- NMI_DONE (R354). -/
  | nmiDone (b : Bus) (v : Fin 4)
  /-- ERR_RELEASE (R353). -/
  | errRelease (b : Bus) (v : Fin 4)
  /-- REACT_WRITE (R351). -/
  | reactWrite (b : Bus) (src : Fin 128) (v : Word)
  /-- CAPTURE_CLEAR (R356). -/
  | captureClear (b : Bus)
  /-- NVM_RECORD_READ (R368). -/
  | nvmRecordRead (b : Bus)
  /-- NVM_RECORD_WRITE (R368). -/
  | nvmRecordWrite (b : Bus)
  /-- NVM_RECORD_COMPLETE (R363). -/
  | nvmRecordComplete (corrected ue : Bool)
  /-- IMAGE_SCRUB (R371). -/
  | imageScrub (flips : List (Nat × Word)) (held : List (Fin 1024))
  /-- MRAM_SCRUB_START (R383). -/
  | mramScrubStart (b : Bus)
  /-- SCRUB_RECORD (R383). -/
  | scrubRecord (corrected ue : Bool)
  /-- KEY_AREA_READ (R384). -/
  | keyAreaRead (b : Bus) (slot : Fin 66) (w : Fin 16)
  /-- BOOT_SLOT_SELECT (R382). -/
  | bootSlotSelect (ue : List (Fin 262144))
  /-- PORST_RELEASE (R417). -/
  | porstRelease (pins : Fin 4)
  /-- RESET_RELEASE (R386). -/
  | resetRelease (pins : Fin 4)
  /-- SYS_MODE_REQ_RESET (R392). -/
  | sysModeReqReset (b : Bus)
  /-- SYS_MODE_REQ_LOAD (R391). -/
  | sysModeReqLoad (b : Bus)
  /-- SYS_MODE_REQ_CALIBRATE (R392). -/
  | sysModeReqCalibrate (b : Bus)
  /-- SYS_MODE_REQ_HOLD (R392). -/
  | sysModeReqHold (b : Bus)
  /-- SYS_MODE_REQ_RUN (R392). -/
  | sysModeReqRun (b : Bus)
  /-- SYS_MODE_REQ_KENNEL (R392). -/
  | sysModeReqKennel (b : Bus)
  /-- REC_DATA (R420). -/
  | recData (offset : Word) (data : List Byte)
  /-- REC_COMMIT (R420). -/
  | recCommit (v : Byte)
  /-- JTAG_SAMPLE_PRELOAD (R418). -/
  | jtagSamplePreload (bits : List Bool)
  /-- JTAG_EXTEST (R418). -/
  | jtagExtest (bits : List Bool)
  /-- RAIL_NOT_GOOD (R413). -/
  | railNotGood (r : Fin 6)
  /-- REGISTER_WRITE (R15). -/
  | registerWrite (b : Bus) (width : Width) (a : Word) (v : Word)
  /-- LOST_CONNECTION (R329). -/
  | lostConnection (n : Fin 65)
  /-- DTLS_ASSOCIATION (R330). -/
  | dtlsAssociation (h : Hello)
  /-- REF_CHANGE_COMPLETE (R31). -/
  | refChangeComplete
  /-- PLL_LOCK (R30). -/
  | pllLock
  /-- PLL_UNLOCK (R33). -/
  | pllUnlock
  /-- ROUTE_COMPLETE (R74). -/
  | routeComplete
  /-- BUILD_START (R72). -/
  | buildStart
  /-- BUILD_COMPLETE (R232). -/
  | buildComplete
  /-- RESEED (R88). -/
  | reseed
  /-- RESEED_COMPLETE (R88). -/
  | reseedComplete
  /-- WHISTLE_ACK_CHECK (R93). -/
  | whistleAckCheck
  /-- SCENT_STEP (R107). -/
  | scentStep
  /-- SWEEP_BOUNDARY (R119). -/
  | sweepBoundary
  /-- SCAN_BOUNDARY (R119). -/
  | scanBoundary
  /-- SWEEP_PAUSE_START (R290). -/
  | sweepPauseStart
  /-- CAL_COPY_COMPLETE (R198). -/
  | calCopyComplete
  /-- CAL_ROUND_START (R201). -/
  | calRoundStart
  /-- CAL_COMPUTE (R204). -/
  | calCompute
  /-- CAL_STORE (R212). -/
  | calStore
  /-- SCH_ISSUE (R220). -/
  | schIssue
  /-- REFILL_EDGE (R223). -/
  | refillEdge
  /-- GL_VALIDATION_END (R228). -/
  | glValidationEnd
  /-- GL_ACTIVATE (R229). -/
  | glActivate
  /-- GL_DEFAULT_ACTIVATE (R227). -/
  | glDefaultActivate
  /-- ARM_DECISION (R232). -/
  | armDecision
  /-- DEADLINE_MISSED (R234). -/
  | deadlineMissed
  /-- TIME_STEP (R243). -/
  | timeStep
  /-- PTP_LOSS (R247). -/
  | ptpLoss
  /-- PPS_LOSS (R249). -/
  | ppsLoss
  /-- MINUTE_BOUNDARY (R258). -/
  | minuteBoundary
  /-- LEDGER_RECORD_SPLIT (R257). -/
  | ledgerRecordSplit
  /-- LEDGER_FIFO_PUSH (R259). -/
  | ledgerFifoPush
  /-- LEDGER_DRAIN (R261). -/
  | ledgerDrain
  /-- CHECKPOINT (R377). -/
  | checkpoint
  /-- EVENT_DELIVER (R267). -/
  | eventDeliver
  /-- EVT_CFG_APPLY (R273). -/
  | evtCfgApply
  /-- MODEL_UPDATE (R281). -/
  | modelUpdate
  /-- SHUTDOWN_RECORD (R297). -/
  | shutdownRecord
  /-- DOMAIN_REMOVAL (R296). -/
  | domainRemoval
  /-- DELTA_POST (R307). -/
  | deltaPost
  /-- PAK_HEARTBEAT (R309). -/
  | pakHeartbeat
  /-- PAK_LINK (R309). -/
  | pakLink
  /-- NO_STANDBY_TIMEOUT (R310). -/
  | noStandbyTimeout
  /-- TAKEOVER (R313). -/
  | takeover
  /-- COLD_CLAIM (R312). -/
  | coldClaim
  /-- SWAP_DUE (R317). -/
  | swapDue
  /-- REHEARSAL_START (R318). -/
  | rehearsalStart
  /-- RESYNC_COMPLETE (R320). -/
  | resyncComplete
  /-- TCP_CONNECT (R329). -/
  | tcpConnect
  /-- HANDSHAKE_FAIL (R329). -/
  | handshakeFail
  /-- OUTCOME_NOTIFY (R338). -/
  | outcomeNotify
  /-- NOTE_NOTIFY (R338). -/
  | noteNotify
  /-- FAULT_NOTIFY (R338). -/
  | faultNotify
  /-- LEDGER_NOTIFY (R338). -/
  | ledgerNotify
  /-- MODE_NOTIFY (R338). -/
  | modeNotify
  /-- LINK_UP (R324). -/
  | linkUp
  /-- LINK_DOWN (R324). -/
  | linkDown
  /-- MGT_LINK_DOWN (R345). -/
  | mgtLinkDown
  /-- BLOCK_RESET_RELEASE (R352). -/
  | blockResetRelease
  /-- FAULT_LOG_RECORD (R350). -/
  | faultLogRecord
  /-- CHIP_RESET (R355). -/
  | chipReset
  /-- SHADOW_CLOSE (R357). -/
  | shadowClose
  /-- CAPTURE_WINDOW_END (R349). -/
  | captureWindowEnd
  /-- NVM_TIMEOUT (R345). -/
  | nvmTimeout
  /-- SCRUB_COMPLETE (R383). -/
  | scrubComplete
  /-- SCRUB_DUE (R383). -/
  | scrubDue
  /-- KENNEL_REBUILD (R376). -/
  | kennelRebuild
  /-- IMAGE_DISTRIBUTE (R372). -/
  | imageDistribute
  /-- PORST_ASSERT (R417). -/
  | porstAssert
  /-- LOAD_COMPLETE (R389). -/
  | loadComplete
  /-- MODE_TRANSITION (R394). -/
  | modeTransition
  /-- SMBUS_MODE (R419). -/
  | smbusMode
  /-- SMBUS_TEMP (R419). -/
  | smbusTemp
  /-- SMBUS_POWER (R419). -/
  | smbusPower
  /-- SMBUS_FAULTS (R419). -/
  | smbusFaults
  /-- SMBUS_ID (R419). -/
  | smbusId
  /-- REC_STATUS (R419). -/
  | recStatus
  /-- JTAG_BYPASS (R418). -/
  | jtagBypass
  /-- JTAG_IDCODE (R418). -/
  | jtagIdcode
  /-- PGOOD_RELEASE (R413). -/
  | pgoodRelease
deriving DecidableEq, Repr

end Sys2Proof
end

