-- ==== Sys2Proof/Decode.lean ====
section
/-! DEFINITION. Commands from table words: spec/opcode_table.json gives no row any bits, so a word spells none. The instruction
words of the loop processors (R152, R153), which their program memory holds. -/

namespace Sys2Proof

def decodeTableWord (_nbits _w : Nat) : Option Instr := none

/-! ### Loop-processor words -/

/-- Bits [lo + n − 1 : lo] of a word. -/
def bitsAt (w : Word) (lo n : Nat) : Fin (2 ^ n) := ⟨w.toNat / 2 ^ lo % 2 ^ n, Nat.mod_lt _ (Nat.two_pow_pos n)⟩

/-- UPD; 0b11 is reserved. -/
def decodeUpd (u : Fin 4) : Option Upd :=
  match u with
  | 0 => some .keep
  | 1 => some .plus
  | 2 => some .minus
  | 3 => none

def decodeEa4 (w : Word) (lo : Nat) : Option Ea4 := (decodeUpd (bitsAt w (lo + 2) 2)).map fun u => ⟨u, bitsAt w lo 2⟩

def decodeEa5 (w : Word) (lo : Nat) : Option Ea5 := (decodeUpd (bitsAt w (lo + 3) 2)).map fun u => ⟨u, bitsAt w lo 3⟩

/-- A parallel load of the MAC class with its flag at `on`, its register below it and its address below that; the outer none is
an undefined operand, the inner no load. -/
def decodeMacLoad (w : Word) (on d ea : Nat) : Option (Option MacLoad) :=
  if w.getLsbD on then (decodeEa4 w ea).map fun e => some ⟨bitsAt w d 3, e⟩ else some none

def decodeAluLoad (w : Word) : Option (Option AluLoad) :=
  if w.getLsbD 11 then (decodeEa4 w 3).map fun e => some ⟨w.getLsbD 10, bitsAt w 7 3, e⟩ else some none

/-- The MAC class. FTAP needs both loads; PAR exists in form SINGLE only. -/
def decodeMac (c : Lp) (w : Word) : Option Instr :=
  match decodeMacLoad w 15 12 8, decodeMacLoad w 7 4 0 with
  | some x, some y =>
    let op : Fin 4 := bitsAt w 24 2
    let dx : Fin 8 := bitsAt w 19 3
    let dy : Fin 8 := bitsAt w 16 3
    let form (f : MacForm) : Option Instr :=
      match op with
      | 0 => some (.mpy c f x y)
      | 1 => some (.mac c f x y)
      | 2 => some (.msu c f x y)
      | 3 => none
    match (bitsAt w 26 2 : Fin 4) with
    | 0 => if op = 3 then some (.par c x y) else form (.single (bitsAt w 22 2) dx dy)
    | 1 => form (.qx dx)
    | 2 => form (.qy dy)
    | 3 =>
      match x, y with
      | some x, some y =>
        match op with
        | 0 => some (.ftap c .set (bitsAt w 22 2) x y)
        | 1 => some (.ftap c .add (bitsAt w 22 2) x y)
        | 2 => some (.ftap c .sub (bitsAt w 22 2) x y)
        | 3 => none
      | _, _ => none
  | _, _ => none

def decodeAlu (c : Lp) (w : Word) : Option Instr :=
  match decodeAluLoad w with
  | none => none
  | some ld =>
    let dst : Fin 4 := bitsAt w 21 2
    let src : Fin 4 := bitsAt w 19 2
    let dr : Fin 8 := bitsAt w 16 3
    let imm : Fin 16 := bitsAt w 12 4
    match (bitsAt w 23 5 : Fin 32).val with
    | 0x00 => some (.clr c dst ld)
    | 0x01 => some (.add c dst src ld)
    | 0x02 => some (.sub c dst src ld)
    | 0x03 => some (.addd c dst dr ld)
    | 0x04 => some (.subd c dst dr ld)
    | 0x05 => some (.ldd c dst dr ld)
    | 0x06 => some (.neg c dst ld)
    | 0x07 => some (.abs c dst ld)
    | 0x08 => some (.asl c dst imm ld)
    | 0x09 => some (.asr c dst imm ld)
    | 0x0A => some (.max c dst src ld)
    | 0x0B => some (.min c dst src ld)
    | 0x0C => some (.cmp c dst src ld)
    | 0x0D => some (.lim c dst dr ld)
    | 0x0E => some (.rnd c dst ld)
    | 0x0F => some (.mova c dst src ld)
    | 0x10 => some (.tstd c dr ld)
    | _ => none

def decodeMem (c : Lp) (w : Word) : Option Instr :=
  let d : Fin 8 := bitsAt w 22 3
  let a : Fin 4 := bitsAt w 22 2
  match (bitsAt w 25 3 : Fin 8) with
  | 0 => (decodeEa5 w 17).map fun e => .ldx c d e
  | 1 => (decodeEa5 w 17).map fun e => .ldy c d e
  | 2 => (decodeEa5 w 17).map fun e => .stx c d e
  | 3 => (decodeEa5 w 17).map fun e => .sth c a e (bitsAt w 12 5)
  | 4 => (decodeEa5 w 17).map fun e => .stl c a e
  | 5 => some (.ldxa c d (bitsAt w 0 15))
  | 6 => some (.stxa c d (bitsAt w 0 15))
  | 7 => none

/-- The REG class; a reserved register number is undefined (R143). -/
def decodeReg (c : Lp) (w : Word) : Option Instr :=
  let rd : Fin 64 := bitsAt w 20 6
  let rs : Fin 64 := bitsAt w 10 6
  match (bitsAt w 26 2 : Fin 4) with
  | 0 => if rd.val < 0x33 then some (.ldi c rd (w.setWidth 16)) else none
  | 1 => if rd.val < 0x33 ∧ rs.val < 0x33 then some (.mov c rd rs) else none
  | 2 => (decodeEa5 w 0).map fun e => .upd c e
  | 3 => none

/-- Whether a WAIT condition is defined for a machine (R160). -/
def waitDefined (k : Fin 33) (cond : Fin 16) : Bool := decide (cond.val < 6) && (decide (k.val < 32) || decide (cond.val ≠ 0))

def decodeCtrl (c : Lp) (w : Word) : Option Instr :=
  let target : Fin 8192 := bitsAt w 0 13
  match (bitsAt w 24 4 : Fin 16).val with
  | 0x0 => some (.nop c)
  | 0x1 => some (.jmp c target)
  | 0x2 => some (.jsr c target)
  | 0x3 => some (.rts c)
  | 0x4 => some (.brcc c (bitsAt w 20 3) target)
  | 0x5 => some (.dbnz c (bitsAt w 16 3) target)
  | 0x6 => some (.loop c (bitsAt w 16 5) (if w.getLsbD 23 then .reg (bitsAt w 0 3) else .imm (bitsAt w 0 12)))
  | 0x7 => if waitDefined c.k (bitsAt w 16 4) then some (.wait c (bitsAt w 16 4)) else none
  | 0x8 => some (.clrf c (w.setWidth 8))
  | 0x9 => some (.evt c)
  | 0xA => some (.halt c)
  | _ => none

/-- The instruction a program word spells on a machine; none: undefined (R152). -/
def lpDecode (c : Lp) (w : Word) : Option Instr :=
  match (bitsAt w 28 4 : Fin 16).val with
  | 0x0 => decodeCtrl c w
  | 0x1 => decodeMac c w
  | 0x2 => decodeAlu c w
  | 0x3 => decodeMem c w
  | 0x4 => decodeReg c w
  | _ => none

end Sys2Proof
end

