-- ==== Sys2Proof/Machine/Fabric.lean ====
section
/-! DEFINITION. The Beneš fabric of one plane and the route engine's looping algorithm, as functions of n = log₂N (R38 to R40,
R63 to R68). A set of cells is the ascending list of the numbers s·C + c of its members, with C = 2^(n−1). -/

namespace Sys2Proof.Machine

/-- Output line L of stage s reaches this input line of stage s + 1 (R39). -/
def nextLine (n s L : Nat) : Nat :=
  if s + 2 ≤ n then
    let k := n - s
    let lo := L % 2 ^ k
    (L - lo) + lo / 2 + (lo % 2) * 2 ^ (k - 1)
  else
    let k := s + 3 - n
    let lo := L % 2 ^ k
    (L - lo) + (lo * 2) % 2 ^ k + lo / 2 ^ (k - 1)

/-- The cells that light on line L crosses from stage s on, over `steps` stages, and the line it leaves on, when the cells
of `cross` are CROSS and all others BAR (R40, R43). -/
def traceFrom (n : Nat) (cross : List Nat) : Nat → Nat → Nat → List Nat × Nat
  | 0, _, L => ([], L)
  | steps + 1, s, L =>
    let cell := s * 2 ^ (n - 1) + L / 2
    let out := if cell ∈ cross then (if L % 2 = 0 then L + 1 else L - 1) else L
    if steps = 0 then ([cell], out)
    else
      let (cells, last) := traceFrom n cross steps (s + 1) (nextLine n s out)
      (cell :: cells, last)

/-- The cells on the path of input port i and its output port (R40). -/
def tracePath (n : Nat) (cross : List Nat) (i : Nat) : List Nat × Nat :=
  traceFrom n cross (2 * n - 1) 0 i

/-- The output port that the cells give every input port. -/
def permOfCells (n : Nat) (cross : List Nat) : List Nat :=
  (List.range (2 ^ n)).map fun i => (tracePath n cross i).2

/-- The local mapping that the present cells of a subnetwork of size 2^k at depth d, first line b, realise (R64). -/
def presentMap (n : Nat) (cross : List Nat) : Nat → Nat → Nat → List Nat
  | 0, _, _ => [0]
  | k + 1, d, b =>
    let isCross (s c : Nat) : Bool := decide (s * 2 ^ (n - 1) + c ∈ cross)
    if k = 0 then (if isCross d (b / 2) then [1, 0] else [0, 1])
    else
      let up := presentMap n cross k (d + 1) b
      let dn := presentMap n cross k (d + 1) (b + 2 ^ k)
      (List.range (2 ^ (k + 1))).map fun x =>
        let upper := (x % 2 == 0) != isCross d (b / 2 + x / 2)
        let j := (if upper then up else dn).getD (x / 2) 0
        2 * j + (if upper != isCross (2 * n - 2 - d) (b / 2 + j) then 0 else 1)

/-- The inverse of a permutation given as a list. -/
def invPerm (P : List Nat) : List Nat :=
  (List.range P.length).map fun y => P.findIdx (· == y)

/-- The other line of a pair. -/
def mate (x : Nat) : Nat := if x % 2 = 0 then x + 1 else x - 1

/-- The inputs that assign(x, s) visits, each with `true` where it takes side s and `false` where the other (R65). -/
def loopFrom (P Pinv : List Nat) (x : Nat) : Nat → Nat → List (Nat × Bool)
  | 0, _ => []
  | fuel + 1, z =>
    let y := Pinv.getD (mate (P.getD z 0)) 0
    (z, true) :: (y, false) :: (if mate y = x then [] else loopFrom P Pinv x fuel (mate y))

/-- The input and output line of every stage on the path that enters stage s on line L. -/
def linesFrom (n : Nat) (cross : List Nat) : Nat → Nat → Nat → List (Nat × Nat)
  | 0, _, _ => []
  | steps + 1, s, L =>
    let out := if s * 2 ^ (n - 1) + L / 2 ∈ cross then mate L else L
    (L, out) :: linesFrom n cross steps (s + 1) (nextLine n s out)

/-- The plane input whose path crosses an element of a cell of stage s: S0 and S1 by the cell's input lines, C0 and C1 by its
output lines (R37, R40). -/
def pathInput (n : Nat) (cross : List Nat) (stage cell kind : Nat) : Nat :=
  (List.range (2 ^ n)).findIdx fun i =>
    match (linesFrom n cross (2 * n - 1) 0 i)[stage]? with
    | some (li, lo) => if kind < 2 then li == 2 * cell + kind else lo == 2 * cell + (kind - 2)
    | none => false

/-- One subnetwork as choose_side sees it: its size, its first and last stage's present cells (by local cell), the wanted and
the present mapping, and which local inputs carry pinned connections. -/
structure Subnet where
  size : Nat
  oldFirst : Nat → Bool
  oldLast : Nat → Bool
  P : List Nat
  Pinv : List Nat
  Q : List Nat
  pin : List Bool

/-- The loop's members under side s (`true`: U) for its lowest input: each input with whether it takes U. -/
def Subnet.under (members : List (Nat × Bool)) (s : Bool) : List (Nat × Bool) :=
  members.map fun (z, same) => (z, same == s)

/-- First-stage cells of the loop that change, given which members take U (R65, R66). -/
def Subnet.firstChanges (sn : Subnet) (sides : List (Nat × Bool)) : List Nat :=
  sides.filterMap fun (z, u) => if z % 2 = 0 ∧ sn.oldFirst (z / 2) ≠ !u then some (z / 2) else none

/-- Last-stage cells of the loop that change. -/
def Subnet.lastChanges (sn : Subnet) (sides : List (Nat × Bool)) : List Nat :=
  sides.filterMap fun (z, u) =>
    let y := sn.P.getD z 0
    if y % 2 = 0 ∧ sn.oldLast (y / 2) ≠ !u then some (y / 2) else none

/-- Whether the first-stage or last-stage cell of input z changes. -/
def Subnet.disturbed (sn : Subnet) (fc lc : List Nat) (z : Nat) : Bool :=
  decide (z / 2 ∈ fc ∨ sn.P.getD z 0 / 2 ∈ lc)

/-- K(s), C(s) and whether side s is forbidden (R66). -/
def Subnet.cost (sn : Subnet) (members : List (Nat × Bool)) (s : Bool) : Nat × Nat × Bool :=
  let sides := Subnet.under members s
  let fc := sn.firstChanges sides
  let lc := sn.lastChanges sides
  let kept := sides.filter fun (z, _) => sn.P.getD z 0 == sn.Q.getD z 0 && sn.disturbed fc lc z
  (kept.length, fc.length + lc.length, sides.any fun (z, _) => sn.pin.getD z false && sn.disturbed fc lc z)

/-- choose_side (R66): none is CONFLICT, `some true` is U. -/
def Subnet.chooseSide (sn : Subnet) (members : List (Nat × Bool)) : Option Bool :=
  let (kU, cU, fU) := sn.cost members true
  let (kL, cL, fL) := sn.cost members false
  if fU && fL then none
  else if fU then some false
  else if fL then some true
  else if kU ≠ kL then some (decide (kU < kL))
  else if cU ≠ cL then some (decide (cU < cL))
  else some true

/-- The sides of all inputs (R65): `some true` is U. -/
def Subnet.sides (sn : Subnet) : Option (List (Option Bool)) :=
  (List.range sn.size).foldl (init := some (List.replicate sn.size none)) fun acc x =>
    match acc with
    | none => none
    | some side =>
      if (side.getD x none).isSome then some side
      else
        let members := loopFrom sn.P sn.Pinv x sn.size x
        match sn.chooseSide members with
        | none => none
        | some s => some ((Subnet.under members s).foldl (fun sd (z, u) => sd.set z (some u)) side)

/-- route_subnet (R65): the CROSS cells of the subnetwork of size 2^k at depth d, first line b; none is PINNED_CONFLICT. -/
def routeSubnet (n : Nat) (cross : List Nat) : Nat → Nat → Nat → List Nat → List Bool → Option (List Nat)
  | 0, _, _, _, _ => some []
  | k + 1, d, b, P, pin =>
    let cells := 2 ^ (n - 1)
    if k = 0 then some (if P.getD 0 0 = 0 then [] else [d * cells + b / 2])
    else
      let M := 2 ^ (k + 1)
      let last := 2 * n - 2 - d
      let sn : Subnet :=
        { size := M, oldFirst := fun i => decide (d * cells + (b / 2 + i) ∈ cross),
          oldLast := fun i => decide (last * cells + (b / 2 + i) ∈ cross),
          P := P, Pinv := invPerm P, Q := presentMap n cross (k + 1) d b, pin := pin }
      match sn.sides with
      | none => none
      | some side =>
        let isU (x : Nat) : Bool := side.getD x none == some true
        let firsts := (List.range (M / 2)).filterMap fun i =>
          if isU (2 * i) then none else some (d * cells + (b / 2 + i))
        let lasts := (List.range (M / 2)).filterMap fun j =>
          if isU (sn.Pinv.getD (2 * j) 0) then none else some (last * cells + (b / 2 + j))
        -- the input of local cell i that takes the wanted side
        let pick (u : Bool) (i : Nat) : Nat := if isU (2 * i) == u then 2 * i else 2 * i + 1
        let sub (u : Bool) : List Nat := (List.range (M / 2)).map fun i => P.getD (pick u i) 0 / 2
        let subPin (u : Bool) : List Bool := (List.range (M / 2)).map fun i => pin.getD (pick u i) false
        match routeSubnet n cross k (d + 1) b (sub true) (subPin true),
              routeSubnet n cross k (d + 1) (b + M / 2) (sub false) (subPin false) with
        | some upper, some lower => some (firsts ++ lasts ++ upper ++ lower)
        | _, _ => none

/-- The whole permutation routed against the present cells (R65): the new CROSS cells in ascending order. -/
def routeAll (n : Nat) (cross : List Nat) (P : List Nat) (pin : List Bool) : Option (List Nat) :=
  (routeSubnet n cross n 0 0 P pin).map fun cells =>
    (List.range ((2 * n - 1) * 2 ^ (n - 1))).filter fun c => cells.contains c

/-- Cells whose state differs between two sets (R68). -/
def changedCells (n : Nat) (old new : List Nat) : List Nat :=
  (List.range ((2 * n - 1) * 2 ^ (n - 1))).filter fun c => old.contains c != new.contains c

/-- The inputs whose path in either map crosses a changed cell, ascending (R68). -/
def blinkInputs (n : Nat) (old new changed : List Nat) : List Nat :=
  (List.range (2 ^ n)).filter fun i =>
    (tracePath n old i).1.any changed.contains || (tracePath n new i).1.any changed.contains

/-- The full permutation of R63: `want[i]` is the output of input i's connection, if it carries one; `base` is the base map's
permutation. Idle routes that still end at an unconnected output stay; the rest pair in ascending order. -/
def withIdleRoutes (want : List (Option Nat)) (base : List Nat) : List Nat :=
  let ports := List.range base.length
  let taken (o : Nat) : Bool := want.contains (some o)
  let step1 : List (Option Nat) := ports.map fun i =>
    match want.getD i none with
    | some o => some o
    | none => if taken (base.getD i 0) then none else some (base.getD i 0)
  let freeOuts := ports.filter fun o => !step1.contains (some o)
  (step1.foldl (fun (acc : List Nat × List Nat) r =>
    match r with
    | some o => (acc.1 ++ [o], acc.2)
    | none => (acc.1 ++ [acc.2.headD 0], acc.2.tail)) ([], freeOuts)).1

end Sys2Proof.Machine
end

