-- ==== Sys2Proof/Machine/Regs.lean ====
section
/-! DEFINITION. Bus addresses of the registers and memories (R400, R404 to R407) and the reset words of the registers (R13). -/

namespace Sys2Proof.Machine

/-! ### Block bases (R400) -/

abbrev Reg.sys : Nat := 0x40000000
abbrev Reg.tim : Nat := 0x40010000
abbrev Reg.evt : Nat := 0x40020000
abbrev Reg.sch : Nat := 0x40030000
abbrev Reg.rte : Nat := 0x40040000
abbrev Reg.flt : Nat := 0x40050000
abbrev Reg.pwr : Nat := 0x40060000
abbrev Reg.nvm : Nat := 0x40070000
abbrev Reg.mgt : Nat := 0x40080000
abbrev Reg.pak : Nat := 0x40090000
abbrev Reg.cal : Nat := 0x400A0000
abbrev Reg.drv : Nat := 0x400B0000
abbrev Reg.sns : Nat := 0x400C0000
/-- Base of loop processor k's window (R400). -/
abbrev Reg.lp (k : Nat) : Nat := 0x41000000 + k * 0x100000

/-! ### SYS (R29, R51, R399) -/

abbrev Reg.sysId : Nat := 0x40000000
abbrev Reg.sysMode : Nat := 0x40000004
abbrev Reg.sysModeReq : Nat := 0x40000008
abbrev Reg.sysResetCause : Nat := 0x4000000C
abbrev Reg.sysClkCtl : Nat := 0x40000040
abbrev Reg.sysClkStat : Nat := 0x40000044
abbrev Reg.sysPilotStat : Nat := 0x40000050

/-! ### TIM (R263) -/

abbrev Reg.timCtl : Nat := 0x40010000
abbrev Reg.timStat : Nat := 0x40010004
abbrev Reg.timNowSecLo : Nat := 0x40010010
abbrev Reg.timNowSecHi : Nat := 0x40010014
abbrev Reg.timNowNs : Nat := 0x40010018
abbrev Reg.timNowFrac : Nat := 0x4001001C
abbrev Reg.timRateLo : Nat := 0x40010020
abbrev Reg.timRateHi : Nat := 0x40010024
abbrev Reg.timAdjFrac : Nat := 0x40010028
abbrev Reg.timAdjNs : Nat := 0x4001002C
abbrev Reg.timSetSecLo : Nat := 0x40010030
abbrev Reg.timSetSecHi : Nat := 0x40010034
abbrev Reg.timSetNs : Nat := 0x40010038
abbrev Reg.timAsymMgtRx : Nat := 0x40010040
abbrev Reg.timAsymMgtTx : Nat := 0x40010044
abbrev Reg.timAsymPpsIn : Nat := 0x40010048
abbrev Reg.timAsymTout (k : Nat) : Nat := 0x40010050 + 4 * k
abbrev Reg.timPpsErr : Nat := 0x40010060
abbrev Reg.timPtpOffset : Nat := 0x40010064
abbrev Reg.timPtpCfg : Nat := 0x40010068
abbrev Reg.timPtpMaster : Nat := 0x4001006C
abbrev Reg.timCmpCtl (c : Nat) : Nat := 0x40011000 + 32 * c
abbrev Reg.timCmpNs (c : Nat) : Nat := 0x40011004 + 32 * c
abbrev Reg.timCmpSecLo (c : Nat) : Nat := 0x40011008 + 32 * c
abbrev Reg.timCmpSecHi (c : Nat) : Nat := 0x4001100C + 32 * c
abbrev Reg.timCmpPeriod (c : Nat) : Nat := 0x40011010 + 32 * c
abbrev Reg.timCmpCount (c : Nat) : Nat := 0x40011014 + 32 * c
abbrev Reg.timCmpStat (c : Nat) : Nat := 0x40011018 + 32 * c
abbrev Reg.timToutCtl (k : Nat) : Nat := 0x40012000 + 32 * k
abbrev Reg.timToutNs (k : Nat) : Nat := 0x40012004 + 32 * k
abbrev Reg.timToutSecLo (k : Nat) : Nat := 0x40012008 + 32 * k
abbrev Reg.timToutSecHi (k : Nat) : Nat := 0x4001200C + 32 * k
abbrev Reg.timToutPeriod (k : Nat) : Nat := 0x40012010 + 32 * k
abbrev Reg.timToutWidth (k : Nat) : Nat := 0x40012014 + 32 * k
abbrev Reg.timToutCount (k : Nat) : Nat := 0x40012018 + 32 * k
abbrev Reg.timLedStat : Nat := 0x40013004
abbrev Reg.timLedFifo (i : Nat) : Nat := 0x40013010 + 4 * i
abbrev Reg.timLedOvfLo : Nat := 0x40013028
abbrev Reg.timLedOvfHi : Nat := 0x4001302C
abbrev Reg.timLedTake : Nat := 0x40013030
abbrev Reg.timLedHold (i : Nat) : Nat := 0x40013040 + 4 * i

/-! ### EVT (R275) -/

abbrev Reg.evtStat : Nat := 0x40020004
abbrev Reg.evtCfgData : Nat := 0x40020010
abbrev Reg.evtCfgReq : Nat := 0x40020014
abbrev Reg.evtCoincSrc : Nat := 0x40020020
abbrev Reg.evtLoopSrc : Nat := 0x40020024
abbrev Reg.evtSwTrig : Nat := 0x40020030
abbrev Reg.evtNotePendLo : Nat := 0x40020040
abbrev Reg.evtNotePendHi : Nat := 0x40020044
abbrev Reg.evtIrqPend : Nat := 0x40020048
abbrev Reg.evtChCfg (n : Nat) : Nat := 0x40021000 + 4 * n
abbrev Reg.evtChCnt (n : Nat) : Nat := 0x40021100 + 4 * n
abbrev Reg.evtConsStat (i : Nat) : Nat := 0x40022000 + 4 * i

/-! ### SCH (R238) -/

abbrev Reg.schCtl : Nat := 0x40030000
abbrev Reg.schStat : Nat := 0x40030004
abbrev Reg.schGuard : Nat := 0x40030008
abbrev Reg.schLead : Nat := 0x4003000C
abbrev Reg.schCost : Nat := 0x40030010
abbrev Reg.schArm : Nat := 0x40030014
abbrev Reg.schArmNs : Nat := 0x40030018
abbrev Reg.schPause : Nat := 0x4003001C
abbrev Reg.schEResv : Nat := 0x40030020
abbrev Reg.schLastSeqLo : Nat := 0x40030024
abbrev Reg.schLastSeqHi : Nat := 0x40030028
abbrev Reg.schReq (i : Nat) : Nat := 0x40030030 + 4 * i
abbrev Reg.schOut (i : Nat) : Nat := 0x40030050 + 4 * i
abbrev Reg.schOprQ : Nat := 0x40030060
abbrev Reg.schGlCmd : Nat := 0x40030100
abbrev Reg.schGlStat : Nat := 0x40030104
abbrev Reg.schGlActCycle : Nat := 0x40030108
abbrev Reg.schGlActLen : Nat := 0x4003010C
abbrev Reg.schGlActBaseNs : Nat := 0x40030110
abbrev Reg.schGlActBaseSecLo : Nat := 0x40030114
abbrev Reg.schGlActBaseSecHi : Nat := 0x40030118
abbrev Reg.schGlPos : Nat := 0x4003011C
abbrev Reg.schGlPendCycle : Nat := 0x40030120
abbrev Reg.schGlPendLen : Nat := 0x40030124
abbrev Reg.schGlPendStartNs : Nat := 0x40030128
abbrev Reg.schGlPendStartSecLo : Nat := 0x4003012C
abbrev Reg.schGlPendStartSecHi : Nat := 0x40030130
abbrev Reg.schGlAct (i : Nat) : Nat := 0x40031000 + 4 * i
abbrev Reg.schGlPend (i : Nat) : Nat := 0x40032000 + 4 * i
abbrev Reg.schTbRate (t : Nat) : Nat := 0x40034000 + 16 * t
abbrev Reg.schTbBurst (t : Nat) : Nat := 0x40034004 + 16 * t
abbrev Reg.schTbCredit (t : Nat) : Nat := 0x40034008 + 16 * t
abbrev Reg.schTbQueue (t : Nat) : Nat := 0x4003400C + 16 * t

/-! ### RTE (R80) -/

abbrev Reg.rteCtl : Nat := 0x40040000
abbrev Reg.rteCmd : Nat := 0x40040004
abbrev Reg.rteSeqLo : Nat := 0x40040008
abbrev Reg.rteSeqHi : Nat := 0x4004000C
abbrev Reg.rteLastSeqLo : Nat := 0x40040010
abbrev Reg.rteLastSeqHi : Nat := 0x40040014
abbrev Reg.rteStat : Nat := 0x40040018
abbrev Reg.rteResult : Nat := 0x40040020
abbrev Reg.rteResultSeqLo : Nat := 0x40040024
abbrev Reg.rteResultSeqHi : Nat := 0x40040028
abbrev Reg.rteEnergy : Nat := 0x4004002C
abbrev Reg.rteCycles : Nat := 0x40040030
abbrev Reg.rteVrail : Nat := 0x40040034
abbrev Reg.rtePin (k : Nat) : Nat := 0x40040100 + 4 * k
abbrev Reg.rteTarget (i : Nat) : Nat := 0x40041000 + 4 * i
abbrev Reg.rteMapCur (i : Nat) : Nat := 0x40042000 + 4 * i
abbrev Reg.rteMapBase (i : Nat) : Nat := 0x40042800 + 4 * i
abbrev Reg.rteBlink (i : Nat) : Nat := 0x40043000 + 4 * i
abbrev Reg.rteCellmap (i : Nat) : Nat := 0x40044000 + 4 * i
abbrev Reg.rteChanged (i : Nat) : Nat := 0x40045000 + 4 * i

/-! ### FLT (R362) -/

abbrev Reg.fltCtl : Nat := 0x40050000
abbrev Reg.fltStat : Nat := 0x40050004
abbrev Reg.fltSticky (w : Nat) : Nat := 0x40050010 + 4 * w
abbrev Reg.fltConseq (w : Nat) : Nat := 0x40050020 + 4 * w
abbrev Reg.fltWireMap (w : Nat) : Nat := 0x40050030 + 4 * w
abbrev Reg.fltCapStat : Nat := 0x40050040
abbrev Reg.fltCapInfo : Nat := 0x40050044
abbrev Reg.fltCapAddr : Nat := 0x40050048
abbrev Reg.fltCapSecLo : Nat := 0x4005004C
abbrev Reg.fltCapSecHi : Nat := 0x40050050
abbrev Reg.fltCapNs : Nat := 0x40050054
abbrev Reg.fltConseqCnt : Nat := 0x40050058
abbrev Reg.fltInject : Nat := 0x40050060
abbrev Reg.fltShadow : Nat := 0x40050070
abbrev Reg.fltShadowLpLo : Nat := 0x40050074
abbrev Reg.fltShadowLpHi : Nat := 0x40050078
abbrev Reg.fltReact (i : Nat) : Nat := 0x40050100 + 4 * i

/-! ### PWR and THM (chapter 12) -/

abbrev Reg.pwrCtl : Nat := 0x40060000
abbrev Reg.pwrStat : Nat := 0x40060004
abbrev Reg.pwrAllot : Nat := 0x40060008
abbrev Reg.pwrAllotEff : Nat := 0x4006000C
abbrev Reg.pwrBudget : Nat := 0x40060010
abbrev Reg.pwrEbktCap : Nat := 0x40060014
abbrev Reg.pwrEbktLevel : Nat := 0x40060018
abbrev Reg.pwrERatio : Nat := 0x4006001C
abbrev Reg.pwrTotal : Nat := 0x40060020
abbrev Reg.pwrMonV (r : Nat) : Nat := 0x40060100 + 8 * r
abbrev Reg.pwrMonI (r : Nat) : Nat := 0x40060104 + 8 * r
abbrev Reg.pwrUvThr (r : Nat) : Nat := 0x40060200 + 4 * r
abbrev Reg.thmCtl : Nat := 0x40061000
abbrev Reg.thmStat : Nat := 0x40061004
abbrev Reg.thmTj : Nat := 0x40061008
abbrev Reg.thmAnchor : Nat := 0x4006100C
abbrev Reg.thmNode (i : Nat) : Nat := 0x40061010 + 4 * i
abbrev Reg.thmLimCold : Nat := 0x40061050
abbrev Reg.thmLimHot : Nat := 0x40061054
abbrev Reg.thmLimSd : Nat := 0x40061058
abbrev Reg.thmDiv : Nat := 0x4006105C
abbrev Reg.thmSdSecLo : Nat := 0x40061060
abbrev Reg.thmSdSecHi : Nat := 0x40061064
abbrev Reg.thmSdNs : Nat := 0x40061068
abbrev Reg.thmSweepPause : Nat := 0x4006106C

/-! ### NVM (chapter 16) -/

abbrev Reg.nvmCtl : Nat := 0x40070000
abbrev Reg.nvmStat : Nat := 0x40070004
abbrev Reg.nvmRecAddr : Nat := 0x40070008
abbrev Reg.nvmRecCmd : Nat := 0x4007000C
abbrev Reg.nvmBoot : Nat := 0x40070010
abbrev Reg.nvmImgGen : Nat := 0x40070014
abbrev Reg.nvmScrubSecLo : Nat := 0x40070018
abbrev Reg.nvmScrubSecHi : Nat := 0x4007001C
abbrev Reg.nvmCnt : Nat := 0x40070020
abbrev Reg.nvmRecBuf (i : Nat) : Nat := 0x40070100 + 4 * i
abbrev Reg.nvmKey (s w : Nat) : Nat := 0x40078000 + 64 * s + 4 * w

/-! ### MGT (chapter 14) -/

abbrev Reg.mgtCtl : Nat := 0x40080000
abbrev Reg.mgtStat : Nat := 0x40080004
abbrev Reg.mgtPhyCtl : Nat := 0x40080008
abbrev Reg.mgtMdio : Nat := 0x4008000C
abbrev Reg.mgtMacLo : Nat := 0x40080010
abbrev Reg.mgtMacHi : Nat := 0x40080014
abbrev Reg.mgtIp : Nat := 0x40080018
abbrev Reg.mgtMask : Nat := 0x4008001C
abbrev Reg.mgtGw : Nat := 0x40080020
abbrev Reg.mgtPtpTxSeq : Nat := 0x40080030
abbrev Reg.mgtPtpTxSecLo : Nat := 0x40080034
abbrev Reg.mgtPtpTxSecHi : Nat := 0x40080038
abbrev Reg.mgtPtpTxNs : Nat := 0x4008003C
abbrev Reg.mgtPtpTxFrac : Nat := 0x40080040
abbrev Reg.mgtLastSeqLo : Nat := 0x40080044
abbrev Reg.mgtLastSeqHi : Nat := 0x40080048
abbrev Reg.mgtCnt : Nat := 0x40080050
abbrev Reg.mgtSess (s : Nat) : Nat := 0x40080100 + 4 * s

/-! ### PAK (chapter 13) -/

abbrev Reg.pakRole : Nat := 0x40090000
abbrev Reg.pakCtl : Nat := 0x40090004
abbrev Reg.pakStat : Nat := 0x40090008
abbrev Reg.pakSeqLo : Nat := 0x40090010
abbrev Reg.pakSeqHi : Nat := 0x40090014
abbrev Reg.pakSeqBaseLo : Nat := 0x40090018
abbrev Reg.pakSeqBaseHi : Nat := 0x4009001C
abbrev Reg.pakCycle : Nat := 0x40090020
abbrev Reg.pakCycSecLo : Nat := 0x40090024
abbrev Reg.pakCycSecHi : Nat := 0x40090028
abbrev Reg.pakCycNs : Nat := 0x4009002C
abbrev Reg.pakSwapPeriod : Nat := 0x40090030
abbrev Reg.pakLastSw : Nat := 0x40090034
abbrev Reg.pakSwSecLo : Nat := 0x40090038
abbrev Reg.pakSwSecHi : Nat := 0x4009003C
abbrev Reg.pakSwNs : Nat := 0x40090040
abbrev Reg.pakSwCnt : Nat := 0x40090044
abbrev Reg.pakLog : Nat := 0x40090048
abbrev Reg.pakEcc (m : Nat) : Nat := 0x40090050 + 4 * m

/-! ### CAL (R215) -/

abbrev Reg.calCtl : Nat := 0x400A0000
abbrev Reg.calCmd : Nat := 0x400A0004
abbrev Reg.calStat : Nat := 0x400A0008
abbrev Reg.calTrig : Nat := 0x400A000C
abbrev Reg.calWin : Nat := 0x400A0010
abbrev Reg.calLimits : Nat := 0x400A0014
abbrev Reg.calGen : Nat := 0x400A0018
abbrev Reg.calEstimated : Nat := 0x400A001C
abbrev Reg.calRejected : Nat := 0x400A0020
abbrev Reg.calTcal (r : Nat) : Nat := 0x400A0040 + 4 * r
abbrev Reg.calPtr : Nat := 0x400A0080
abbrev Reg.calData : Nat := 0x400A0084
abbrev Reg.calStore : Nat := 0x400A0088
abbrev Reg.calResult : Nat := 0x400A008C

/-! ### DRV (R110) -/

abbrev Reg.drvCtl : Nat := 0x400B0000
abbrev Reg.drvStat : Nat := 0x400B0004
abbrev Reg.drvVerify : Nat := 0x400B0008
abbrev Reg.drvWhistleCnt : Nat := 0x400B000C
abbrev Reg.drvWhistleChg : Nat := 0x400B0010
abbrev Reg.drvAckmapLo : Nat := 0x400B0014
abbrev Reg.drvAckmapHi : Nat := 0x400B0018
abbrev Reg.drvRailcomp : Nat := 0x400B0020
abbrev Reg.drvProbe : Nat := 0x400B0024
abbrev Reg.drvOpenThr : Nat := 0x400B0028
abbrev Reg.drvLeakThr : Nat := 0x400B002C
abbrev Reg.drvFltFifo : Nat := 0x400B0030
abbrev Reg.drvResume : Nat := 0x400B0034
abbrev Reg.drvScentCtl (g : Nat) : Nat := 0x400B0100 + 16 * g
abbrev Reg.drvScentFtw (g : Nat) : Nat := 0x400B0104 + 16 * g
abbrev Reg.drvScentPhase (g : Nat) : Nat := 0x400B0108 + 16 * g
abbrev Reg.drvScentMon (g : Nat) : Nat := 0x400B010C + 16 * g
abbrev Reg.drvScentResult (g : Nat) : Nat := 0x400B0200 + 4 * g
abbrev Reg.drvSusp (k : Nat) : Nat := 0x400B1000 + 4 * k
abbrev Reg.drvTileCrc (t : Nat) : Nat := 0x400B3000 + 4 * t
abbrev Reg.drvScentTable (i : Nat) : Nat := 0x400B4000 + 4 * i

/-! ### SNS (R134) -/

abbrev Reg.snsCtl : Nat := 0x400C0000
abbrev Reg.snsStat : Nat := 0x400C0004
abbrev Reg.snsSweepCnt : Nat := 0x400C0008
abbrev Reg.snsPscanCnt : Nat := 0x400C000C
abbrev Reg.snsPhase : Nat := 0x400C0010
abbrev Reg.snsLaneCfg (l : Nat) : Nat := 0x400C1000 + 4 * l
abbrev Reg.snsLaneStat (l : Nat) : Nat := 0x400C2000 + 4 * l
abbrev Reg.snsFstale (l w : Nat) : Nat := 0x400C3000 + 16 * l + 4 * w
abbrev Reg.snsTdac (l : Nat) : Nat := 0x400C6000 + 4 * l
abbrev Reg.snsTempCal (l : Nat) : Nat := 0x400C7000 + 4 * l

/-! ### Loop processor windows (R170, R406) -/

abbrev Reg.lpCtl (k : Nat) : Nat := Reg.lp k
abbrev Reg.lpStat (k : Nat) : Nat := Reg.lp k + 0x0004
abbrev Reg.lpPc (k : Nat) : Nat := Reg.lp k + 0x0008
abbrev Reg.lpAct (k : Nat) : Nat := Reg.lp k + 0x000C
abbrev Reg.lpVlost (k : Nat) : Nat := Reg.lp k + 0x0010
abbrev Reg.lpEcc (k : Nat) : Nat := Reg.lp k + 0x0014
abbrev Reg.lpWdog (k : Nat) : Nat := Reg.lp k + 0x0018
abbrev Reg.lpXrec (k : Nat) : Nat := Reg.lp k + 0x0020
abbrev Reg.lpYrec (k : Nat) : Nat := Reg.lp k + 0x0024
abbrev Reg.lpCbank (k : Nat) : Nat := Reg.lp k + 0x0028
abbrev Reg.lpGswapLo : Nat := 0x41000030
abbrev Reg.lpGswapHi : Nat := 0x41000034

/-! ### Reset words -/

/-- The first quarter of the Scent table: round(32,767·sin(2π·i/1,024)) for i = 0 to 256 (R110). -/
def Reg.quarterSine : List Nat :=
  [0, 201, 402, 603, 804, 1005, 1206, 1407, 1608, 1809, 2009, 2210, 2410, 2611, 2811, 3012] ++
  [3212, 3412, 3612, 3811, 4011, 4210, 4410, 4609, 4808, 5007, 5205, 5404, 5602, 5800, 5998, 6195] ++
  [6393, 6590, 6786, 6983, 7179, 7375, 7571, 7767, 7962, 8157, 8351, 8545, 8739, 8933, 9126, 9319] ++
  [9512, 9704, 9896, 10087, 10278, 10469, 10659, 10849, 11039, 11228, 11417, 11605, 11793, 11980, 12167, 12353] ++
  [12539, 12725, 12910, 13094, 13279, 13462, 13645, 13828, 14010, 14191, 14372, 14553, 14732, 14912, 15090, 15269] ++
  [15446, 15623, 15800, 15976, 16151, 16325, 16499, 16673, 16846, 17018, 17189, 17360, 17530, 17700, 17869, 18037] ++
  [18204, 18371, 18537, 18703, 18868, 19032, 19195, 19357, 19519, 19680, 19841, 20000, 20159, 20317, 20475, 20631] ++
  [20787, 20942, 21096, 21250, 21403, 21554, 21705, 21856, 22005, 22154, 22301, 22448, 22594, 22739, 22884, 23027] ++
  [23170, 23311, 23452, 23592, 23731, 23870, 24007, 24143, 24279, 24413, 24547, 24680, 24811, 24942, 25072, 25201] ++
  [25329, 25456, 25582, 25708, 25832, 25955, 26077, 26198, 26319, 26438, 26556, 26674, 26790, 26905, 27019, 27133] ++
  [27245, 27356, 27466, 27575, 27683, 27790, 27896, 28001, 28105, 28208, 28310, 28411, 28510, 28609, 28706, 28803] ++
  [28898, 28992, 29085, 29177, 29268, 29358, 29447, 29534, 29621, 29706, 29791, 29874, 29956, 30037, 30117, 30195] ++
  [30273, 30349, 30424, 30498, 30571, 30643, 30714, 30783, 30852, 30919, 30985, 31050, 31113, 31176, 31237, 31297] ++
  [31356, 31414, 31470, 31526, 31580, 31633, 31685, 31736, 31785, 31833, 31880, 31926, 31971, 32014, 32057, 32098] ++
  [32137, 32176, 32213, 32250, 32285, 32318, 32351, 32382, 32412, 32441, 32469, 32495, 32521, 32545, 32567, 32589] ++
  [32609, 32628, 32646, 32663, 32678, 32692, 32705, 32717, 32728, 32737, 32745, 32752, 32757, 32761, 32765, 32766] ++
  [32767]

/-- The reset word of DRV_SCENT_TABLE[i]: the whole wave from its first quarter (R110). -/
def Reg.sineWord (i : Nat) : Word :=
  let q (j : Nat) : Nat := Reg.quarterSine.getD j 0
  let neg (v : Nat) : Word := BitVec.ofNat 32 ((65536 - v) % 65536)
  if i ≤ 256 then BitVec.ofNat 32 (q i)
  else if i ≤ 512 then BitVec.ofNat 32 (q (512 - i))
  else if i ≤ 768 then neg (q (i - 512))
  else neg (q (1024 - i))

/-- The default reaction of source i, as the word of FLT_REACT[i]: ERR in bit 4, ACTION in bits 2 to 0 (R345). -/
def Reg.reactDefault (i : Nat) : Word :=
  if i ∈ [1, 4, 127] then 0x14
  else if i ∈ [2, 13, 18, 19, 65, 96, 98, 104, 114, 126] then 0x11
  else if i = 14 then 0x10
  else if i ∈ [48, 49, 50, 51, 106, 115] then 0x3
  else if i ∈ [0, 3, 8, 9, 10, 11, 12, 15, 16, 17, 32, 33, 34, 52, 57, 58, 59, 60, 64, 66, 80, 81, 82,
      83, 97, 105, 112, 113] then 0x1
  else 0

/-- The word a register holds after the reset of its block (R13); a register the spec gives no reset word reads 0. -/
def Reg.resetWord (a : Nat) : Word :=
  if a < 0x40030000 then 0
  else if a < 0x40040000 then
    if a = Reg.schCtl then 1
    else if a = Reg.schGuard then 0x19
    else if a = Reg.schLead then 0x03200096
    else if a = Reg.schCost then 0x40
    else if a = Reg.schOprQ then 0x20
    else if 0x40034000 ≤ a ∧ a < 0x40034400 then
      if a % 16 = 0 then 0x000186A0 else if a % 16 = 4 then 0x1000 else if a % 16 = 8 then 0x1000 else 0x20
    else 0
  else if a < 0x40050000 then (if a = Reg.rteVrail then 0x1B58 else 0)
  else if a < 0x40060000 then
    if a = Reg.fltCtl then 2
    else if 0x40050100 ≤ a ∧ a < 0x40050300 then Reg.reactDefault ((a - 0x40050100) / 4)
    else 0
  else if a < 0x40070000 then
    if a = Reg.pwrCtl then 1
    else if a = Reg.pwrAllot then 0x12C
    else if a = Reg.pwrAllotEff then 0x12C
    else if a = Reg.pwrBudget then 0xFA0
    else if a = Reg.pwrEbktCap then 0xBEBC2000
    else if a = Reg.pwrEbktLevel then 0xBEBC2000
    else if a = Reg.pwrERatio then 0x4000
    else if 0x40060200 ≤ a ∧ a < 0x40060220 then 0x5A
    else if a = Reg.thmCtl then 1
    else if a = Reg.thmLimCold then 0xFDD0FD60
    else if a = Reg.thmLimHot then 0x09100870
    else if a = Reg.thmLimSd then 0x182009B0
    else if a = Reg.thmDiv then 0x18
    else 0
  else if a < 0x40090000 then (if a = Reg.mgtCtl then 0x3C00 else 0)
  else if a < 0x400A0000 then
    if a = Reg.pakCtl then 5 else if a = Reg.pakSwapPeriod then 0x15180 else 0
  else if a < 0x400B0000 then
    if a = Reg.calCtl then 9
    else if a = Reg.calTrig then 0x00180010
    else if a = Reg.calWin then 0x400
    else if a = Reg.calLimits then 0x30A
    else if a = Reg.calStore then 0x3C
    else 0
  else if a < 0x400C0000 then
    if a = Reg.drvCtl then 0xF
    else if a = Reg.drvStat then 1
    else if a = Reg.drvRailcomp then 0x40004000
    else if a = Reg.drvProbe then 0x20
    else if a = Reg.drvOpenThr then 0xA1E
    else if a = Reg.drvLeakThr then 0x00050014
    else if 0x400B0100 ≤ a ∧ a < 0x400B0180 then (if a % 16 = 12 then 0x00040000 else 0)
    else if 0x400B4000 ≤ a ∧ a < 0x400B5000 then Reg.sineWord ((a - 0x400B4000) / 4)
    else 0
  else if a < 0x400D0000 then
    if a = Reg.snsCtl then 0x800
    else if 0x400C1000 ≤ a ∧ a < 0x400C1800 then 0x00070283
    else if 0x400C1800 ≤ a ∧ a < 0x400C1880 then 0x00050180
    else if 0x400C6000 ≤ a ∧ a < 0x400C6880 then 0x200
    else 0
  else if 0x41000000 ≤ a ∧ a < 0x43100000 ∧ a % 0x100000 = 0x18 then 0x80
  else 0

end Sys2Proof.Machine
end

