-- ==== Sys2Proof/Image.lean ====
section
/-! DEFINITION. What a verified structure image gives the blocks (R370). -/

namespace Sys2Proof

structure Image where
  /-- ELEMENT_MAP: lane·72 + slot + 1, and drive cell, by element. -/
  laneSlot : Mem
  driveCell : Mem
  /-- SCAN_ORDER: the slot at 128·lane + position. -/
  scanOrder : Mem
  /-- LP_PROGRAM at 8,192·k + address; whether machine k runs the vendor's standard program. -/
  program : Mem
  standard : List Bool
  /-- LP_COEFF at 4,096·k + address, banks A and B. -/
  coeffA : Mem
  coeffB : Mem
  /-- EVENT_ROUTES by channel. -/
  routes : Mem
  /-- GATE_LIST: CYCLE, and the entries' w0, w1 and w2. -/
  gateCycle : Nat
  gateEntries : List (Word × Word × Word)
  /-- KENNEL_REF: map words by input, and the CROSS cells of a plane. -/
  kennelMap : Mem
  kennelCells : List Nat
  /-- LIMITS: the pilot laser's set power, 10 µW per LSB (R48). -/
  pilotPower : Nat
  /-- LIMITS: the thermal model's capacities, conductances and boundary conductances (R280). -/
  cth : List Rat
  g : List (List Rat)
  gb : List Rat
  /-- LIMITS: THM_LIM_COLD, THM_LIM_HOT, THM_LIM_SD, PWR_ALLOT, CAL_LIMITS and LP_WDOG. -/
  limCold : Word
  limHot : Word
  limSd : Word
  allot : Word
  calLimits : Word
  wdog : List Word
  /-- OWNERSHIP: owner tenant by input and by output; the initial operator key. -/
  ownIn : List (Option (Fin 64))
  ownOut : List (Option (Fin 64))
  operatorKey : Option (List Word)
  /-- NETWORK: MGT_IP, MGT_MASK, MGT_GW, TIM_PTP_CFG, TIM_PTP_MASTER. -/
  ip : Word
  mask : Word
  gw : Word
  ptpCfg : Word
  ptpMaster : Word
deriving DecidableEq, Repr, Inhabited

end Sys2Proof
end

