-- ==== Sys2Proof/Config.lean ====
section
/-! DEFINITION. The free values of the model: constants without a body, for what the spec leaves open. -/

namespace Sys2Proof

/-- Which way a published model value is rounded, by the number of free values taken so far (R281, R294, R297). -/
opaque Config.freeRound : Nat → Bool

/-- A word the spec leaves open, by the number of free values taken so far. -/
opaque Config.freeWord : Nat → Word

/-- The engine's random key pair (R380, FIPS 186-5): its 16 public-key words, by the number of free values taken so far. -/
opaque Config.freeKey : Nat → List Word

/-- Whether an ECDSA P-256 signature verifies (R369, FIPS 186-5): key words, signed tile words, signature words. -/
opaque Config.signatureOk : List Word → List Word → List Word → Bool

/-- The vendor public key in the boot ROM (R369), and the words of the boot ROM (R400). -/
opaque Config.vendorKey : List Word
opaque Config.bootRom : Nat → Word

/-- What the sections of an image's tiles mean: the spec names their contents and leaves their byte layout open (R370). -/
opaque Config.imageOf : List Word → Image

/-- Whether an image passes those checks marked E that its sections' bytes alone decide: TOPOLOGY, and the limits that no chapter gives a
range (R373). -/
opaque Config.checksOk : List Word → Bool

/-- The RATE that the PTP servo's PI law gives, from the RATE before, the offset in 2^−8 ns and the free values taken so far:
the spec gives its time constant alone (R247). -/
opaque Config.ptpRate : Int → Int → Nat → Int

/-- The amplitude the standard port program reports from a generator's samples and frequency word (R109). -/
opaque Config.scentAmplitude : List Nat → Word → Half

/-- PI of a plane input from the latest results of its plane's output pilot monitors with the pilot alone (R210): the spec gives no
formula. -/
opaque Config.pilotFactor : Nat → List Word → Half

end Sys2Proof
end

