-- ==== Sys2Proof/Machine/State.lean ====
section
/-! DEFINITION. The state of the block: everything the spec gives the engine, as plain data, and the state after reset. -/

namespace Sys2Proof.Machine

open Sys2Proof

/-- The block has no stopping fault: every fault of the engine is reported to its own collector (R345, R351) and the
machine goes on. No meaning raises one. -/
inductive Fault where
deriving DecidableEq, Repr

/-- Why a command is turned away. -/
inductive Refusal where
  /-- The command has no meaning in the model yet. Raised by Dispatch only; safe (nothing is claimed of the command). -/
  | notModelled (mnemonic : String)
  /-- The term spells no transfer of its protocol (a block of a wrong byte count). Raised by exec's meanings through
  WellFormed; safe (the spec's senders cannot form it). -/
  | illFormed (what : String)
deriving DecidableEq, Repr

/-! ### Clock, start-up, package (chapters 01, 17, 19) -/

/-- Root PLL: which references are missing (R32) and the reference a change in progress goes to (R31). -/
structure ClkState where
  refclkMissing : Bool
  tinMissing : Bool
  target : Bool
deriving DecidableEq, Repr

/-- Where the leaving of RESET stands (R386). -/
inductive ResetPhase where
  /-- PORST_N is low: RESET is held. -/
  | porHeld
  /-- RESET by FAULT or REQUEST, entered at that tick. -/
  | timed (entered : Nat)
  /-- RESET is released; the engine waits for SYS_CLK_STAT.LOCK. -/
  | released
  /-- The engine is not in RESET. -/
  | out
deriving DecidableEq, Repr

/-- The instruction register of the JTAG port (R418). -/
inductive JtagInstr where
  | bypass | idcode | samplePreload | extest
deriving DecidableEq, Repr

/-- The recovery loader (R398, R420). -/
structure Recovery where
  /-- The loader status as REC_STATUS gives it. -/
  status : Byte
  /-- The next byte offset expected. -/
  next : Nat
  /-- The image bytes received so far, as little-endian words. -/
  data : List Word
deriving DecidableEq, Repr

/-- Modes, reset, pins and the small ports of the package. -/
structure SysState where
  phase : ResetPhase
  /-- BOOTSEL as sampled (R387). -/
  bootsel : Fin 4
  /-- SYS_MODE.RECOVERY. -/
  recovery : Bool
  /-- SYS_MODE.REFUSED and REASON. -/
  refused : Bool
  reason : Fin 16
  /-- The accepted request that waits, and the first tick on which it may take effect (R391). -/
  pendMode : Option Mode
  pendFrom : Nat
  /-- HOT_SHUTDOWN has tripped on that edge, and KENNEL is entered on the next one (R391). -/
  trip : Option Nat
  /-- Complete sweeps ended since the last Kennel Whistle (R393); none: no Kennel Whistle since reset. -/
  sweepsSinceKennel : Option Nat
  /-- Complete sweeps ended since the sweep boundary at which every PT entry was formed (R389). -/
  sweepsSincePt : Option Nat
  /-- Model updates since THM_STAT.VALID was set (R389). -/
  updatesSinceValid : Nat
  /-- Pilot enabled (R49). -/
  pilotOn : Bool
  /-- PGOOD released and which of the six rails are good (R413). -/
  pgood : Bool
  railsGood : List Bool
  /-- The last edge on which a rail ceased to be good (R413). -/
  railLowAt : Option Nat
  /-- The instruction of the test port (R418). -/
  jtag : JtagInstr
  /-- The boundary-scan register, least significant bit first (R418). -/
  bsr : List Bool
  /-- The data of the last JTAG scan and of the last SMBus read (R418, R419). -/
  jtagOut : List Bool
  smbusOut : List Byte
  /-- The recovery loader (R420). -/
  recov : Recovery
deriving DecidableEq, Repr

/-! ### Fault collector (chapter 15) -/

/-- A block reset in force: the block and the tick its release is due (R352). -/
structure BlockReset where
  block : Block
  release : Nat
deriving DecidableEq, Repr

/-- A capture waiting for its fault-log record: time-stamp, FLT_CAP_STAT, FLT_CAP_INFO and FLT_CAP_ADDR (R350, R379). -/
structure LogRecord where
  sec : Nat
  ns : Nat
  stat : Word
  info : Word
  addr : Word
deriving DecidableEq, Repr

/-- The chip reset in progress: its source, the edge on which its reaction was taken, and the edge on which its record began (R355). -/
structure ChipReset where
  source : Fin 128
  asked : Nat
  recorded : Option Nat
deriving DecidableEq, Repr

structure FltState where
  /-- Reports that stand on their pairs and that no edge has sampled yet (R346). -/
  waiting : List Report
  /-- The last sampled edge; sources whose pair was in the report state on it; those of them whose last new report was consequential
  (R346, R357). -/
  sampled : Nat
  inReport : List (Fin 128)
  conseqHeld : List (Fin 128)
  /-- Every sticky bit was clear on the edge before (R348); INT_N and ERR_N as they are driven (R352, R353). -/
  quiet : Bool
  intOn : Bool
  errOn : Bool
  /-- The tick at which the capture window of a switchover ends (R349). -/
  captureEnd : Option Nat
  /-- Open shadows with their closing ticks (R357). -/
  shadows : List (Block × Nat)
  /-- Block resets asserted (R352). -/
  resets : List BlockReset
  /-- Ticks of the last three block resets performed on each block, latest first (R358). -/
  history : List (Block × List Nat)
  /-- The chip reset under way (R355). -/
  chip : Option ChipReset
  /-- Captures that wait for their fault-log records (R350). -/
  log : List LogRecord
  /-- ERR_N is held after a fault reset (R353). -/
  errHold : Bool
  /-- An NMI that waits for a member to become ACTIVE (R353). -/
  nmiWaiting : Bool
  /-- NMIs raised so far to the active supervisor (R354). -/
  nmiCount : Nat
deriving DecidableEq, Repr

/-! ### Route engine (chapter 03) -/

/-- The operation of a route request (R71). -/
inductive RouteOp where
  | add | remove | permute | pin | unpin
deriving DecidableEq, Repr

/-- A request being computed (R71 to R76). -/
structure RouteJob where
  op : RouteOp
  input : Nat
  output : Nat
  tenant : Nat
  seq : Nat
  /-- RTE_TARGET as it stood at acceptance. -/
  target : Mem
  /-- RTE_VRAIL and the live calibration words as they stood at acceptance (R80, R199). -/
  vrail : Nat
  words : Mem
  /-- The edge of acceptance (R80). -/
  start : Nat
  /-- Abandoned by RTE_CTL.ABORT (R76); its base was cancelled (R75). -/
  aborted : Bool
  cancelled : Bool
deriving DecidableEq, Repr

/-- An OK result of ADD, REMOVE or PERMUTE: what its Whistle will establish (R62, R68, R74). -/
structure RouteResult where
  seq : Nat
  op : RouteOp
  /-- Map words by input, and the CROSS cells of a plane. -/
  map : Mem
  cells : List Nat
  /-- Changed cells of a plane, and the words of RTE_BLINK. -/
  changed : List Nat
  blink : List Word
  /-- The energy estimate, in fJ (R79). -/
  energy : Nat
deriving DecidableEq, Repr

structure RteState where
  /-- Current and base map: words by input in the layout of RTE_MAP_CUR (R62, R80). -/
  cur : Mem
  base : Mem
  /-- CROSS cells of a plane in the current and the base map (R37, R43). -/
  cellsCur : List Nat
  cellsBase : List Nat
  /-- RTE_TARGET by input (R80). -/
  target : Mem
  /-- RTE_BLINK, and the cells of RTE_CELLMAP and of RTE_CHANGED (R80). -/
  blink : List Word
  cellmap : List Nat
  changed : List Nat
  /-- The request being computed, and the OK result that waits for the builder (R71, R72). -/
  job : Option RouteJob
  /-- The result that waits for the builder (R72). -/
  held : Option RouteResult
  /-- Whether a command has been accepted since reset (R73). -/
  accepted : Bool
deriving DecidableEq, Repr

/-! ### Drive array (chapter 04) -/

/-- What the drive loader is doing (R86, R88, R103 to R105). -/
inductive Loader where
  | idle
  | verify (start : Nat)
  | reseed (start : Nat)
  /-- The Kennel pass is under way, or has verified with its Whistle due; `retried`: the pass was repeated. -/
  | kennel (verified : Bool) (retried : Bool) (start : Nat)
  | kennelReload (tile : Nat)
deriving DecidableEq, Repr

/-- The lock of the staged half against the builder (R22, R91). -/
inductive StagedLock where
  | free
  | held
  | untilTick (release : Nat)
deriving DecidableEq, Repr

/-- The last Whistle, as its later checks need it (R93, R99). -/
structure LastWhistle where
  edge : Nat
  changed : List Nat
  /-- Changed elements' live words before the step; bit 16: their range. -/
  oldLive : Mem
  /-- Branches that have not acknowledged, until the check of R93. -/
  missed : List Nat
  ackChecked : Bool
  /-- The check of R99 has been made. -/
  openChecked : Bool
deriving DecidableEq, Repr

structure DrvState where
  /-- Setpoint memory by element: both halves (R82), and the trim store, TRIM_T in [31:16] (R84). -/
  staged : Mem
  active : Mem
  trims : Mem
  /-- The drive cells' staged and active registers by element (R82). -/
  cellStaged : Mem
  cellActive : Mem
  /-- Tile checksums of both halves (R83). -/
  crcStaged : Mem
  crcActive : Mem
  /-- Tiles marked dirty (R83). -/
  dirty : List Nat
  /-- The Kennel buffer by element, and its tile checksums (R103). -/
  kennelBuf : Mem
  kennelCrc : Mem
  /-- What the drive loader is doing, and the lock of the staged half (R22, R86 to R88, R103). -/
  loader : Loader
  lock : StagedLock
  /-- A cancellation has asked for a re-seed that has not started (R88). -/
  reseedDue : Bool
  /-- Builder writes that wait for the lock (R22, R88). -/
  waiting : List (Nat × Word)
  /-- DRV_STAT.CLAMPED (R102). -/
  clamped : Bool
  /-- Clamps held until RESET by R105; drive power domain removed by R296. -/
  clampHeld : Bool
  removed : Bool
  /-- DRV_STAT.KENNEL (R103). -/
  kennelFlag : Bool
  /-- Suspended elements (R101), and those whose loop the last boundary found suspended. -/
  susp : List Nat
  suspLoop : List Nat
  /-- Elements in range hold with the live word they hold (R97). -/
  rangeHold : Mem
  /-- DRV_FLT_FIFO, oldest first: kind (1 OPEN, 2 LEAK) and element. -/
  fifo : List (Nat × Nat)
  /-- The last Whistle, as its checks need it (R93, R99). -/
  last : Option LastWhistle
  /-- Scrub position: area 0 staged, 1 active, 2 Kennel buffer; tile; tick of the last tile (R89). -/
  scrubArea : Nat
  scrubTile : Nat
  scrubTick : Nat
  /-- The Kennel tile that the scrub found wrong, while it is reloaded (R434). -/
  scrubFix : Option Nat
  /-- Elements with a probe step in force: true +δ, false −δ (R85). -/
  probes : List (Nat × Bool)
  /-- Probe depth in force (R110). -/
  delta : Nat
  /-- Scent outputs of the generators, and the held outputs of generators whose element is being probed (R107, R108). -/
  scentOut : List Int
  scentHeld : List (Option Int)
  /-- Samples of each generator's monitor for its correlation (R109). -/
  scentSamples : List (List Nat)
  /-- The edge of the generators' last step (R107). -/
  scentTick : Nat
  /-- The output steps of the last 250 TICK, as element and edge, and the edge of the last rail correction: they blank the LEAK
  comparison (R100). -/
  stepped : List (Nat × Nat)
  railTick : Option Nat
deriving DecidableEq, Repr

/-! ### Sense lanes (chapter 05) -/

/-- A conversion under way or waiting for its result write (R117, R122). -/
structure Conv where
  slot : Nat
  half : Nat
  seq : Nat
  start : Nat
  stale : Bool
  dummy : Bool
  range : Nat
  /-- The address its result goes to; the Leash's judgement. -/
  addr : Nat
  leash : Bool
  /-- It began before the Whistle that changed its element (R159). -/
  pre : Bool
  /-- The test DAC code in force when it began (R115). -/
  tdac : Nat
  /-- The held sample on the code scale, once the Leash has judged it (R130, R131). -/
  sample : Option Nat
  /-- The absolute drive word that a standard sweep has put on its element, unless it saturates (R209). -/
  drive : Option Int
deriving DecidableEq, Repr

structure Lane where
  range : Nat
  bw : Nat
  testAct : Bool
  parkAct : Bool
  parkSlot : Nat
  /-- Forced-STALE bits in force, by slot (R126). -/
  fstale : List Nat
  /-- The conversion counter SEQ (R122). -/
  counter : Nat
  /-- Scheduled diagnostics made (R127); the next pair (0 REF and SUPPLY, 1 TEMP and TDAC) or, on a port lane, channel. -/
  diag : Nat
  diagPhase : Nat
  /-- Auto-range memory (R125). -/
  up : Bool
  high : Bool
  downRun : Nat
  overRange : Bool
  overRun : Nat
  cfgWritten : Bool
  /-- Conversions still to be STALE after a change of range or bandwidth (R124). -/
  staleLeft : Nat
  /-- Conversions of this sweep or scan still to be made: slot, half, and whether it is a dummy (R120, R124, R127). Slot 72
  stands for a diagnostic of an unoccupied slot, 73 for a scheduled diagnostic. -/
  todo : List (Nat × Nat × Bool)
  convs : List Conv
  /-- Conversions made since the last boundary, and the test DAC code in force (R115). -/
  made : Nat
  tdac : Nat
  /-- Result words of the two conversions of the present visit, and a completed visit that its processor has not taken up: slot, start
  tick of its first conversion, and whether it is a dummy (R158). -/
  plus : Word
  minus : Word
  visited : Option (Nat × Nat × Bool)
deriving DecidableEq, Repr

structure SnsState where
  lanes : Vector Lane 544
  /-- Result memory by bus address (R405). -/
  results : Mem
  /-- Result addresses of conversions that began before the Whistle that changed their element (R159). -/
  pre : List Nat
  /-- Leash entries outside their band, as 72·lane + slot (R130). -/
  out : List Nat
  /-- Sweeps and scans run, and the edges on which the present ones began (R119, R121). -/
  sweepRun : Bool
  scanRun : Bool
  sweepStart : Nat
  scanStart : Nat
  /-- The sweep is paused until its boundary (R290). -/
  paused : Bool
  /-- A cut is requested and ends the visit in progress (R121). -/
  sweepCut : Bool
  scanCut : Bool
  /-- Hop counts that the sync inputs carry while busy (R266). -/
  sweepHop : Nat
  scanHop : Nat
deriving DecidableEq, Repr

/-! ### Loop processors (chapters 06, 07) -/

/-- An active LOOP body (R156). -/
structure LoopBody where
  first : Nat
  len : Nat
  left : Nat
deriving DecidableEq, Repr

/-- A member of a lane's priority ring (R184 to R186). -/
structure RingMember where
  elem : Nat
  passes : Nat
  seenValid : Bool
  /-- The next CHG = 1 record reports the change it joined for (R184). -/
  owesChg : Bool
  /-- Error, range and sweep of its first valid visit, if promoted, until the second one: the lane pair of R202. -/
  first : Option (Int × Nat × Nat)
deriving DecidableEq, Repr

/-- What the standard program keeps beside the XM words that the manual places (R169, R184 to R194, R202). -/
structure StdProgram where
  /-- Rings by lane, and the promotion lists in force in this sweep, by lane. -/
  rings : List (List RingMember)
  promoted : List (List Nat)
  /-- Those of the sweep before (R186). -/
  promotedPrev : List (List Nat)
  /-- Cells (by local S0 element) last recorded as TURN. -/
  turnCells : List Nat
  /-- Elements in SWEEP-CAL: local element, STATE, return reference, sweeps done. -/
  swept : List (Nat × Bool × Int × Nat)
  /-- Elements updated in this sweep, as 2·local + STATE (R193); a clamp pass is due. -/
  updated : List Nat
  clampDue : Bool
  /-- Position of the latest completed visit; 68: the visit that straddled the last boundary. -/
  visitPos : Nat
  /-- Sweep boundaries seen. -/
  sweepNo : Nat
  /-- What has been done in this sweep: the first visit, the state scan and the promotion lists, the gains refreshed (by lane). -/
  firstDone : Bool
  scanDone : Bool
  listDone : Bool
  gainDone : List Nat
  /-- The live half has FOLD = 1 and the zero trims are queued (R211). -/
  foldSeen : Bool
  folding : Bool
  /-- ROUND last taken, and sweeps of its window still to begin or to end (R202). -/
  roundSeen : Nat
  /-- Sweeps of the calibration window still to begin or to end (R202). -/
  winLeft : Nat
  /-- Diagnostic visits observed, by lane (R185). -/
  diagSeen : List Nat
  /-- LP32: planes whose PT entries are written 0 (R176); whether this scan has judged the sums of the last; the window's summed
  plane sums in units of 0.5 pA, and scans. -/
  lowPlane : List Bool
  scanJudged : Bool
  monSum : List Int
  monScans : Nat
deriving DecidableEq, Repr

structure LpState where
  d : Vector Half 8
  p : Vector (BitVec 15) 8
  n : Vector Half 8
  m : Vector Half 8
  a : Vector (BitVec 40) 4
  clamp : Vector Bool 4
  fz : Bool
  fn : Bool
  fv : Bool
  /-- SR[15:8]: OVG, SAT, MV, LIM, UA, ECC_CE, VLOST, EV_OVR (R143). -/
  sticky : BitVec 8
  /-- MR.FRAC (R143). -/
  frac : Bool
  /-- The program counter and the return stack (R136, R143). -/
  pc : BitVec 13
  stack : List (BitVec 13)
  /-- The active LOOP body (R156). -/
  loop : Option LoopBody
  /-- LP_STAT.HALTED and CAUSE (R165, R170). -/
  halted : Bool
  cause : Nat
  /-- Sweep boundaries to go until the machine starts at 0x0000; none: no start due (R166, R168). -/
  startIn : Option Nat
  /-- The WAIT that stalls the machine (R160). -/
  wait : Option WCond
  /-- The edge that the WAIT waits for has come (SWEEP, SCAN, RAIL). -/
  waitHit : Bool
  /-- Completed visits since the previous WAIT VISIT (R160). -/
  completed : Nat
  /-- Records of the latest completed visit and those visible to the program, by X address 0x6000–0x607F. -/
  latest : Mem
  visible : Mem
  /-- Local elements with a change that no visible or latest record shows (R158). -/
  chg : List Nat
  /-- The half latch: X address of the high half, and its value (R142). -/
  half : Option (Nat × Half)
  /-- TRIM_SEL (R139). -/
  trimSel : Half
  /-- EVT_PEND with the hop counts of the events delivered, and the hop count that EVT carries on (R163, R268). -/
  evPend : BitVec 2
  evHop : List Nat
  hopSrc : Nat
  /-- RAIL_KP as last written, broadcast by the write of RAIL_KN (R139). -/
  railKp : Half
  /-- Trim queue, by 2·local + STATE, bit 16 set (R161); promotion entries, by 16·lane + i, 127 where unlisted (R162). -/
  trimQ : Mem
  promo : Mem
  /-- Program memory, X memory and the two coefficient banks (R136, R137, R140). -/
  pm : Mem
  xm : Mem
  bankA : Mem
  bankB : Mem
  /-- LP_CBANK: the active bank, the requested swap and SWAPPED (R167, R170). -/
  bankActive : Bool
  swapReq : Bool
  swapped : Bool
  /-- LP_XREC and LP_YREC in force (R170). -/
  xrec : Word
  yrec : Word
  /-- LP_ACT: LOOP cycles of this sweep and of the last (R170). -/
  act : Nat
  actLast : Nat
  /-- LP_VLOST and LP_ECC (R137, R160, R170). -/
  vlost : Nat
  ecc : Nat
  /-- Tick since which the watchdog counts (R165). -/
  wdogFrom : Nat
  /-- The vendor's standard program is loaded; `std` holds its records. -/
  standard : Bool
  std : StdProgram
deriving DecidableEq, Repr

/-! ### Calibration (chapter 08) -/

/-- One calibration set (R195, R197): the words of the spaces of CAL_PTR at space·2^18 + index, and what only the supervisor
holds. -/
structure CalSet where
  words : Mem
  vpi : Mem
  beta : Mem
  floor : Mem
  noise : Mem
  tcal : Mem
  gen : Nat
  /-- TIME of the set's commit (R195), in seconds. -/
  time : Nat
deriving DecidableEq, Repr

/-- Where a fold stands (R211). -/
inductive FoldStage where
  | none
  /-- FOLD set is written and the staged entries are being rewritten; the swap is due. -/
  | building
  /-- The set swapped at B; the Whistle is due at B + 1. -/
  | armed
deriving DecidableEq, Repr

structure CalState where
  live : CalSet
  shadow : CalSet
  copying : Bool
  copyFrom : Nat
  /-- Shadow writes held during the copy (R198): key and word. -/
  heldWrites : List (Nat × Word)
  /-- CAL_STAT.PHASE and ROUND (R202, R215). -/
  phase : Nat
  round : Nat
  /-- The round's ROUND is in effect (R202). -/
  windowOpen : Bool
  /-- Seconds of counter time since each region was estimated (as the elapsed time of that event), and trip runs (R201). -/
  estimatedAt : List Nat
  tripRun : List Nat
  /-- Sum and count of each region's node temperature over the window (R204). -/
  tempSum : List (Rat × Nat)
  /-- The trim store at the last boundary of the window (R204). -/
  windowTrims : Mem
  /-- Elements flagged NOISY (R204). -/
  noisy : List Nat
  /-- Consecutive rejections by element, and frozen elements (R207). -/
  rejRun : Mem
  frozen : List Nat
  /-- Full calibration: rounds completed of the sequence stage-major, kind-minor (R209), and its fold. -/
  fullRound : Nat
  /-- The round's points: element, absolute drive word, and S⁺ + S⁻ − 128 in codes of range 5; and the amplitudes A that the fits have
  given so far, in 2^−96 of such a code (R209, R210). -/
  points : List (Nat × Int × Int)
  fits : List (Nat × Int)
  /-- Tick at which the round's sweep records were applied, and the set that the fits have formed so far. -/
  fullFrom : Nat
  fitSet : CalSet
  /-- The calibration fold (R211). -/
  fold : FoldStage
  /-- Edge of calibration's Whistle. -/
  foldEdge : Nat
  /-- The set that waits to be stored, and the elapsed time of the last store (R212). -/
  storeSet : Option CalSet
  lastStore : Option Nat
  /-- The words from which LP32 forms PT: those live when the port scan began (R199). -/
  portWords : Mem
deriving DecidableEq, Repr

/-! ### Reconfiguration scheduler (chapter 09) -/

/-- A request in the scheduler (R216): `cmd` is SCH_REQ0, requester 64 the operator. -/
structure SchReq where
  cmd : Word
  requester : Nat
  seq : Nat
  /-- The deadline in nanoseconds of time (R216). -/
  deadline : Option Nat
  /-- The edge of submission (R216). -/
  submitted : Nat
  /-- Written directly to RTE_CMD while SCH_CTL.EN was 0 (R221). -/
  direct : Bool
deriving DecidableEq, Repr

/-- Where a commit stands (R232). -/
inductive CommitStage where
  | building
  | built
  | verifying
  /-- Verified at that tick; waiting for an arming decision, and whether one has been made (R233). -/
  | waiting (verified : Nat) (decided : Bool)
  /-- Armed for the Whistle at edge `w`. -/
  | armed (w : Nat)
deriving DecidableEq, Repr

structure Commit where
  req : SchReq
  cost : Nat
  result : RouteResult
  stage : CommitStage
deriving DecidableEq, Repr

/-- A request issued to the route engine: awaiting its result, or its OK result held with its charge (R219, R222). -/
structure Issued where
  req : SchReq
  cost : Nat
  done : Bool
deriving DecidableEq, Repr

/-- A gate list (R226, R227): base as a stamp in units of 2^−48 ns, cycle in TICK, entries as w0, w1, w2. -/
structure GateList where
  base : Nat
  cycle : Nat
  entries : List (Word × Word × Word)
deriving DecidableEq, Repr

structure SchState where
  /-- Staging words by member, at 8·member + word (R304): 0 to 4 SCH_REQ0 to SCH_REQ4, 5 and 6 RTE_SEQ_LO and RTE_SEQ_HI. -/
  stage : Mem
  /-- A submission has been accepted since reset (R217). -/
  accepted : Bool
  /-- All queued requests in submission order; a requester's queue is its part of the list. -/
  queue : List SchReq
  /-- The request handed to the route engine, and the commit in progress with its stage (R220, R231). -/
  issued : Option Issued
  commit : Option Commit
  /-- The remainder of each tenant bucket (R223). -/
  residue : Vector Nat 64
  /-- Writes of RATE or BURST not yet past their TICK: tenant, tick, old rate, old burst (R224). -/
  tbWrites : List (Nat × Nat × Nat × Nat)
  /-- The edge of the last refill (R223). -/
  lastRefill : Option Nat
  /-- SCH_OUT reports, oldest first: OUT0, sequence number, TIME_NS. -/
  outs : List (Word × Nat × Word)
  /-- The active gate list (R226). -/
  active : Option GateList
  /-- The pending window's words (R226, R238). -/
  pend : Mem
  /-- COMMIT tick of the validation in progress (R228). -/
  validating : Option Nat
  /-- The locked pending list with its START and the stamp of V plus 250 TICK, both in units of 2^−48 ns (R229). -/
  locked : Option (GateList × Nat × Nat)
  /-- The default list that waits for its base (R227). -/
  default : Option GateList
  /-- The FIRED report due on the edge after its Whistle: that edge, the request, and its TIME_NS (R236). -/
  fired : Option (Nat × SchReq × Word)
  /-- The edge on which an issued command was discarded as a duplicate (R220), the one on which EN = 1 took effect (R221), and the one on
  which a list last became active (R229). -/
  dupAt : Option Nat
  enAt : Option Nat
  listAt : Option Nat
  /-- W_prev of R232, and the first TICK edge after RESET was left. -/
  wPrev : Nat
  /-- SCH_PAUSE and SCH_E_RESV (R232, R238). -/
  pause : Nat
  eResv : Nat
deriving DecidableEq, Repr

/-! ### Time base and ledger (chapter 10) -/

/-- A step that applies on a coming edge (R243). -/
structure TimeStep where
  edge : Nat
  /-- Absolute time in nanoseconds, or an offset in units of 2^−16 ns. -/
  abs : Option Nat
  offset : Int
  /-- The servo of the time link asked for it (R248). -/
  link : Bool
deriving DecidableEq, Repr

/-- One comparator (R252). -/
structure Cmp where
  /-- Armed, effective from this tick. -/
  armed : Option Nat
  /-- Disarms on this tick. -/
  disarm : Option Nat
  /-- The target was already past on the edge it was armed. -/
  past : Bool
  /-- Matches made (R252). -/
  hits : Nat
deriving DecidableEq, Repr

/-- One TOUT output (R255). -/
structure Tout where
  running : Bool
  /-- The level at the ball differs from idle. -/
  pulse : Bool
  /-- The next leading edge, in nanoseconds of time, and pulses made. -/
  next : Nat
  /-- Pulses made (R255). -/
  made : Nat
deriving DecidableEq, Repr

structure TimState where
  /-- RATE in force, in units of 2^−48 ns (R242). -/
  rate : Int
  /-- Steps requested and not yet applied. -/
  steps : List TimeStep
  /-- Comparators and outputs (R252, R255). -/
  cmps : Vector Cmp 64
  touts : Vector Tout 4
  /-- Consecutive offsets or edges inside and outside the lock bands (R247, R248). -/
  inRun : Nat
  outRun : Nat
  /-- Elapsed counter time of the last valid PPS edge; none: the next is the first (R249). -/
  lastPps : Option Nat
  /-- Consecutive invalid PPS edges (R249). -/
  badRun : Nat
  /-- The link servo's step has not been made yet, and the change of RATE that holds until the next edge (R248). -/
  linkStep : Bool
  linkRate : Int
  /-- Elapsed counter time since which no valid PPS edge has come; none: LINK is not selected, or its loss is reported. -/
  ppsSince : Option Nat
  /-- PTP: elapsed counter time of the last Sync and its interval, in units of 2^−48 ns (R247). -/
  lastSync : Option (Nat × Nat)
deriving DecidableEq, Repr

/-- A closed ledger record (R258, R259). -/
structure LedRec where
  tenant : Nat
  input : Nat
  output : Nat
  minute : Nat
  ns : Nat
  blinks : Nat
  start : Bool
  ended : Bool
  step : Bool
deriving DecidableEq, Repr

/-- A held connection with its open record (R257). -/
structure Held where
  tenant : Nat
  input : Nat
  output : Nat
  /-- Elapsed counter time at which the open record began, and the remainder carried into it, in units of 2^−48 ns. -/
  since : Nat
  carry : Nat
  /-- Blinks of the open record, and its START and STEP flags (R257, R258). -/
  blinks : Nat
  start : Bool
  step : Bool
deriving DecidableEq, Repr

/-- An overflow accumulator (R260). -/
structure Acc where
  ns : Nat
  blinks : Nat
  first : Nat
  last : Nat
deriving DecidableEq, Repr

structure LedState where
  held : List Held
  /-- The open minute (R257). -/
  minute : Nat
  /-- Closed records that wait for the FIFO, and the first tick on which one may be pushed (R259). -/
  push : List LedRec
  pushFrom : Nat
  /-- The ledger FIFO, and the overflow accumulators of the tenants (R259, R260). -/
  fifo : List LedRec
  acc : Vector (Option Acc) 64
deriving DecidableEq, Repr

/-! ### Event fabric (chapter 11) -/

/-- An event emitted and not yet sampled (R267). -/
structure Emitted where
  producer : Nat
  hop : Nat
  edge : Nat
deriving DecidableEq, Repr

structure EvtState where
  emitted : List Emitted
  /-- Accepted channel words with the tick on which they take effect (R273). -/
  cfg : List (Nat × Word × Nat)
  /-- The image's boundary has passed (R274). -/
  ready : Bool
  /-- What each pending NOTE_t input last received: tenant, channel, and the edge's seconds and nanoseconds (R266, R338). -/
  notes : List (Nat × Nat × Nat × Nat)
  /-- Pending inputs that a W1C cleared, with its tick: a delivery on that tick overruns (R272). -/
  cleared : List (Nat × Nat)
deriving DecidableEq, Repr

/-! ### Power and thermal governor (chapter 12) -/

/-- Run counts of one threshold: consecutive updates towards a trip and towards a clear, and whether it is tripped (R286). -/
structure Trip where
  on : Nat
  off : Nat
  tripped : Bool
deriving DecidableEq, Repr

/-- Constants of the model, of the structure image (R280). -/
structure ThermalModel where
  cth : List Rat
  g : List (List Rat)
  gb : List Rat
deriving DecidableEq, Repr

structure PwrState where
  /-- The last ten reports of each monitor, latest first: voltage in 250 µV, current in 100 µA (R277, R281). -/
  reports : List (List (Int × Nat))
  /-- Node temperatures and the boundary temperature, °C (R281, R282). -/
  t : List Rat
  tb : Rat
  /-- The model constants of the image in use (R280). -/
  model : ThermalModel
  /-- THM_STAT.VALID (R282). -/
  valid : Bool
  /-- A valid diode reading that the next update applies, °C (R282). -/
  anchor : Option Rat
  diode : Rat
  /-- Updates in a row in which the anchor has lain outside its limit (R284). -/
  anchorRun : Nat
  /-- Latest TEMP reading of each lane, and the lanes whose latest reading, or two latest, lay outside the limit (R284). -/
  laneTemp : List (Nat × Rat)
  laneOff : List (Nat × Nat)
  anchorOff : Bool
  /-- THM_STAT.DIVERGE (R284). -/
  diverge : Bool
  /-- COLD_LIMIT, COLD_WARN, HOT_WARN, E1 to E6, HOT_SHUTDOWN (R286, R287). -/
  trips : Vector Trip 10
  /-- The throttle level (R287). -/
  level : Nat
  /-- Sweep pause set by the level, and the one in force since the last boundary (R288 to R290). -/
  pauseSet : Nat
  pauseInForce : Nat
  /-- Sum of the estimates of Whistles fired since the last update (R292), in fJ. -/
  eFired : Nat
  /-- The energy bucket, in fJ (R293). -/
  ebkt : Nat
  /-- The tick at which the under-voltage blanking of monitors 5 and 6 ends, while it lasts (R278). -/
  blankEnd : Option Nat
  /-- Whistles whose energy is being measured: estimate, reports seen, energy so far; and the last ratios (R294). -/
  measuring : List (Nat × Nat × Rat)
  ratios : List Rat
  /-- Shutdown: its edge U, the record words that wait, and whether it is written (R296, R297). -/
  shutdown : Bool
  /-- THM_STAT.COOLED, and the edge since which it is 1 (R298). -/
  cooled : Bool
  cooledAt : Option Nat
  /-- The edge of the shutdown, the record that waits for MRAM, and whether it has been written (R296, R297). -/
  sdAt : Nat
  sdRecord : Option (List Word)
  sdWritten : Bool
  /-- Leaving shutdown: the pilot is awaited before the Kennel image is applied (R298). -/
  recovering : Bool
  /-- Ticks of the last rail report and of the last model update. -/
  lastRail : Option Nat
  lastUpdate : Option Nat
  /-- Node words formed on this edge, which THM_NODE shows from the next (R281). -/
  published : List Word
  /-- PWR_ALLOT_EFF before the last update edge: a refill on that edge uses it (R292). -/
  allotBefore : Word
deriving DecidableEq, Repr

/-! ### The Pack (chapter 13) -/

/-- An FLP message of the engine (R331): on TLS, or on DTLS where `dtls` holds. -/
structure Msg where
  type : Nat
  session : Nat
  sender : Nat
  flags : Nat
  seq : Nat
  payload : List Byte
  dtls : Bool
deriving DecidableEq, Repr

/-- An entry of the access log (R306): a read's address and the value it returned, a write's address, size and value, or a message offered
to the FLP transmit queue, without its sender. `firmware` is an access of the firmware whose work this model does itself: a replay and
a follower, which do that work alike, pass over it (log 66). -/
inductive LogEntry where
  | read (a : Nat) (v : Word)
  | write (w : Width) (a : Nat) (v : Word)
  | offer (m : Msg)
  | firmware
deriving DecidableEq, Repr

/-- The delta of a cycle (R307): the words of the mirrored region that it changes, and its trailer's CRC-32C by page. -/
structure Delta where
  cycle : Nat
  changes : List (Nat × Word)
  crcs : List (Nat × Word)
deriving DecidableEq, Repr

/-- A received frame in the input buffers (R305): the cycle that takes it, the members that hold it, and what it is. -/
structure Input where
  cycle : Nat
  inA : Bool
  inB : Bool
  cmd : Instr
deriving DecidableEq, Repr

/-- The role of a member (R302). -/
inductive Role where
  | off | syncing | standby | active | fenced
deriving DecidableEq, Repr

/-- One member: its role, its release (tick and cause code of PAK_LAST_SW), how its last self-test ended, and its own SRAM by
bus address (R301). -/
structure Member where
  role : Role
  released : Option (Nat × Nat)
  tested : Option Bool
  sram : Mem
deriving DecidableEq, Repr

structure PakState where
  a : Member
  b : Member
  seq : Nat
  /-- The sequence counter's base has been loaded, and its low half written (RW1, R316). -/
  baseLoaded : Bool
  baseLoWritten : Bool
  /-- Cycle number and the tick of the present cycle's boundary (R305). -/
  cycle : Nat
  boundary : Nat
  /-- Times of boundaries that have passed and that PAK_CYC_* does not show yet, oldest first (R305). -/
  stamps : List Nat
  /-- The access logs of this cycle and the last three, by cycle, and their inputs (R306, R308). -/
  logs : List (Nat × List LogEntry)
  inputs : List Input
  /-- Commands whose accesses wait for link space in the next cycle (R306). -/
  held : List Instr
  /-- The deltas posted, oldest first, the mirrored region that they leave, and the cycle of the last one that the other member has
  applied (R307, R308). -/
  posted : List Delta
  sent : Mem
  applied : Option Nat
  /-- The mirrored region as the last pass of a resynchronization took it (R320). -/
  pass : Option Mem
  /-- The log entries that a replay has still to match, and the cycle at whose boundary it is over (R313). -/
  replay : Option (List LogEntry)
  replayEnd : Nat
  /-- Cycles whose log may lack entries (R314). -/
  gapCycles : List Nat
  /-- The ACTIVE member that released, until the boundary: member (true: B), cause, and the cycle of its release (R311). -/
  takeover : Option (Bool × Nat × Nat)
  /-- The cycle since whose boundary a member is ACTIVE. -/
  activeFrom : Nat
  /-- A rehearsal cycle is in progress, and its number (R318). -/
  overlap : Bool
  overlapFrom : Nat
  /-- How many entries of the rehearsal cycle's log the follower has matched, and its accesses that wait for further ones (R318). -/
  followed : Nat
  followHeld : List Instr
  /-- A swap is due, with its cause of PAK_LAST_SW (R317). -/
  swapDue : Option Nat
  /-- Elapsed counter time of the last switchover (R317), and the tick since which the ACTIVE member has no STANDBY (R310). -/
  lastSwitch : Nat
  noStandbySince : Option Nat
  noStandbyReported : Bool
  /-- Members that claim ACTIVE at the next boundary, with the cycle in which each passed its self-test (R312). -/
  claims : List (Bool × Nat)
  /-- A member has claimed ACTIVE since RESET (R322). -/
  booted : Bool
deriving DecidableEq, Repr

/-! ### MRAM (chapter 16) -/

/-- The commit record of a set (R365): GEN and TIME in seconds and nanoseconds. -/
structure CommitRec where
  gen : Nat
  sec : Nat
  ns : Nat
deriving DecidableEq, Repr

/-- One slot of a two-slot kind: its payload, and its commit record if it has one (R365, R366). -/
structure ImageSlot where
  /-- The words of the tiles written, 1,024 to a tile. -/
  tiles : List Word
  commit : Option CommitRec
deriving DecidableEq, Repr

structure CalSlot where
  set : CalSet
  commit : Option CommitRec
deriving DecidableEq, Repr

structure KennelSlot where
  calGen : Nat
  imgGen : Nat
  words : Mem
  commit : Option CommitRec
deriving DecidableEq, Repr

/-- The payload of a ledger checkpoint (R377). -/
structure Checkpoint where
  minute : Nat
  oldest : Nat
  next : Nat
  acc : List (Option Acc)
  tenants : List Nat
  seq : Nat
deriving DecidableEq, Repr

structure CkptSlot where
  data : Checkpoint
  commit : Option CommitRec
deriving DecidableEq, Repr

/-- A key slot: public key words as NVM_KEY gives them, and a tenant's owned ports (R380, R384). -/
structure KeySlot where
  key : List Word
  inputs : List Nat
  outputs : List Nat
deriving DecidableEq, Repr

/-- A record operation in flight (R368). -/
structure NvmOp where
  /-- The bus master that asked for it. -/
  by_ : Bus
  write : Bool
  record : Nat
  data : List Word
  start : Nat
  /-- NVM_TIMEOUT has been raised for it. -/
  late : Bool
deriving DecidableEq, Repr

/-- An IMAGE_LOAD in progress (R381): the offset of the next part. -/
structure ImageLoad where
  next : Nat
deriving DecidableEq, Repr

structure NvmState where
  img : ImageSlot × ImageSlot
  cal : CalSlot × CalSlot
  ken : KennelSlot × KennelSlot
  /-- Entries of the Kennel image selected or rebuilt (R367, R376). -/
  kenSel : Mem
  /-- The checkpoint slots, and the key slots (R377, R380). -/
  ckpt : CkptSlot × CkptSlot
  keys : Vector (Option KeySlot) 66
  /-- Words of every other record, by byte address ÷ 4 (SESS, FLOG, SDLOG, PROD and raw writes). -/
  raw : Mem
  /-- The record operation in flight (R368). -/
  op : Option NvmOp
  /-- Next record of the scrub pass, and the tick of its last read (R383). -/
  scrub : Option Nat
  scrubTick : Nat
  /-- The IMAGE_LOAD under way (R381). -/
  load : Option ImageLoad
  /-- The slots have been selected in this LOAD (R382). -/
  selected : Bool
  /-- Tick of the last scrub of the image (R371). -/
  imgScrubTick : Nat
  /-- The image of the selected slot placed in the shadow halves, waiting for its boundary (R372). -/
  shadow : Option Image
  /-- The image whose sections are in effect. -/
  image : Option Image
  /-- The slot that it was selected from. -/
  imageSlot : Bool
  /-- Repaired section copies that wait for the next boundary (R371). -/
  repair : Bool
  /-- Shutdown count since manufacture, and the count of the last fault-log record (R297, R379). -/
  sdCount : Nat
  flogCount : Nat
  /-- PROD: the factory calibration set (R374), and the registers set in production, by bus address. -/
  factory : CalSet
  prod : Mem
deriving DecidableEq, Repr

/-! ### Management interface and Pack firmware (chapters 13, 14) -/

/-- What the network layer sends besides FLP messages (R326, R329). -/
inductive NetReply where
  | arpReply
  | echoReply (data : List Byte)
  | tcpReset (port : Nat)
  | certificateUnknown
  | handshakeFailure
  | closeNotify (session : Nat)
  | mdio (write : Bool) (phyad regad : Nat) (data : Half)
deriving DecidableEq, Repr

/-- A session's FLP result record (R340). -/
structure ResultRec where
  valid : Bool
  fresh : Bool
  outcome : Nat
  detail : Nat
  cells : Nat
  blinks : Nat
  reqSeq : Nat
  sec : Nat
  ns : Nat
deriving DecidableEq, Repr

/-- A notification that waits to be sent (R338): its type and payload. -/
structure Note where
  type : Nat
  payload : List Byte
deriving DecidableEq, Repr

structure Session where
  tls : Bool
  dtls : Bool
  streams : Nat
  period : Nat
  /-- Last accepted host sequence number (R332). -/
  lastSeq : Nat
  /-- Tick of the last FLP message from the host, and of the last telemetry. -/
  idleFrom : Nat
  telemetryAt : Nat
  /-- The FLP result record of R340. -/
  result : ResultRec
  /-- Notifications that wait to be sent (R338). -/
  notes : List Note
deriving DecidableEq, Repr

/-- A command answered ACCEPTED whose end is awaited: engine sequence, session, host sequence (R337). -/
structure Submitted where
  engineSeq : Nat
  session : Nat
  hostSeq : Nat
  /-- CELLS and BLINKS of its route result (R340). -/
  cells : Nat
  blinks : Nat
deriving DecidableEq, Repr

/-- A CAL_REQ answered ACCEPTED (R337): whether it asked for FULL, its host sequence, whether what it asked for has begun, and its end as CAL_RESULT.OUTCOME,
seconds and nanoseconds. -/
structure CalAsk where
  full : Bool
  hostSeq : Nat
  begun : Bool
  ended : Option (Nat × Nat × Nat)
deriving DecidableEq, Repr

structure MgtState where
  link : Bool
  /-- Tick at which the link went down after being up, until MGT_LINK_DOWN is raised or it returns (R345). -/
  downSince : Option Nat
  /-- The edge on which the MDIO transaction began (R325). -/
  mdio : Option Nat
  /-- Handshakes in progress (R329). -/
  handshakes : Nat
  /-- Ticks of recent failed handshakes (R345). -/
  failures : List Nat
  /-- Messages the FLP transmit queue has accepted, oldest first, and its last number (R333). -/
  tx : List Msg
  txLast : Option Nat
  /-- Replies of the network layer (R326). -/
  replies : List NetReply
  /-- PTP event messages handed to firmware with their four trailer words (R327). -/
  ptpIn : List (List Byte × List Word)
deriving DecidableEq, Repr

/-- The mirrored state of the Pack firmware: one copy, held by whichever member is ACTIVE (R301, R313). -/
structure FwState where
  sessions : Vector Session 65
  /-- Owner tenant of each input and output port. -/
  ownIn : Vector (Option (Fin 64)) 512
  ownOut : Vector (Option (Fin 64)) 512
  /-- Unacknowledged ring records, oldest first, eight words each (R262), and the SEQ of the next record. -/
  ring : List (List Word)
  ringNext : Nat
  /-- Accepted host commands whose outcome is awaited (R334, R340). -/
  submitted : List Submitted
  /-- Sessions whose connection closes at the end of the cycle, for their key is revoked (R337). -/
  closing : List (Fin 65)
  /-- CAL_REQs whose outcome has not been sent. -/
  calAsks : List CalAsk
  /-- Minutes whose checkpoint is still to be written (R377). -/
  ckptDue : Option (Nat × List Nat)
  /-- The overflow accumulators as the last checkpoint has them (R312, R377). -/
  ckptAcc : List (Option Acc)
  /-- A LEDGER notification is due (R338). -/
  ledgerDue : Bool
deriving DecidableEq, Repr

/-! ### What spans TICK edges -/

/-- A control-path write of the present TICK that a swap on the same TICK does not take (R23, R403): into the inactive half of a
double-buffered structure, what it replaced and what it wrote; or of a swap request that stands already. -/
inductive HalfWrite where
  /-- A coefficient bank of machine k: whether bank B, the address, the word replaced and the word written. -/
  | bank (k : Fin 33) (b : Bool) (a : Nat) (old new : Word)
  /-- A word of the calibration shadow set. -/
  | cal (key : Nat) (old new : Word)
  /-- A word of the pending gate list window. -/
  | pend (a : Nat) (new : Word)
  /-- A request for a bank swap of machine k, and APPLY, while the earlier request stands: where that one completes on this TICK, they
  count as new ones (R403). -/
  | swapAgain (k : Fin 33)
  | applyAgain
deriving DecidableEq, Repr

/-- What takes effect on the next TICK edge. -/
inductive Due where
  /-- A write held through a swap boundary goes into the half that is inactive now (R23). -/
  | half (w : HalfWrite)
  /-- A PT entry as LP0 to LP31 read it (R163). -/
  | pt (m : Nat) (v : Word)
  /-- The factors KP and KN of a rail report apply (R96). -/
  | rail (w : Word)
  /-- A promotion entry and a trim that a loop processor has written (R120, R161). -/
  | promo (k : Fin 33) (i : Nat) (v : Half)
  | trim (k : Fin 33) (loc : Nat) (turn : Bool) (v : Half)
  /-- The reaction to a report, a chip reset, and the further NMI of a write of NMI_DONE (R352, R354, R355). -/
  | react (r : Report)
  | chip (i : Fin 128)
  | nmi
  /-- A submission that its TICK's queues would refuse, its TIME_NS and whether its deadline has passed: a removal on that TICK is
  counted first (R218). -/
  | submit (r : SchReq) (ns : Word) (late : Bool)
  /-- SCH_CTL.EN = 1 (R221), and a change of TIM_CTL.SRC (R245). -/
  | schEn
  | timSrc (v : Fin 4)
  /-- An injected report (R360). -/
  | inject (i : Fin 128)
deriving DecidableEq, Repr

/-! ### The whole machine -/

/-- Everything of the block but its command queue. -/
structure Engine where
  variant : Variant
  mode : Mode
  /-- Number of the present TICK edge. -/
  tick : Nat
  /-- The tick at which the root dividers were released (R27, R223). -/
  divTick : Nat
  /-- The counter of R242 in units of 2^−48 ns. -/
  time : Nat
  /-- The elapsed counter time of R257, in units of 2^−48 ns. -/
  elapsed : Nat
  /-- Where the present TICK stands in its order: 0 accesses of member A and of the FLP window, 1 accesses of member B, 2 what the
  engine does on the edge (R16, R304, R339). -/
  turn : Nat
  /-- What takes effect on the next TICK edge, in order; and the control-path writes of this one into inactive halves, latest first
  (R23). -/
  due : List Due
  halfWrites : List HalfWrite
  /-- How many free values have been taken. -/
  freeCtr : Nat
  /-- Every register word that no field below holds, by bus address. -/
  regs : Mem
  /-- Split-read latches: 2^32·master + address of the high half (R341, R241). -/
  latch : Mem
  /-- The word that the last read of each master returned: 0 member A, 1 member B, 2 the FLP register window. -/
  rdata : Mem
  /-- The blocks, chapter by chapter. -/
  clk : ClkState
  sys : SysState
  flt : FltState
  rte : RteState
  drv : DrvState
  sns : SnsState
  lps : Vector LpState 33
  /-- Through-power table PT (R139, R175). -/
  pt : Mem
  /-- The blocks of chapters 08 to 16. -/
  cal : CalState
  sch : SchState
  tim : TimState
  led : LedState
  evt : EvtState
  pwr : PwrState
  pak : PakState
  nvm : NvmState
  mgt : MgtState
  fw : FwState
deriving DecidableEq, Repr

/-- The machine: the block and the commands that wait. -/
structure State where
  /-- Commands that wait, first in, first out. -/
  pending : List Instr
  /-- The block. -/
  eng : Engine
deriving DecidableEq, Repr

/-! ### Reset values -/

def ClkState.reset : ClkState := { refclkMissing := false, tinMissing := false, target := false }

def SysState.reset : SysState :=
  { phase := .porHeld, bootsel := 0, recovery := false, refused := false, reason := 0,
    pendMode := none, pendFrom := 0, trip := none, sweepsSinceKennel := none, sweepsSincePt := none, updatesSinceValid := 0,
    pilotOn := false, pgood := false, railsGood := [false, false, false, false, false, false], railLowAt := none, jtag := .idcode,
    bsr := [], jtagOut := [], smbusOut := [], recov := { status := 0, next := 0, data := [] } }

def FltState.reset : FltState :=
  { waiting := [], sampled := 0, inReport := [], conseqHeld := [], quiet := true, intOn := false, errOn := false,
    captureEnd := none, shadows := [], resets := [], history := [], chip := none, log := [], errHold := false, nmiWaiting := false, nmiCount := 0 }

def RteState.reset : RteState :=
  { cur := [], base := [], cellsCur := [], cellsBase := [], target := [], blink := [], cellmap := [], changed := [],
    job := none, held := none, accepted := false }

def DrvState.reset : DrvState :=
  { staged := [], active := [], trims := [], cellStaged := [], cellActive := [], crcStaged := [], crcActive := [],
    dirty := [], kennelBuf := [], kennelCrc := [], loader := .idle, lock := .free, reseedDue := false, waiting := [], clamped := true,
    clampHeld := false, removed := false, kennelFlag := false, susp := [], suspLoop := [], rangeHold := [], fifo := [],
    last := none, scrubArea := 0, scrubTile := 0, scrubTick := 0, scrubFix := none, probes := [], delta := 32,
    scentOut := [0, 0, 0, 0, 0, 0, 0, 0], scentHeld := [none, none, none, none, none, none, none, none],
    scentSamples := [[], [], [], [], [], [], [], []], scentTick := 0, stepped := [], railTick := none }

/-- A lane after reset: the configuration words' own reset range and bandwidth are applied at its first boundary. -/
def Lane.reset : Lane :=
  { range := 0, bw := 0, testAct := false, parkAct := false, parkSlot := 0, fstale := [], counter := 0, diag := 0,
    diagPhase := 0, up := false, high := false, downRun := 0, overRange := false, overRun := 0, cfgWritten := true,
    staleLeft := 0, todo := [], convs := [], made := 0, tdac := 512, plus := 0, minus := 0, visited := none }

def SnsState.reset : SnsState :=
  { lanes := Vector.replicate 544 Lane.reset, results := [], pre := [], out := [], sweepRun := false, scanRun := false,
    sweepStart := 0, scanStart := 0, paused := false, sweepCut := false, scanCut := false, sweepHop := 0, scanHop := 0 }

def StdProgram.reset : StdProgram :=
  { rings := List.replicate 16 [], promoted := List.replicate 16 [], promotedPrev := List.replicate 16 [], turnCells := [], swept := [], updated := [],
    clampDue := false, visitPos := 0, sweepNo := 0, firstDone := false, scanDone := false, listDone := false, gainDone := [],
    foldSeen := false, folding := false, roundSeen := 0, winLeft := 0, diagSeen := List.replicate 16 0, lowPlane := [false, false],
    scanJudged := false, monSum := [0, 0], monScans := 0 }

def LpState.reset : LpState :=
  { d := Vector.replicate 8 0, p := Vector.replicate 8 0, n := Vector.replicate 8 0, m := Vector.replicate 8 0,
    a := Vector.replicate 4 0, clamp := Vector.replicate 4 false, fz := false, fn := false, fv := false, sticky := 0,
    frac := true, pc := 0, stack := [], loop := none, halted := false, cause := 0, startIn := none, wait := none,
    waitHit := false, completed := 0, latest := [], visible := [], chg := [], half := none, trimSel := 0,
    evPend := 0, evHop := [0, 0], hopSrc := 0, railKp := 0, trimQ := [], promo := [], pm := [], xm := [], bankA := [],
    bankB := [], bankActive := false, swapReq := false, swapped := false, xrec := 0, yrec := 0, act := 0, actLast := 0,
    vlost := 0, ecc := 0, wdogFrom := 0, standard := false, std := StdProgram.reset }

def CalSet.empty : CalSet :=
  { words := [], vpi := [], beta := [], floor := [], noise := [], tcal := [], gen := 0, time := 0 }

def CalState.reset : CalState :=
  { live := CalSet.empty, shadow := CalSet.empty, copying := false, copyFrom := 0, heldWrites := [], phase := 0,
    round := 0, windowOpen := false, estimatedAt := [0, 0, 0, 0, 0, 0, 0, 0], tripRun := [0, 0, 0, 0, 0, 0, 0, 0],
    tempSum := [], windowTrims := [], noisy := [], rejRun := [], frozen := [], fullRound := 0, points := [], fits := [], fullFrom := 0,
    fitSet := CalSet.empty, fold := .none, foldEdge := 0, storeSet := none, lastStore := none, portWords := [] }

def SchState.reset : SchState :=
  { stage := [], accepted := false, queue := [], issued := none, commit := none, residue := Vector.replicate 64 0,
    tbWrites := [], lastRefill := none, outs := [], active := none, pend := [], validating := none, locked := none,
    default := none, fired := none, dupAt := none, enAt := none, listAt := none, wPrev := 0, pause := 0, eResv := 0 }

def TimState.reset : TimState :=
  { rate := 0, steps := [], cmps := Vector.replicate 64 { armed := none, disarm := none, past := false, hits := 0 },
    touts := Vector.replicate 4 { running := false, pulse := false, next := 0, made := 0 }, inRun := 0, outRun := 0,
    lastPps := none, badRun := 0, linkStep := false, linkRate := 0, ppsSince := none, lastSync := none }

def LedState.reset : LedState :=
  { held := [], minute := 0, push := [], pushFrom := 0, fifo := [], acc := Vector.replicate 64 none }

def EvtState.reset : EvtState := { emitted := [], cfg := [], ready := false, notes := [], cleared := [] }

def PwrState.reset : PwrState :=
  { reports := [], t := List.replicate 12 0, tb := 0, model := { cth := [], g := [], gb := [] }, valid := false,
    anchor := none, diode := 0, anchorRun := 0, laneTemp := [], laneOff := [], anchorOff := false, diverge := false,
    trips := Vector.replicate 10 { on := 0, off := 0, tripped := false }, level := 0, pauseSet := 0, pauseInForce := 0,
    eFired := 0, ebkt := 3200000000, blankEnd := none, measuring := [], ratios := [], shutdown := false,
    cooled := false, cooledAt := none, sdAt := 0, sdRecord := none, sdWritten := false, recovering := false,
    lastRail := none, lastUpdate := none, published := [], allotBefore := 0 }

def Member.reset : Member := { role := .off, released := none, tested := none, sram := [] }

def PakState.reset : PakState :=
  { a := Member.reset, b := Member.reset, seq := 0, baseLoaded := false, baseLoWritten := false, cycle := 0, boundary := 0,
    stamps := [], logs := [], inputs := [], held := [], posted := [], sent := [], applied := none, pass := none, replay := none,
    replayEnd := 0, gapCycles := [], takeover := none, activeFrom := 0, overlap := false, overlapFrom := 0, followed := 0,
    followHeld := [], swapDue := none, lastSwitch := 0, noStandbySince := none, noStandbyReported := false, claims := [],
    booted := false }

def NvmState.reset : NvmState :=
  { img := ({ tiles := [], commit := none }, { tiles := [], commit := none }),
    cal := ({ set := CalSet.empty, commit := none }, { set := CalSet.empty, commit := none }),
    ken := ({ calGen := 0, imgGen := 0, words := [], commit := none }, { calGen := 0, imgGen := 0, words := [], commit := none }),
    kenSel := [],
    ckpt := ({ data := { minute := 0, oldest := 0, next := 0, acc := [], tenants := [], seq := 0 }, commit := none },
      { data := { minute := 0, oldest := 0, next := 0, acc := [], tenants := [], seq := 0 }, commit := none }),
    keys := Vector.replicate 66 none, raw := [], op := none, scrub := none, scrubTick := 0, load := none, selected := false, imgScrubTick := 0, shadow := none,
    image := none, imageSlot := false, repair := false, sdCount := 0, flogCount := 0, factory := CalSet.empty, prod := [] }

def ResultRec.reset : ResultRec :=
  { valid := false, fresh := false, outcome := 0, detail := 0, cells := 0, blinks := 0, reqSeq := 0, sec := 0, ns := 0 }

def Session.reset : Session :=
  { tls := false, dtls := false, streams := 0, period := 0, lastSeq := 0, idleFrom := 0, telemetryAt := 0,
    result := ResultRec.reset, notes := [] }

def MgtState.reset : MgtState :=
  { link := false, downSince := none, mdio := none, handshakes := 0, failures := [], tx := [], txLast := none,
    replies := [], ptpIn := [] }

def FwState.reset : FwState :=
  { sessions := Vector.replicate 65 Session.reset, ownIn := Vector.replicate 512 none, ownOut := Vector.replicate 512 none,
    ring := [], ringNext := 0, submitted := [], closing := [], calAsks := [], ckptDue := none, ckptAcc := [], ledgerDue := false }

/-- The block right after reset (R386, R390): mode RESET with PORST_N low, cause POR, every register at its reset word. -/
def Engine.reset : Engine :=
  { variant := .pq512, mode := .reset, tick := 0, divTick := 0, time := 0, elapsed := 0, turn := 0, due := [], halfWrites := [], freeCtr := 0,
    regs := [(0x4000000C, 1)], latch := [], rdata := [], clk := ClkState.reset, sys := SysState.reset, flt := FltState.reset,
    rte := RteState.reset, drv := DrvState.reset, sns := SnsState.reset, lps := Vector.replicate 33 LpState.reset, pt := [],
    cal := CalState.reset, sch := SchState.reset, tim := TimState.reset, led := LedState.reset, evt := EvtState.reset,
    pwr := PwrState.reset, pak := PakState.reset, nvm := NvmState.reset, mgt := MgtState.reset, fw := FwState.reset }

/-- The machine right after reset: nothing waits. -/
def State.reset : State := { pending := [], eng := Engine.reset }

end Sys2Proof.Machine
end

