-- ==== Sys2Proof/WellFormed.lean ====
section
/-! DEFINITION. What the types of the operands do not say: the terms that spell a transfer of their row. -/

namespace Sys2Proof

/-- The byte of a payload that tells the rows of one command code apart. -/
def opByte (m : HostMsg) (at_ : Nat) : Nat := (m.payload.getD at_ 0).toNat

/-- A block of REC_DATA carries 128 image bytes (R419). -/
def recDataOk (data : List Byte) : Bool := data.length == 128

/-- Whether a command's operands spell a transfer of its row. -/
def wellFormed (i : Instr) : Bool :=
  match i with
  | .rteBadOp _ op => op.val == 0 || decide (5 < op.val)
  | .lpIllOp c w => (lpDecode c w).isNone
  | .flpPin _ m => opByte m 4 != 1
  | .flpUnpin _ m => opByte m 4 == 1
  | .keyEnroll _ m => opByte m 0 != 1 && opByte m 0 != 2
  | .keyRevoke _ m => opByte m 0 == 1
  | .keyOwn _ m => opByte m 0 == 2
  | .faultRead _ m => opByte m 0 != 1
  | .faultReadClear _ m => opByte m 0 == 1
  | .flpUnknownType _ type _ => type == 0 || decide (0x11 < type.toNat)
  | .recData _ data => recDataOk data
  | _ => true

end Sys2Proof
end

