-- ==== Sys2Proof/Machine/Ops.lean ====
section
/-! DEFINITION. The named operations every meaning is written in: bit fields, word memories, register words, the free-value
counter, raising faults, emitting events, and the TICK edge. -/

namespace Sys2Proof

/-! ### Sizes by variant (R1, R38, R56, R83) -/

/-- n = log₂N. -/
def Variant.logPorts : Variant → Nat
  | .pq512 => 9 | .pq256 => 8 | .pq128 => 7

def Variant.ports (v : Variant) : Nat := 2 ^ v.logPorts

def Variant.stages (v : Variant) : Nat := 2 * v.logPorts - 1

def Variant.cellsPerStage (v : Variant) : Nat := 2 ^ (v.logPorts - 1)

/-- Cells of one plane. -/
def Variant.planeCells (v : Variant) : Nat := v.stages * v.cellsPerStage

def Variant.elements (v : Variant) : Nat := 8 * v.planeCells

def Variant.tiles (v : Variant) : Nat := v.elements / 256

end Sys2Proof

namespace Sys2Proof.Machine

open Sys2Proof

/-! ### Bit fields -/

/-- Bits [lo + n − 1 : lo] of a word, unsigned. -/
def fld (w : Word) (lo n : Nat) : Nat := (w.toNat >>> lo) % 2 ^ n

def bit (w : Word) (i : Nat) : Bool := w.getLsbD i

/-- Bits [lo + n − 1 : lo] of a word, as two's complement. -/
def sfld (w : Word) (lo n : Nat) : Int :=
  let v := fld w lo n
  if v < 2 ^ (n - 1) then (v : Int) else (v : Int) - 2 ^ n

/-- The word with bits [lo + n − 1 : lo] replaced by the low n bits of v. -/
def putFld (w : Word) (lo n v : Nat) : Word :=
  (w &&& ~~~(BitVec.ofNat 32 ((2 ^ n - 1) <<< lo))) ||| BitVec.ofNat 32 ((v % 2 ^ n) <<< lo)

def putBit (w : Word) (i : Nat) (b : Bool) : Word :=
  if b then w ||| BitVec.ofNat 32 (1 <<< i) else w &&& ~~~(BitVec.ofNat 32 (1 <<< i))

/-- The writable bits of a word taken from v, the others kept. -/
def mixBits (w v mask : Word) : Word := (w &&& ~~~mask) ||| (v &&& mask)

def word (n : Nat) : Word := BitVec.ofNat 32 n

/-- Two's complement in n bits. -/
def twos (n : Nat) (i : Int) : Nat := (i % (2 ^ n : Int)).toNat

def wordOfInt (i : Int) : Word := BitVec.ofInt 32 i

def wordOfBool (b : Bool) : Word := if b then 1 else 0

def halfLo (w : Word) : Half := w.setWidth 16
def halfHi (w : Word) : Half := (w >>> 16).setWidth 16
def joinHalves (hi lo : Half) : Word := hi ++ lo

/-- The value held between two bounds. -/
def clampInt (lo hi x : Int) : Int := if x < lo then lo else if hi < x then hi else x

/-- The numbers 0 to n − 1 whose bit is set in a word. -/
def bitsOf (w : Word) : List Nat := (List.range 32).filter (fun i => bit w i)

/-- Word w of a bit map over numbers: bit i stands for number 32·w + i. -/
def maskWord (l : List Nat) (w : Nat) : Word :=
  l.foldl (fun acc n => if n / 32 = w then acc ||| BitVec.ofNat 32 (1 <<< (n % 32)) else acc) 0

/-- A list without repeats, in rising order of insertion: `n` added at its end. -/
def addTo (n : Nat) (l : List Nat) : List Nat := if l.contains n then l else l ++ [n]

/-- Replacement of one entry of a list, and the entry read with a value for want of it. -/
def listSet {α : Type} : List α → Nat → α → List α
  | [], _, _ => []
  | _ :: l, 0, v => v :: l
  | x :: l, n + 1, v => x :: listSet l n v

/-! ### Word memories -/

/-- The word an address reads as: its entry, else `d` of the address. -/
def memRead (d : Nat → Word) : Mem → Nat → Word
  | [], a => d a
  | (k, v) :: m, a => if a = k then v else memRead d m a

/-- Every entry of an address removed. -/
def memErase : Mem → Nat → Mem
  | [], _ => []
  | (k, v) :: m, a => if a = k then memErase m a else (k, v) :: memErase m a

/-- An entry put in its place of the rising order. -/
def memInsert : Mem → Nat → Word → Mem
  | [], a, v => [(a, v)]
  | (k, w) :: m, a, v =>
    if a < k then (a, v) :: (k, w) :: m
    else if a = k then (a, v) :: m
    else (k, w) :: memInsert m a v

/-- A write: the entry of a word equal to what an unlisted address reads as is removed. -/
def memWrite (d : Nat → Word) (m : Mem) (a : Nat) (v : Word) : Mem :=
  if v = d a then memErase m a else memInsert m a v

/-- Writes of several words, in their order. -/
def memWrites (d : Nat → Word) (m : Mem) (l : List (Nat × Word)) : Mem :=
  l.foldl (fun m p => memWrite d m p.1 p.2) m

/-- The canonical form: addresses strictly rising, no entry equal to what an unlisted address reads as. -/
def Mem.wf (d : Nat → Word) : Mem → Bool
  | [] => true
  | [(a, v)] => v != d a
  | (a, v) :: (b, w) :: m => decide (a < b) && (v != d a) && Mem.wf d ((b, w) :: m)

/-- What an unlisted address of every memory but the register file reads as. -/
def zeroWord (_ : Nat) : Word := 0

def get0 (m : Mem) (a : Nat) : Word := memRead zeroWord m a
def put0 (m : Mem) (a : Nat) (v : Word) : Mem := memWrite zeroWord m a v

/-! ### Register words (R13) -/

def Engine.reg (s : Engine) (a : Nat) : Word := memRead Reg.resetWord s.regs a

def Engine.setReg (s : Engine) (a : Nat) (v : Word) : Engine := { s with regs := memWrite Reg.resetWord s.regs a v }

def Engine.setRegs (s : Engine) (l : List (Nat × Word)) : Engine := l.foldl (fun s p => s.setReg p.1 p.2) s

/-- A field of a register. -/
def Engine.rfld (s : Engine) (a lo n : Nat) : Nat := fld (s.reg a) lo n

def Engine.rbit (s : Engine) (a i : Nat) : Bool := bit (s.reg a) i

def Engine.putRfld (s : Engine) (a lo n v : Nat) : Engine := s.setReg a (putFld (s.reg a) lo n v)

def Engine.putRbit (s : Engine) (a i : Nat) (b : Bool) : Engine := s.setReg a (putBit (s.reg a) i b)

/-! ### Pairs of registers (R10, R341) -/

/-- A write of a low half is held: its value, and that there is one. -/
def Engine.holdLow (s : Engine) (lo : Nat) (v : Word) : Engine :=
  { s with latch := memWrites zeroWord s.latch [(3 * 2 ^ 32 + lo, v), (4 * 2 ^ 32 + lo, 1)] }

/-- The low half that a write of the high half applies. -/
def Engine.heldLow (s : Engine) (lo : Nat) : Word :=
  if get0 s.latch (4 * 2 ^ 32 + lo) = 0 then s.reg lo else get0 s.latch (3 * 2 ^ 32 + lo)

/-- Both halves applied. -/
def Engine.applyPair (s : Engine) (lo hi : Nat) (v : Word) : Engine :=
  let low := s.heldLow lo
  { s with latch := put0 s.latch (4 * 2 ^ 32 + lo) 0 }.setRegs [(lo, low), (hi, v)]

/-- One more in a counter that wraps at 2^n in bits [lo + n − 1 : lo]. -/
def Engine.countWrap (s : Engine) (a lo n : Nat) : Engine := s.putRfld a lo n (s.rfld a lo n + 1)

/-- One more in a counter that holds at its largest value. -/
def Engine.countHold (s : Engine) (a lo n : Nat) : Engine :=
  if s.rfld a lo n + 1 < 2 ^ n then s.putRfld a lo n (s.rfld a lo n + 1) else s

/-! ### Free values -/

/-- The next free word, and the engine with the counter advanced. -/
def Engine.freeWord (s : Engine) : Word × Engine := (Config.freeWord s.freeCtr, { s with freeCtr := s.freeCtr + 1 })

/-- A quotient whose rounding the spec leaves open: up or down as a free value has it where it is not exact. -/
def freeQuot (a : Int) (b : Nat) (s : Engine) : Int × Engine :=
  ((if a % b = 0 ∨ Config.freeRound s.freeCtr = false then a / b else a / b + 1), { s with freeCtr := s.freeCtr + 1 })

/-- A rational so rounded. -/
def freeRat (q : Rat) (s : Engine) : Int × Engine := freeQuot q.num q.den s

/-! ### What spans the next TICK edge -/

/-- What takes effect on the next TICK edge, after whatever waits for it already. -/
def Engine.later (s : Engine) (d : Due) : Engine := { s with due := s.due ++ [d] }

/-- A control-path write of the present TICK into an inactive half is noted (R23). -/
def Engine.noteHalf (s : Engine) (w : HalfWrite) : Engine := { s with halfWrites := w :: s.halfWrites }

/-! ### Faults and events -/

/-- A report that an internal detector stands on its pair, until the collector samples it (R346). -/
def Engine.raise (s : Engine) (source : Fin 128) (locus : Nat) : Engine :=
  { s with flt.waiting := s.flt.waiting ++ [{ source := source, locus := word locus, master := 0, access := 0, index := 0 }] }

/-- A report with its capture information (R350). -/
def Engine.raiseWith (s : Engine) (r : Report) : Engine := { s with flt.waiting := s.flt.waiting ++ [r] }

/-- A report whose locus is the address of an access: its master, what it is (1 read, 2 write, 3 fetch), and the master's index
(R350). -/
def Engine.raiseAt (s : Engine) (source : Fin 128) (a : Nat) (master : Fin 8) (access : Fin 4) (index : Nat := 0) : Engine :=
  s.raiseWith { source := source, locus := word a, master := master, access := access, index := BitVec.ofNat 8 index }

def masterNo (m : Master) : Nat := match m with | .memberA => 0 | .memberB => 1 | .flp => 2

/-- The report of a failing access of a bus master (R350). -/
def Engine.raiseBy (s : Engine) (b : Bus) (source : Fin 128) (a : Nat) (access : Fin 4) : Engine :=
  s.raiseAt source a (Fin.ofNat 8 (masterNo b.master + 1)) access (if b.master = .memberB then 1 else 0)

/-- An event emitted on the present edge with a hop count, waiting for the fabric (R267). -/
def Engine.emitHop (s : Engine) (producer hop : Nat) : Engine :=
  { s with evt.emitted := s.evt.emitted ++ [{ producer := producer, hop := hop, edge := s.tick }] }

def Engine.emit (s : Engine) (producer : Nat) : Engine := s.emitHop producer 0

/-! ### Time (R239, R242) -/

/-- A nanosecond in units of 2^−48 ns. -/
def nsUnit : Nat := 2 ^ 48

/-- The counter's modulus: 2^64 seconds. -/
def timeModulus : Nat := 2 ^ 64 * 1000000000 * nsUnit

/-- Counter time in whole nanoseconds, seconds, nanoseconds of the second, and the fraction. -/
def Engine.nowNs (s : Engine) : Nat := s.time / nsUnit
def Engine.nowSec (s : Engine) : Nat := s.time / nsUnit / 1000000000
def Engine.nowSubNs (s : Engine) : Nat := s.time / nsUnit % 1000000000

/-- Increment of the counter on a TICK edge: 4 ns and RATE (R242). -/
def Engine.increment (s : Engine) : Nat := (4 * (nsUnit : Int) + s.tim.rate).toNat

/-- One TICK edge with nothing commanded: time and elapsed counter time advance outside RESET (R242, R245). -/
def tickEdge (s : Engine) : Engine :=
  if s.mode = .reset then { s with tick := s.tick + 1 }
  else { s with tick := s.tick + 1, time := (s.time + s.increment) % timeModulus, elapsed := s.elapsed + s.increment }

/-! ### Notifications (R331, R338) -/

/-- The low n bytes of a number, little-endian. -/
def leBytes (n v : Nat) : List Byte := (List.range n).map fun i => BitVec.ofNat 8 (v / 2 ^ (8 * i))

/-- The little-endian number in n bytes from an offset. -/
def leAt (p : List Byte) (i n : Nat) : Nat := ((p.drop i).take n).foldr (fun (b : Byte) (acc : Nat) => b.toNat + 256 * acc) 0

/-- A time-stamp as 96 bits. -/
def timeBytes (sec ns : Nat) : List Byte := leBytes 8 sec ++ leBytes 4 ns

/-- A notification of a stream that a session has subscribed to waits to be sent. -/
def Engine.noteTo (s : Engine) (n : Fin 65) (stream type : Nat) (payload : List Byte) : Engine :=
  let x := s.fw.sessions[n]
  if x.tls && x.streams.testBit stream then
    { s with fw.sessions := s.fw.sessions.set n { x with notes := x.notes ++ [{ type := type, payload := payload }] } }
  else s

/-! ### Modes -/

def modeCode (m : Mode) : Nat :=
  match m with
  | .reset => 0 | .load => 1 | .calibrate => 2 | .hold => 3 | .run => 4 | .kennel => 5

/-- A set bit where a condition holds. -/
def bitIf (c : Bool) (i : Nat) : Word := if c then BitVec.ofNat 32 (1 <<< i) else 0

/-- The outcome of what the engine does on the present edge: it leaves the queue alone, and every later access falls on a later
TICK. -/
def State.run (s : State) (f : Engine → Engine) : Host.Outcome State Fault Refusal :=
  .next { s with eng := { f s.eng with turn := 2 } }

/-- The meaning outside RESET; in RESET the command does nothing (R386, R390). -/
def Engine.unlessReset (s : Engine) (f : Engine → Engine) : Engine := if s.mode = .reset then s else f s

/-- An edge event of which the condition holds, and nothing where it does not. -/
def Engine.onlyIf (s : Engine) (c : Bool) (f : Engine → Engine) : Engine := if c then f s else s

/-! ### Who may reach a register (R302, R303), and the access log (R306) -/

/-- The ACTIVE member, if there is one: false A, true B. -/
def Engine.activeMember (s : Engine) : Option Bool :=
  if s.pak.a.role = .active then some false else if s.pak.b.role = .active then some true else none

def Engine.member (s : Engine) (b : Bool) : Member := if b then s.pak.b else s.pak.a

def Engine.setMember (s : Engine) (b : Bool) (m : Member) : Engine :=
  if b then { s with pak.b := m } else { s with pak.a := m }

def Engine.role (s : Engine) (b : Bool) : Role := if b then s.pak.b.role else s.pak.a.role

/-- The member an access comes from; the FLP window acts from the ACTIVE one (R342). -/
def Engine.memberOf (s : Engine) (b : Bus) : Option Bool :=
  match b.master with
  | .memberA => some false
  | .memberB => some true
  | .flp => s.activeMember

/-- Whether a master's accesses reach beyond its own SRAM, the boot ROM and the PAK window (R303). -/
def Engine.reaches (s : Engine) (b : Bus) : Bool :=
  match s.memberOf b with
  | some m => s.role m = .active
  | none => false

/-- The access log of a cycle, and that of the present one (R306). -/
def Engine.logOf (s : Engine) (c : Nat) : List LogEntry :=
  match s.pak.logs.find? fun p => p.1 == c with
  | some p => p.2
  | none => []

def Engine.log (s : Engine) : List LogEntry := s.logOf s.pak.cycle

/-- Entries added to the log of the present cycle. -/
def Engine.enterLog (s : Engine) (es : List LogEntry) : Engine :=
  { s with pak.logs := (s.pak.cycle, s.log ++ es) :: s.pak.logs.filter fun p => p.1 != s.pak.cycle }

/-- Accesses of the firmware whose work this model does itself. -/
def Engine.logFirmware (n : Nat) (s : Engine) : Engine := s.enterLog (List.replicate n .firmware)

/-- A follower of a rehearsal cycle: its other accesses are blocked without a trace (R318). -/
def Engine.follows (s : Engine) (b : Bus) : Bool :=
  s.pak.overlap && (match s.memberOf b with | some m => s.role m == .standby | none => false)

/-- A register access of a master (R303): nothing in RESET, blocked where the member is not ACTIVE, else its effect. -/
def Engine.access (s : Engine) (b : Bus) (f : Engine → Engine) : Engine :=
  if s.mode = .reset then s
  else if s.reaches b then f s
  else if b.master = .flp || s.follows b then s
  else s.putRbit Reg.pakStat 13 true

/-- An access of the PAK window, open to both members (R303). -/
def Engine.accessPak (s : Engine) (b : Bus) (f : Engine → Engine) : Engine :=
  if s.mode = .reset then s
  else match s.memberOf b with
    | none => s
    | some m => if s.role m = .fenced then s.putRbit Reg.pakStat 13 true
      else f s

end Sys2Proof.Machine
end

