-- ==== Sys2Proof/Machine/Flags.lean ====
section
/-! DEFINITION. Arithmetic of a loop processor: products, accumulators and their clamp (R144, R145), narrowing write-backs (R146),
sticky flags (R147) and condition flags (R148). -/

namespace Sys2Proof.Machine

open Sys2Proof

/-! ### Sticky flags (R143, R147) -/

abbrev LpFlag.ovg : Nat := 0
abbrev LpFlag.sat : Nat := 1
abbrev LpFlag.mv : Nat := 2
abbrev LpFlag.lim : Nat := 3
abbrev LpFlag.ua : Nat := 4
abbrev LpFlag.eccCe : Nat := 5
abbrev LpFlag.vlost : Nat := 6
abbrev LpFlag.evOvr : Nat := 7

/-- A sticky flag set. -/
def LpState.stick (x : LpState) (i : Nat) : LpState := { x with sticky := x.sticky ||| BitVec.ofNat 8 (1 <<< i) }

def LpState.stickIf (x : LpState) (c : Bool) (i : Nat) : LpState := if c then x.stick i else x

/-- The flags of a mask cleared. -/
def LpState.unstick (x : LpState) (mask : Byte) : LpState := { x with sticky := x.sticky &&& ~~~mask }

/-! ### Products (R144) -/

/-- The product of two data registers, and whether it is the one that Q1.31 cannot hold. -/
def lpProduct (frac : Bool) (a b : Half) : Int × Bool :=
  let p := a.toInt * b.toInt
  if frac then (if p = 2 ^ 30 then (2 ^ 31 - 1, true) else (2 * p, false)) else (p, false)

/-! ### Accumulators (R145) -/

/-- An accumulator as a signed number. -/
def LpState.acc (x : LpState) (k : Fin 4) : Int := (x.a[k]).toInt

/-- A result that reads and modifies Ak: unchanged while clamped; full scale and clamped on an overflow. -/
def LpState.modifyAcc (x : LpState) (k : Fin 4) (r : Int) : LpState :=
  if x.clamp[k] then { x with fv := true }
  else if r < -(2 ^ 39) then
    LpState.stick { x with a := x.a.set k (BitVec.ofInt 40 (-(2 ^ 39))), clamp := x.clamp.set k true, fv := true } LpFlag.ovg
  else if 2 ^ 39 - 1 < r then
    LpState.stick { x with a := x.a.set k (BitVec.ofInt 40 (2 ^ 39 - 1)), clamp := x.clamp.set k true, fv := true } LpFlag.ovg
  else { x with a := x.a.set k (BitVec.ofInt 40 r) }

/-- A result written without reading Ak: the clamp ends. -/
def LpState.writeAcc (x : LpState) (k : Fin 4) (r : Int) : LpState :=
  { x with a := x.a.set k (BitVec.ofInt 40 r), clamp := x.clamp.set k false }

/-- A product into, onto or off an accumulator. -/
def LpState.multiply (x : LpState) (op : MulOp) (k : Fin 4) (a b : Half) : LpState :=
  let (p, mv) := lpProduct x.frac a b
  let x := x.stickIf mv LpFlag.mv
  match op with
  | .set => x.writeAcc k p
  | .add => x.modifyAcc k (x.acc k + p)
  | .sub => x.modifyAcc k (x.acc k - p)

/-- A multiply in one of its forms (R153): every operand is read from the registers before the instruction. -/
def LpState.multiplyForm (x : LpState) (op : MulOp) (f : MacForm) : LpState :=
  match f with
  | .single acc dx dy => x.multiply op acc x.d[dx] x.d[dy]
  | .qx dx =>
    let b := x.d[dx]
    (((x.multiply op 0 b x.d[4]).multiply op 1 b x.d[5]).multiply op 2 b x.d[6]).multiply op 3 b x.d[7]
  | .qy dy =>
    let b := x.d[dy]
    (((x.multiply op 0 x.d[0] b).multiply op 1 x.d[1] b).multiply op 2 x.d[2] b).multiply op 3 x.d[3] b

/-! ### Condition flags (R148) -/

/-- Z and N of a value, and V. -/
def LpState.setFlags (x : LpState) (v : Int) (vflag : Bool) : LpState :=
  { x with fz := decide (v = 0), fn := decide (v < 0), fv := vflag }

/-- The flags of an ALU instruction from its destination. -/
def LpState.aluFlags (x : LpState) (k : Fin 4) : LpState := x.setFlags (x.acc k) x.clamp[k]

/-! ### Narrowing write-backs (R146) -/

/-- floor((A·2^s + 2^15) ÷ 2^16) for s from −16 to +15, saturated to 16 bits, and whether it saturates. -/
def narrowHigh (a : Int) (s : Int) : Int × Bool :=
  let v := if 0 ≤ s then (a * 2 ^ s.toNat + 2 ^ 15) / 2 ^ 16 else (a + 2 ^ 15 * 2 ^ (-s).toNat) / 2 ^ (16 + (-s).toNat)
  (clampInt (-32768) 32767 v, decide (v ≠ clampInt (-32768) 32767 v))

/-- A saturated to 16 bits. -/
def narrowLow (a : Int) : Int × Bool := (clampInt (-32768) 32767 a, decide (a ≠ clampInt (-32768) 32767 a))

/-- The rounding of RND. -/
def roundAcc (a : Int) : Int := (a + 2 ^ 15) / 2 ^ 16 * 2 ^ 16

/-! ### Conditions of a branch (R153) -/

def LpState.cond (x : LpState) (c : Fin 8) : Bool :=
  match c.val with
  | 0 => true
  | 1 => x.fz
  | 2 => !x.fz
  | 3 => x.fn
  | 4 => !x.fn
  | 5 => !x.fn && !x.fz
  | 6 => x.fn || x.fz
  | _ => x.fv

end Sys2Proof.Machine
end

