-- ==== Sys2Proof/Machine/Setpoint.lean ====
section
/-! DEFINITION. Element numbering (R38, R56), the calibration words by space (R197, R215), setpoint memory with its tile
checksums (R82, R83), live words (R85), range hold (R97), the builder's writes (R22, R83) and the re-seed (R88). -/

namespace Sys2Proof.Machine

open Sys2Proof

/-! ### Numbers of the fabric -/

/-- The four elements of a cell by its index over both planes (R56). -/
def cellElements (cell : Nat) : List Nat := [4 * cell, 4 * cell + 1, 4 * cell + 2, 4 * cell + 3]

/-- The elements of a list of cells of a plane, in both planes, in ascending index (R70). -/
def elementsOf (v : Variant) (cells : List Nat) : List Nat :=
  (cells.flatMap cellElements) ++ (cells.flatMap fun c => cellElements (v.planeCells + c))

/-- The plane cell an element belongs to. -/
def cellOf (v : Variant) (e : Nat) : Nat := e / 4 % v.planeCells

/-- Plane and stage of an element. -/
def planeOf (v : Variant) (e : Nat) : Nat := e / 4 / v.planeCells
def stageOf (v : Variant) (e : Nat) : Nat := cellOf v e / v.cellsPerStage

/-- The drive cell of an element and its Whistle branch (R90): the element map of the image places them on the smaller
engines. -/
def driveCellOf (s : Engine) (e : Nat) : Nat :=
  match s.variant, s.nvm.image with
  | .pq512, _ => e
  | _, some img => (get0 img.driveCell e).toNat
  | _, none => e

def branchOf (s : Engine) (e : Nat) : Nat := driveCellOf s e / 1024

/-! ### Calibration words (R215) -/

def calKey (space index : Nat) : Nat := space * 2 ^ 18 + index

def calWord (words : Mem) (space index : Nat) : Word := get0 words (calKey space index)

/-- TABLE_S or TABLE_T of an element. -/
def tableWord (words : Mem) (e : Nat) (turn : Bool) : Half :=
  let w := calWord words 0 (4 * e)
  if turn then halfHi w else halfLo w

/-- RANGE of an element: true is NARROW. -/
def rangeNarrow (words : Mem) (e : Nat) : Bool := bit (calWord words 0 (4 * e + 1)) 0

/-- C_E of an element in fF. -/
def capacitance (words : Mem) (e : Nat) : Nat := fld (calWord words 0 (4 * e + 1)) 16 16

/-- The staged entry for an element in a state (R82). -/
def entryFor (words : Mem) (e : Nat) (turn : Bool) : Word :=
  putBit (putBit (word (tableWord words e turn).toNat) 16 turn) 17 (rangeNarrow words e)

/-! ### Checksums (R83) -/

/-- CRC-32C, reflected: one word in little-endian order. -/
def crcStep (c : Word) : Word := if c.getLsbD 0 then (c >>> 1) ^^^ 0x82F63B78#32 else c >>> 1

def iterate {α : Type} (f : α → α) : Nat → α → α
  | 0, x => x
  | n + 1, x => iterate f n (f x)

def crcWord (c w : Word) : Word := iterate crcStep 32 (c ^^^ w)

def crc32c (l : List Word) : Word := ~~~(l.foldl crcWord 0xFFFFFFFF#32)

/-- The 256 entries of a tile. -/
def tileWords (m : Mem) (t : Nat) : List Word := (List.range 256).map fun i => get0 m (256 * t + i)

def tileCrc (m : Mem) (t : Nat) : Word := crc32c (tileWords m t)

/-- The entries of tile t of one memory copied from another. -/
def copyTile (src dst : Mem) (t : Nat) : Mem :=
  (List.range 256).foldl (fun m i => put0 m (256 * t + i) (get0 src (256 * t + i))) dst

/-- Memory upsets: the words at some addresses with some bits flipped. -/
def upset (m : Mem) (flips : List (Nat × Word)) : Mem :=
  flips.foldl (fun m p => put0 m p.1 (get0 m p.1 ^^^ p.2)) m

/-- A number put into an ascending list without repeats. -/
def insertNat (n : Nat) : List Nat → List Nat
  | [] => [n]
  | k :: l => if n < k then n :: k :: l else if n = k then k :: l else k :: insertNat n l

def unionNat (a b : List Nat) : List Nat := a.foldl (fun l n => insertNat n l) b

/-- The addresses at which two memories read differently, ascending. -/
def memDiff (a b : Mem) : List Nat :=
  unionNat ((a.filter fun p => get0 b p.1 ≠ p.2).map Prod.fst) ((b.filter fun p => get0 a p.1 ≠ p.2).map Prod.fst)

/-! ### Live words (R85, R101, R107) -/

def sat16 (i : Int) : Int := clampInt (-32768) 32767 i

/-- Round half up of a quotient by a positive number. -/
def roundHalfUp (a : Int) (b : Nat) : Int := (2 * a + b) / (2 * b)

/-- TRIM_S or TRIM_T of an element (R84). -/
def trimOf (s : Engine) (e : Nat) (turn : Bool) : Int :=
  let w := get0 s.drv.trims e
  ((if turn then halfHi w else halfLo w) : Half).toInt

/-- Whether generator g drives element e (R107, R108). -/
def scentOn (s : Engine) (g e : Nat) : Bool :=
  (s.mode = .hold || s.mode = .run) && s.rbit (Reg.drvScentCtl g) 0 && s.rfld (Reg.drvScentCtl g) 16 16 == e

/-- The output of generator g as its element sees it: held through the element's probe pair (R108). -/
def scentValue (s : Engine) (g : Nat) : Int :=
  match s.drv.scentHeld.getD g none with
  | some v => v
  | none => s.drv.scentOut.getD g 0

/-- SCENT of R85. DESIGN CHOICE (log 87): it is added for a suspended element too; R101 names TABLE and TRIM alone, R107 no
exception. -/
def scentTerm (s : Engine) (e : Nat) : Int :=
  (List.range 8).foldl (fun acc g => if scentOn s g e then acc + scentValue s g else acc) 0

/-- PROBE of R85. -/
def probeTerm (s : Engine) (e : Nat) : Int :=
  match s.drv.probes.find? (fun p => p.1 == e) with
  | some (_, true) => s.drv.delta
  | some (_, false) => -(s.drv.delta : Int)
  | none => 0

/-- The word before rail correction, before its saturation, of a cell's active word. -/
def drivenSum (s : Engine) (e : Nat) (entry : Word) : Int :=
  (halfLo entry).toInt + trimOf s e (bit entry 16) + scentTerm s e + probeTerm s e

/-- The rail multiplier of a word (R85): KP or KN of DRV_RAILCOMP, which holds 16,384 twice while RAILCOMP_EN is 0 (R96). -/
def railFactor (s : Engine) (w : Int) : Nat := if 0 ≤ w then s.rfld Reg.drvRailcomp 0 16 else s.rfld Reg.drvRailcomp 16 16

/-- The live word that a cell forms from an active word (R85). -/
def liveWordOf (s : Engine) (e : Nat) (entry : Word) : Int :=
  let w := sat16 (drivenSum s e entry)
  sat16 (roundHalfUp (w * railFactor s w) 16384)

/-- Whether either saturation of R85 clips. -/
def liveClips (s : Engine) (e : Nat) (entry : Word) : Bool :=
  let sum := drivenSum s e entry
  let w := sat16 sum
  let r := roundHalfUp (w * railFactor s w) 16384
  decide (sum ≠ w ∨ r ≠ sat16 r)

/-- The live word in force and its range: the held one in range hold (R97). Bit 16: NARROW. -/
def liveOf (s : Engine) (e : Nat) : Int × Bool :=
  match s.drv.rangeHold.find? (fun p => p.1 == e) with
  | some (_, w) => ((halfLo w).toInt, bit w 16)
  | none => let entry := get0 s.drv.cellActive e; (liveWordOf s e entry, bit entry 17)

def livePacked (s : Engine) (e : Nat) : Word :=
  let (v, r) := liveOf s e
  putBit (word (twos 16 v)) 16 r

/-- Live words formed again after a term changed: DRV_STAT.SAT is set where one clips (R85). -/
def formLive (s : Engine) (es : List Nat) : Engine :=
  s.onlyIf (es.any fun e => !(s.drv.rangeHold.any fun p => p.1 == e) && liveClips s e (get0 s.drv.cellActive e))
    fun s => s.putRbit Reg.drvStat 10 true

/-- Elements whose live word is not 0 for want of a word, a trim or a tone. -/
def drivenElements (s : Engine) : List Nat :=
  s.drv.cellActive.map Prod.fst ++ s.drv.trims.map Prod.fst ++ s.drv.probes.map Prod.fst ++
    ((List.range 8).filter fun g => s.rbit (Reg.drvScentCtl g) 0).map fun g => s.rfld (Reg.drvScentCtl g) 16 16

/-- Every live word formed again after a term common to all changed. -/
def formAll (s : Engine) : Engine := formLive s (drivenElements s)

/-- Output steps of some elements on the present edge (R100): live words formed again, and LEAK blanked. -/
def stepOutputs (s : Engine) (es : List Nat) : Engine :=
  formLive { s with drv.stepped := es.map (fun e => (e, s.tick)) ++ s.drv.stepped.filter fun p => decide (s.tick < p.2 + 250) } es

/-- The rail factors in force: on the edge after a report's broadcast, or 16,384 twice as RAILCOMP_EN is written 0 (R96). -/
def applyRail (w : Word) (s : Engine) : Engine := formAll { s.setReg Reg.drvRailcomp w with drv.railTick := some s.tick }

/-- Whether a splitter's watch diode is read at its turn-arm junction: while its active entry is STRAIGHT; else at the through-arm
junction (R46). -/
def watchesTurnArm (s : Engine) (e : Nat) : Bool := !bit (get0 s.drv.active e) 16

/-! ### Builder writes (R22, R83, R97) -/

/-- The staged half is locked against the builder (R22). -/
def Engine.stagedLocked (s : Engine) : Bool :=
  match s.drv.lock with
  | .free => false
  | .held => true
  | .untilTick t => decide (s.tick < t)

/-- One staged entry written: checksum recomputed, tile marked dirty, and range hold where RANGE changes. -/
def stageEntry (s : Engine) (e : Nat) (w : Word) : Engine :=
  let staged := put0 s.drv.staged e w
  let t := e / 256
  let hold := if bit w 17 ≠ bit (get0 s.drv.active e) 17 ∧ !(s.drv.rangeHold.any fun p => p.1 == e) = true
    then memInsert s.drv.rangeHold e (livePacked s e) else s.drv.rangeHold
  { s with drv.staged := staged, drv.crcStaged := put0 s.drv.crcStaged t (tileCrc staged t),
           drv.dirty := insertNat t s.drv.dirty, drv.rangeHold := hold }

/-- A builder write: it waits while the staged half is locked (R22). -/
def builderWrite (s : Engine) (e : Nat) (w : Word) : Engine :=
  if s.stagedLocked then { s with drv.waiting := s.drv.waiting ++ [(e, w)] } else stageEntry s e w

/-- The lock is released, and builder writes that waited are applied (R22, R88). -/
def releaseStaged (s : Engine) : Engine :=
  let ws := s.drv.waiting
  ws.foldl (fun s p => stageEntry s p.1 p.2) { s with drv.lock := .free, drv.waiting := [] }

/-- A lock that a Whistle ends at T + 1 is released once that edge is reached (R91). -/
def settleLock (s : Engine) : Engine :=
  match s.drv.lock with
  | .untilTick t => if t ≤ s.tick then releaseStaged s else s
  | _ => s

/-! ### Re-seed (R88) -/

/-- One tile of the staged half and of the cells' staged registers restored from the active half. -/
def reseedTile (s : Engine) (t : Nat) : Engine :=
  { s with drv.staged := copyTile s.drv.active s.drv.staged t,
           drv.crcStaged := put0 s.drv.crcStaged t (get0 s.drv.crcActive t),
           drv.cellStaged := copyTile s.drv.active s.drv.cellStaged t }

/-- Elements of range hold whose staged RANGE equals the active one again resume (R97). -/
def endRangeHold (s : Engine) : Engine :=
  let differs (p : Nat × Word) : Bool := bit (get0 s.drv.staged p.1) 17 != bit (get0 s.drv.active p.1) 17
  let ended := s.drv.rangeHold.filter fun p => !differs p
  formLive { s with drv.rangeHold := s.drv.rangeHold.filter differs } (ended.map Prod.fst)

/-- Every dirty tile re-seeded, the marks cleared and the lock released (R88). -/
def reseedAll (s : Engine) : Engine :=
  let s := s.drv.dirty.foldl reseedTile s
  releaseStaged (endRangeHold { s with drv.dirty := [], drv.loader := .idle, drv.reseedDue := false })

end Sys2Proof.Machine
end

