-- ==== Sys2Proof/Machine/Sense.lean ====
section
/-! DEFINITION. The sense lanes: slots, boundaries, conversions, the Leash and the lane configuration (chapter 05). -/

namespace Sys2Proof.Machine

open Sys2Proof

/-! ### Slots and elements (R111, R112) -/

/-- The element on a slot of an element lane, by the element map in effect. -/
def elementAt (s : Engine) (lane slot : Nat) : Option Nat :=
  match s.nvm.image with
  | none => none
  | some img => (img.laneSlot.find? (fun p => p.2 == word (72 * lane + slot + 1))).map Prod.fst

/-- Lane and slot of an element. -/
def laneSlotOf (s : Engine) (e : Nat) : Option (Nat × Nat) :=
  match s.nvm.image with
  | none => none
  | some img =>
    let w := (get0 img.laneSlot e).toNat
    if w = 0 then none else some ((w - 1) / 72, (w - 1) % 72)

/-- Whether slot `slot` of a lane carries a diode: an element, or a port monitor below 4N. -/
def occupied (s : Engine) (lane slot : Nat) : Bool :=
  if lane < 512 then (elementAt s lane slot).isSome
  else decide (slot < 64 ∧ (lane - 512) * 64 + slot < 4 * s.variant.ports)

/-- Slots of a lane that carry diodes. -/
def slotCount (lane : Nat) : Nat := if lane < 512 then 68 else 64

/-- Address of a result (R405). -/
def resultAddr (lane slot half : Nat) : Nat :=
  if lane < 512 then
    0x70000000 + 0x400 * lane + (if slot < 68 then 8 * slot + 4 * half else 0x220 + 4 * (slot - 68))
  else 0x70080000 + 0x200 * (lane - 512) + (if slot < 68 then 4 * slot else 0x100 + 4 * (slot - 68))

/-- Loop processor that serves a lane. -/
def lpOfLane (lane : Nat) : Nat := if lane < 512 then lane / 16 else 32

/-- Leash entry of a slot in the live set (R130). -/
def leashEntry (s : Engine) (lane slot : Nat) : Word := calWord s.cal.live.words 3 (72 * lane + slot)

def Engine.lane (s : Engine) (l : Fin 544) : Lane := s.sns.lanes[l]

def Engine.setLane (s : Engine) (l : Fin 544) (x : Lane) : Engine := { s with sns.lanes := s.sns.lanes.set l x }

/-- SNS_LANE_CFG[l]. -/
def laneCfg (s : Engine) (l : Nat) : Word := s.reg (Reg.snsLaneCfg l)

/-! ### A lane at its boundary (R120, R124 to R127, R129) -/

/-- The promotion list without entries that repeat, name slot 68 or above, or name an unoccupied slot (R120). -/
def cleanPromotion (s : Engine) (l : Nat) (list : List Nat) : List Nat :=
  list.foldl (fun acc x => if x < 68 ∧ occupied s l x = true ∧ !acc.contains x = true then acc ++ [x] else acc) []

/-- The scan order of an element lane (R120). -/
def scanOrder (s : Engine) (l : Nat) : List Nat :=
  match s.nvm.image with
  | none => List.range 68
  | some img => (List.range 68).map fun i => (get0 img.scanOrder (128 * l + i)).toNat

/-- The scheduled diagnostic's place (R127): scan-order entry r mod 68, or the next one cyclically that is not promoted. -/
def diagSlot (order promo : List Nat) (r : Nat) : Option Nat :=
  ((List.range 68).map fun i => order.getD ((r + i) % 68) 0).find? fun x => !promo.contains x

/-- Whether a lane makes scheduled diagnostics (R127). -/
def diagOn (s : Engine) (l : Nat) : Bool :=
  decide (fld (laneCfg s l) 16 4 ≠ 0) && (List.range (slotCount l)).all (occupied s l)

/-- Whether a scheduled diagnostic is due in a sweep or scan of a count (R127). -/
def diagDue (s : Engine) (l count : Nat) : Bool :=
  diagOn s l && decide (count % 2 ^ (fld (laneCfg s l) 16 4 - 1) = 0)

/-- The conversions of one sweep of an element lane. -/
def sweepTodo (s : Engine) (l : Nat) (promo : List Nat) (dummies count r : Nat) : List (Nat × Nat × Bool) :=
  let order := scanOrder s l
  let promo := cleanPromotion s l promo
  let slots := promo ++ order.filter fun x => !promo.contains x
  let diag := if dummies = 0 ∧ diagDue s l count = true then diagSlot order promo r else none
  let mark (x : Nat) : Nat := if some x = diag then 73 else if occupied s l x then x else 72
  let visits := (slots.take (68 - dummies)).map mark
  (List.replicate (2 * dummies) (68, 0, true)).mapIdx (fun i p => (p.1, i % 2, p.2.2)) ++
    visits.flatMap fun x => [(x, 0, false), (x, 1, false)]

/-- The conversions of one scan of a port lane. -/
def scanTodo (s : Engine) (l : Nat) (count r : Nat) : List (Nat × Nat × Bool) :=
  let diag := if diagDue s l count = true then some (r % 64) else none
  (List.range 64).map fun j => ((if some j = diag then 73 else if occupied s l j then j else 72), 0, false)

/-- The range that a boundary applies (R125). -/
def nextRange (s : Engine) (l : Nat) (x : Lane) (downRun : Nat) : Nat × Bool :=
  let cfg := laneCfg s l
  if !bit cfg 7 || x.cfgWritten then (fld cfg 0 3, false)
  else if x.up && decide (0 < x.range) then (x.range - 1, true)
  else if decide (max 1 (s.rfld Reg.snsCtl 8 4) ≤ downRun) && decide (x.range < 5) then (x.range + 1, true)
  else (x.range, false)

/-- Forced-STALE slots of a lane as its registers have them (R126). -/
def fstaleSlots (s : Engine) (l : Nat) : List Nat :=
  (List.range 72).filter fun i => s.rbit (Reg.snsFstale l (i / 32)) (i % 32)

/-- The boundary at which an accepted request leaves CALIBRATE, where TEST and PARK clear (R129, R394). -/
def Engine.leavesCalibrate (s : Engine) : Bool :=
  s.mode == .calibrate && s.sys.trip.isNone && s.sys.pendMode == some .hold && decide (s.sys.pendFrom ≤ s.tick)

/-- A lane at its boundary: configuration, forced STALE, auto-range, promotion list and dummy visits take effect in the order of
R132. `first`: the first boundary since RESET, at which nothing has to settle. A parked lane makes no dummy visits, and the
conversions of R124 are STALE. -/
def laneBoundary (l : Fin 544) (first : Bool) (promo : List Nat) (count : Nat) (s : Engine) : Engine :=
  let x := s.lane l
  let s := if s.mode = .calibrate ∧ s.leavesCalibrate = false then s
    else s.setReg (Reg.snsLaneCfg l) (putBit (putBit (laneCfg s l) 31 false) 30 false)
  let cfg := laneCfg s l
  let downRun := if x.high || first then 0 else x.downRun + 1
  let (range, stepped) := nextRange s l x downRun
  let bw := fld cfg 8 2
  let rangeChange := !first && range != x.range
  let bwChange := !first && bw != x.bw
  let visits := if bwChange then 2 else if rangeChange then 1 else 0
  let parkSlot := fld cfg 23 7
  let parked := if 68 ≤ parkSlot ∨ occupied s l parkSlot = true then parkSlot else 72
  let todo : List (Nat × Nat × Bool) :=
    if bit cfg 30 then
      if l.val < 512 then (List.range 136).map fun i => (parked, i % 2, false)
      else (List.range 64).map fun _ => (parked, 0, false)
    else if l.val < 512 then sweepTodo s l promo visits count x.diag
    else scanTodo s l count x.diag
  s.setLane l { x with
    range := range, bw := bw, testAct := bit cfg 31, parkAct := bit cfg 30, parkSlot := parkSlot,
    fstale := fstaleSlots s l, tdac := s.rfld (Reg.snsTdac l) 0 10, up := false, high := false,
    downRun := if stepped then 0 else downRun, overRange := false, overRun := if x.overRange then x.overRun + 1 else 0,
    cfgWritten := false, staleLeft := if l.val < 512 && !bit cfg 30 then 0 else 2 * visits, todo := todo, made := 0 }

/-! ### Conversions (R117, R119, R122, R126, R127) -/

/-- TICK and SAR edges coincide (R29). -/
def Engine.coincident (s : Engine) : Bool := (s.tick - s.divTick) % 125 == 0

/-- The channel that a diagnostic converts: by visit half on an element lane, in rotation on a port lane. -/
def diagChannel (l half phase : Nat) : Nat := if l < 512 then 68 + 2 * (phase % 2) + half else 68 + phase % 4

/-- Whether the drive cell applies probe offsets to an element (R97, R101, R133): its loop runs, and it is neither suspended nor
in range hold. -/
def probesOn (s : Engine) (e : Nat) : Bool :=
  s.mode ≠ .reset && !s.drv.clamped && !s.drv.suspLoop.contains e && !(s.drv.rangeHold.any fun p => p.1 == e)

/-- Probes of some elements ended, with the generator outputs held for them, but for the element whose pair goes on (R85, R108). -/
def endProbesOf (s : Engine) (which : Nat → Bool) (goesOn : Option Nat) : Engine :=
  let ended := (s.drv.probes.filter fun p => which p.1).map Prod.fst
  let freed (g : Nat) : Bool :=
    let e := s.rfld (Reg.drvScentCtl g) 16 16
    ended.contains e && goesOn != some e
  stepOutputs { s with
    drv.probes := s.drv.probes.filter (fun p => !which p.1),
    drv.scentHeld := s.drv.scentHeld.mapIdx fun g v => if freed g then none else v } ended

/-- Probes of a lane's elements ended as its next conversion starts. -/
def endProbes (s : Engine) (lane : Nat) (goesOn : Option Nat) : Engine :=
  endProbesOf s (fun e => match laneSlotOf s e with
    | some (l, _) => l == lane
    | none => false) goesOn

/-- The probe step of a conversion applied on its start edge (R85): +δ in the first, −δ in the second. The generators of the
element are held from the start of the pair (R108). -/
def applyProbe (s : Engine) (e half : Nat) : Engine :=
  let hold (g : Nat) : Bool := half == 0 && s.rfld (Reg.drvScentCtl g) 16 16 == e
  let held := s.drv.scentHeld.mapIdx fun g v => if hold g then some (s.drv.scentOut.getD g 0) else v
  let kept := if half = 0 then held else s.drv.scentHeld
  stepOutputs { s with drv.probes := s.drv.probes ++ [(e, half == 0)], drv.scentHeld := kept } [e]

/-- The drive word of a swept element as its pair of conversions has it on the mean, in the 128 swept sweeps of a round of full
calibration; none where the drive word of either conversion saturates (R209). -/
def sweptWord (s : Engine) (l slot e : Nat) : Option Int :=
  let loc := 68 * (l % 16) + slot
  let run := (s.lps.toList.getD (l / 16) LpState.reset).std.swept.any fun r => r.1 == loc && decide (2 ≤ r.2.2.2 ∧ r.2.2.2 ≤ 129)
  let entry := get0 s.drv.cellActive e
  let free := { s with drv.probes := s.drv.probes.filter fun p => p.1 != e }
  let clips (up : Bool) : Bool := liveClips { free with drv.probes := (e, up) :: free.drv.probes } e entry
  if s.cal.phase = 4 ∧ run = true ∧ clips true = false ∧ clips false = false then some (liveWordOf free e entry) else none

/-- The next conversion of a lane's sweep or scan starts (R117, R119). -/
def conversionStart (l : Fin 544) (s : Engine) : Engine :=
  let x := s.lane l
  let start := if l.val < 512 then s.sns.sweepStart else s.sns.scanStart
  match x.todo with
  | [] => s
  | (slot, half, dummy) :: rest =>
    s.onlyIf (s.mode ≠ .reset && s.coincident && decide (start + 250 * x.made ≤ s.tick)) fun s =>
      let diag := decide (72 ≤ slot)
      let ch := if diag then diagChannel l half x.diagPhase else slot
      let taken := bit (laneCfg s l) 31 = false ∨ s.mode ≠ .calibrate ∨ s.sys.pendMode = some .hold
      let stale := decide (0 < x.staleLeft) || x.fstale.contains ch || (x.testAct && decide taken)
      let current := decide (ch < 68) || ch == 71
      let probed :=
        if l.val < 512 ∧ slot < 68 ∧ dummy = false ∧ x.parkAct = false then (elementAt s l slot).filter (probesOn s) else none
      let c : Conv :=
        { slot := ch, half := half, seq := x.counter % 256, start := s.tick, stale := stale, dummy := dummy,
          range := if current then x.range else 7, addr := resultAddr l ch half, leash := false,
          pre := false, tdac := x.tdac, sample := none, drive := probed.bind (sweptWord s l slot) }
      let lastHalf := decide (512 ≤ l.val) || half == 1
      let x' := { x with
        todo := rest, made := x.made + 1, counter := x.counter + 1, staleLeft := x.staleLeft - 1,
        convs := x.convs ++ [c], diagPhase := if diag && lastHalf then (x.diagPhase + 1) % 4 else x.diagPhase,
        diag := if slot = 73 ∧ half = 0 then x.diag + 1 else x.diag }
      let s := (endProbes s l (if half = 1 then probed else none)).setLane l x'
      match probed with
      | some e => applyProbe s e half
      | none => s

/-! ### The Leash (R130, R131) -/

/-- Whether a conversion is judged: not STALE, EN = 1, and the entry's range. -/
def judged (s : Engine) (l : Nat) (c : Conv) : Bool :=
  let w := leashEntry s l c.slot
  !c.stale && !c.dummy && bit w 31 && fld w 28 3 == c.range

/-- The last conversion started, with its held sample and what the lane logic decided of it. -/
def markLeash (x : Lane) (code : Nat) (outside : Bool) : Lane :=
  match x.convs.getLast? with
  | none => x
  | some c => { x with convs := x.convs.dropLast ++ [{ c with leash := outside, sample := some code }] }

/-- The comparator's decision on a held sample: its thresholds lie within 1 LSB of the band edges, and where in that LSB is open
(R116, R131). -/
def leashOutside (w : Word) (code : Nat) (s : Engine) : Bool × Engine :=
  let (f, s) := s.freeWord
  let off := (f.toNat % 3 : Int) - 1
  (decide ((code : Int) + off < fld w 0 12 ∨ (fld w 12 12 : Int) < code + off), s)

/-- A Leash event of processor k, presented on the next edge (R117); those of two of its lanes on one TICK are one event (R130). -/
def emitLeash (k : Nat) (s : Engine) : Engine :=
  let x : Emitted := { producer := 0x40 + k, hop := 0, edge := s.tick + 1 }
  if s.evt.emitted.contains x then s else { s with evt.emitted := s.evt.emitted ++ [x] }

/-- The Leash decision, 64 TICK after the start, on the sample that the converter holds; a change from inside to outside is an event
of the lane's processor. -/
def leashDecision (l : Fin 544) (code : Fin 4096) (s : Engine) : Engine :=
  match (s.lane l).convs.getLast? with
  | none => s
  | some c =>
    s.onlyIf (s.mode ≠ .reset && decide (c.start + 64 ≤ s.tick) && c.sample.isNone && judged s l c) fun s =>
      let key := 72 * l.val + c.slot
      let was := s.sns.out.contains key
      let (outside, s) := leashOutside (leashEntry s l c.slot) code s
      let s := s.setLane l (markLeash (s.lane l) code outside)
      if outside then
        let s := { s with sns.out := insertNat key s.sns.out }
        if was then s
        else emitLeash (lpOfLane l) ((s.putRbit (Reg.snsLaneStat l) 8 true).putRbit Reg.snsStat 2 true)
      else { s with sns.out := s.sns.out.filter (· != key) }

/-! ### Configuration writes (R114, R129, R134) -/

/-- Whether a lane has a slot (R129). -/
def hasSlot (l slot : Nat) : Bool := decide (slot < slotCount l ∨ (68 ≤ slot ∧ slot < 72))

/-- A write of SNS_LANE_CFG[l]. -/
def laneCfgWrite (b : Bus) (l : Fin 544) (v : Word) (s : Engine) : Engine :=
  s.access b fun s =>
    let old := laneCfg s l
    let slotOk := hasSlot l (fld v 23 7)
    let refused := (bit v 31 || bit v 30) && (decide (s.mode ≠ .calibrate) || !slotOk)
    let w := v &&& 0xFF8F0387#32
    let w := if fld v 0 3 < 6 then w else putFld w 0 3 (fld old 0 3)
    let w := if fld v 8 2 < 3 then w else putFld w 8 2 (fld old 8 2)
    let w := if slotOk then w else putFld w 23 7 (fld old 23 7)
    let w := if refused then putBit (putBit w 31 (bit old 31)) 30 (bit old 30) else w
    let s := (s.setReg (Reg.snsLaneCfg l) w).setLane l { s.lane l with cfgWritten := true }
    if refused then s.putRbit Reg.snsStat 5 true else s

/-! ### The sweep pause (R290) -/

/-- A throttled sweep ends its 34,000 TICK and the element lanes pause: no probe is applied. -/
def sweepPauseStart (s : Engine) : Engine :=
  s.onlyIf (s.sns.sweepRun && !s.sns.paused && decide (0 < s.pwr.pauseInForce) &&
      decide (s.sns.sweepStart + 34000 ≤ s.tick)) fun s =>
    endProbesOf { s with sns.paused := true } (fun _ => true) none

/-! ### Meanings -/

def execConversionStart (l : Fin 544) (s : State) : Host.Outcome State Fault Refusal := s.run (conversionStart l)

def execLeashDecision (l : Fin 544) (code : Fin 4096) (s : State) : Host.Outcome State Fault Refusal :=
  s.run (leashDecision l code)

def execSweepPauseStart (s : State) : Host.Outcome State Fault Refusal := s.run sweepPauseStart

end Sys2Proof.Machine
end

