-- ==== Sys2Proof/Machine/Operands.lean ====
section
/-! DEFINITION. Operand forms of a loop processor: registers (R143), address generation (R149 to R151), X space with the lane
interface (R139, R141, R142, R158 to R163) and Y space (R140, R178). -/

namespace Sys2Proof.Machine

open Sys2Proof

def Engine.lp (s : Engine) (k : Fin 33) : LpState := s.lps[k]

def Engine.setLp (s : Engine) (k : Fin 33) (x : LpState) : Engine := { s with lps := s.lps.set k x }

def Engine.onLp (s : Engine) (k : Fin 33) (f : LpState → LpState) : Engine := s.setLp k (f (s.lp k))

/-! ### Address generation (R149 to R151) -/

def modeOf (m : Half) : Nat := (m.toNat >>> 14) % 4
def paramOf (m : Half) : Nat := m.toNat % 2 ^ 14

/-- Length of a circular buffer. -/
def circLen (m : Half) : Nat := max 1 (paramOf m)

/-- ⌈log₂ n⌉ for n ≥ 1. -/
def ceilLog2 (n : Nat) : Nat := if n ≤ 1 then 0 else Nat.log2 (n - 1) + 1

/-- The low r bits in reverse order. -/
def revBits : Nat → Nat → Nat
  | 0, _ => 0
  | r + 1, v => (v % 2) * 2 ^ r + revBits r (v / 2)

/-- The pointer after an update by n (R150). -/
def stepPointer (m : Half) (p : Nat) (n : Int) : Nat :=
  if modeOf m = 1 then
    let base := p - p % 2 ^ ceilLog2 (circLen m)
    base + (((p - base : Nat) + n) % (circLen m : Int)).toNat
  else if modeOf m = 2 then
    let r := paramOf m % 16
    let lo := p % 2 ^ r
    (p - lo) + revBits r (((revBits r lo : Int) + n) % (2 ^ r : Int)).toNat
  else (((p : Int) + n) % (2 ^ 15 : Int)).toNat

/-- The fold of a pointer into a new circular buffer (R151). -/
def foldPointer (old new : Half) (p : Nat) : Nat :=
  let b := if modeOf old = 1 then ceilLog2 (circLen old) else ceilLog2 (circLen new)
  let base := p - p % 2 ^ b
  base + (p - base) % circLen new

/-- The updated pointer of an address operand. -/
def LpState.update (x : LpState) (u : Upd) (p : Fin 8) : LpState :=
  let moved (n : Int) : LpState := { x with p := x.p.set p (BitVec.ofNat 15 (stepPointer x.m[p] (x.p[p]).toNat n)) }
  match u with
  | .keep => x
  | .plus => moved (x.n[p]).toInt
  | .minus => moved (-(x.n[p]).toInt)

/-- The pointer of a 4-bit operand on each bus (R153). -/
def xPtr (e : Ea4) : Fin 8 := ⟨e.p.val, by omega⟩
def yPtr (e : Ea4) : Fin 8 := ⟨e.p.val + 4, by omega⟩

/-! ### Registers (R143) -/

/-- A write of M k: MODE 0b11 acts as linear, and a circular mode folds P k. -/
def LpState.writeM (x : LpState) (j : Fin 8) (v : Half) : LpState :=
  let v := if modeOf v = 3 then v &&& 0x3FFF#16 else v
  let p := if modeOf v = 1 then foldPointer x.m[j] v (x.p[j]).toNat else (x.p[j]).toNat
  { x with m := x.m.set j v, p := x.p.set j (BitVec.ofNat 15 p) }

/-- One part of an accumulator written: bits [lo + n − 1 : lo], the clamp ended, the rest kept. -/
def LpState.writePart (x : LpState) (k : Fin 4) (lo n : Nat) (v : Nat) : LpState :=
  let a := (x.a[k]).toNat
  let kept := a - ((a >>> lo) % 2 ^ n) <<< lo
  { x with a := x.a.set k (BitVec.ofNat 40 (kept + (v % 2 ^ n) <<< lo)), clamp := x.clamp.set k false }

/-- SR as a word. -/
def LpState.sr (x : LpState) : Half :=
  let b (c : Bool) (i : Nat) : Nat := if c then 2 ^ i else 0
  BitVec.ofNat 16 (b x.fz 0 + b x.fn 1 + b x.fv 2 + b x.clamp[0] 4 + b x.clamp[1] 5 + b x.clamp[2] 6 + b x.clamp[3] 7 +
    256 * x.sticky.toNat)

/-- Iterations left in the active LOOP. -/
def LpState.lc (x : LpState) : Nat := match x.loop with | some b => b.left | none => 0

/-- A register number's place within its group of 8 or 4. -/
def regIx8 (r : Fin 64) : Fin 8 := ⟨r.val % 8, by omega⟩
def regIx4 (r : Fin 64) : Fin 4 := ⟨r.val % 4, by omega⟩

/-- A register read; none: a reserved number. A saturating write-back sets SAT. -/
def LpState.readReg (x : LpState) (r : Fin 64) : Option (Half × LpState) :=
  let n := r.val
  if n < 0x08 then some (x.d[regIx8 r], x)
  else if n < 0x10 then some ((x.p[regIx8 r]).setWidth 16, x)
  else if n < 0x18 then some (x.n[regIx8 r], x)
  else if n < 0x20 then some (x.m[regIx8 r], x)
  else if n < 0x24 then some ((x.a[regIx4 r]).setWidth 16, x)
  else if n < 0x28 then some (((x.a[regIx4 r]) >>> 16).setWidth 16, x)
  else if n < 0x2C then some ((((x.a[regIx4 r]) >>> 32).setWidth 8).signExtend 16, x)
  else if n < 0x30 then
    let (v, sat) := narrowHigh (x.acc (regIx4 r)) 0
    some (BitVec.ofInt 16 v, x.stickIf sat LpFlag.sat)
  else if n = 0x30 then some (x.sr, x)
  else if n = 0x31 then some (if x.frac then 1 else 0, x)
  else if n = 0x32 then some (BitVec.ofNat 16 x.lc, x)
  else none

/-- A register write; none: a reserved number. Read-only registers keep their value. -/
def LpState.writeReg (x : LpState) (r : Fin 64) (v : Half) : Option LpState :=
  let n := r.val
  if n < 0x08 then some { x with d := x.d.set (regIx8 r) v }
  else if n < 0x10 then some { x with p := x.p.set (regIx8 r) (v.setWidth 15) }
  else if n < 0x18 then some { x with n := x.n.set (regIx8 r) v }
  else if n < 0x20 then some (x.writeM (regIx8 r) v)
  else if n < 0x24 then some (x.writePart (regIx4 r) 0 16 v.toNat)
  else if n < 0x28 then some (x.writePart (regIx4 r) 16 16 v.toNat)
  else if n < 0x2C then some (x.writePart (regIx4 r) 32 8 v.toNat)
  else if n < 0x30 then some x
  else if n = 0x30 then some { x with fz := v.getLsbD 0, fn := v.getLsbD 1, fv := v.getLsbD 2 }
  else if n = 0x31 then some { x with frac := v.getLsbD 0 }
  else if n = 0x32 then some x
  else none

/-! ### Elements of a machine (R158, R161) -/

/-- The lane of a machine's j. -/
def lpLane (k : Fin 33) (j : Nat) : Nat := if k.val < 32 then 16 * k.val + j else 512 + j

/-- The element of a local number. -/
def localElem (s : Engine) (k : Fin 33) (loc : Nat) : Option Nat :=
  if loc < 1088 ∧ k.val < 32 then elementAt s (lpLane k (loc / 68)) (loc % 68) else none

/-- The plane input of the path through an element in the current map (R139). -/
def pathOf (s : Engine) (e : Nat) : Nat :=
  let v := s.variant
  planeOf v e * v.ports +
    pathInput v.logPorts s.rte.cellsCur (stageOf v e) (cellOf v e % v.cellsPerStage) (e % 4)

/-- PT of a plane input. -/
def ptOf (s : Engine) (i : Nat) : Nat := fld (get0 s.pt i) 0 16

/-- PI, the pilot injection factor of a plane input in the live set. -/
def piOf (s : Engine) (i : Nat) : Nat := fld (calWord s.cal.live.words 2 i) 0 16

/-- The band-transfer term B of an element in the live set. -/
def bandTerm (s : Engine) (e : Nat) : Int := (halfHi (calWord s.cal.live.words 0 (4 * e + 2))).toInt

/-- The formed TURN target of an element (R178). -/
def formedTarget (s : Engine) (e : Nat) : Int :=
  let i := pathOf s e
  if ptOf s i = 0 then 0 else sat16 (roundHalfUp (bandTerm s e * (piOf s i : Int) * (ptOf s i : Int)) (2 ^ 28))

/-- The trim store's value of an element and state, as a 16-bit word. -/
def trimHalf (s : Engine) (e : Nat) (turn : Bool) : Half := BitVec.ofInt 16 (trimOf s e turn)

/-! ### Results as the machine sees them (R139, R142, R159) -/

/-- Whether the loops of an element are withheld: suspended or in range hold. -/
def withheld (s : Engine) (e : Nat) : Bool := s.drv.suspLoop.contains e || s.drv.rangeHold.any fun p => p.1 == e

/-- A result word with bit 15 as R159 gives it. -/
def seenResult (s : Engine) (lane slot half : Nat) : Word :=
  let a := resultAddr lane slot half
  let w := get0 s.sns.results a
  let off := match (if lane < 512 ∧ slot < 68 then elementAt s lane slot else none) with
    | some e => withheld s e
    | none => false
  if off || s.sns.pre.contains a then putBit w 15 true else w

/-- A low half read, its high half latched at its own address (R142). -/
def latchLow (k : Fin 33) (hi : Nat) (w : Word) (s : Engine) : Half × Engine :=
  (halfLo w, s.onLp k fun x => { x with half := some (hi, halfHi w) })

/-- A high half: the latched one of the same word, or the live value. -/
def readHigh (x : LpState) (a : Nat) (live : Half) : Half :=
  match x.half with
  | some (h, v) => if h = a then v else live
  | none => live

/-- An access that the machine's X space does not hold: reads 0, writes nothing, UA is set (R141). -/
def unmapped (k : Fin 33) (s : Engine) : Engine := s.onLp k fun x => x.stick LpFlag.ua

/-- Results by slot. A slot above 71 holds no result. -/
def readResult (k : Fin 33) (a : Nat) (s : Engine) : Half × Engine :=
  let o := a - 0x4000
  let el := decide (k.val < 32)
  let j := if el then o / 0x200 else o / 0x100
  let slot := if el then o % 0x200 / 4 else o % 0x100 / 2
  let c := if el then o / 2 % 2 else 0
  let w := if slot < 72 then seenResult s (lpLane k j) slot c else 0
  if o % 2 = 0 then latchLow k (a + 1) w s else (readHigh (s.lp k) a (halfHi w), s)

/-- Visit records (R158): the low halves of w0 and w1 latch their conversion's high half. -/
def readRecord (k : Fin 33) (a : Nat) (s : Engine) : Half × Engine :=
  let x := s.lp k
  let v := halfLo (get0 x.visible a)
  if a < 0x6060 then
    let j := (a - 0x6000) / 6
    let w := (a - 0x6000) % 6
    if w < 2 then
      let hi := 0x6060 + 2 * j + w
      latchLow k hi (joinHalves (halfLo (get0 x.visible hi)) v) s
    else (v, s)
  else (readHigh x a v, s)

/-! ### The lane-interface ports (R139, R161 to R163) -/

/-- The element and state that TRIM_SEL names. -/
def selElem (s : Engine) (k : Fin 33) : Option Nat := localElem s k ((s.lp k).trimSel.toNat % 2048)
def selTurn (s : Engine) (k : Fin 33) : Bool := (s.lp k).trimSel.getLsbD 15

/-- A port read for the selected element; where TRIM_SEL names none the spec gives no value: a free one. -/
def readSelected (s : Engine) (k : Fin 33) (f : Nat → Half) : Half × Engine :=
  match selElem s k with
  | some e => (f e, s)
  | none => let (w, s) := s.freeWord; (halfLo w, s)

/-- PT as LP32 reads back what it has written, and as LP0 to LP31 read it one TICK later (R163). -/
def ptAsSeen (k : Fin 33) (i : Nat) (s : Engine) : Half :=
  let own (d : Due) : Option Word :=
    match d with
    | .pt m v => if m = i then some v else none
    | _ => none
  if k.val < 32 then halfLo (get0 s.pt i) else halfLo ((s.due.reverse.findSome? own).getD (get0 s.pt i))

/-- TICK within the sweep or scan, held at its last value through a pause. -/
def sinceStart (s : Engine) (start len : Nat) : Half := BitVec.ofNat 16 (min (s.tick - start) (len - 1))

/-- Ports of an element machine. DESIGN CHOICE (log 89): ENT_HI returns the latched half although TRIM_SEL has changed since, for the
latch holds an address. -/
def readPort (k : Fin 33) (a : Nat) (s : Engine) : Half × Engine :=
  match a with
  | 0x6200 => ((s.lp k).trimSel, s)
  | 0x6201 => readSelected s k fun e => trimHalf s e (selTurn s k)
  | 0x6202 =>
    match selElem s k with
    | some e => latchLow k 0x6203 (get0 s.drv.active e) s
    | none => let (w, s) := s.freeWord; latchLow k 0x6203 w s
  | 0x6203 =>
    match selElem s k with
    | some e => (readHigh (s.lp k) 0x6203 (halfHi (get0 s.drv.active e)), s)
    | none => let (w, s) := s.freeWord; (readHigh (s.lp k) 0x6203 (halfHi w), s)
  | 0x6204 => readSelected s k fun e => BitVec.ofNat 16 (pathOf s e)
  | _ => (0, unmapped k s)

/-- X space (R139, R141). -/
def xRead (k : Fin 33) (a : Nat) (s : Engine) : Half × Engine :=
  let el := decide (k.val < 32)
  if a < 0x4000 then (halfLo (get0 (s.lp k).xm a), s)
  else if a < 0x6000 then readResult k a s
  else if a < 0x6080 ∧ el = true then readRecord k a s
  else if 0x6400 ≤ a ∧ a < 0x6800 then (ptAsSeen k (a - 0x6400) s, s)
  else if a = 0x6208 then (sinceStart s s.sns.sweepStart 34000, s)
  else if a = 0x6209 then (sinceStart s s.sns.scanStart 16000, s)
  else if a = 0x620A then ((s.lp k).evPend.setWidth 16, s)
  else if a = 0x620B then (halfLo (s.reg Reg.snsSweepCnt), s)
  else if el then readPort k a s
  else if 0x6300 ≤ a ∧ a < 0x6310 then
    let r := (a - 0x6300) / 2
    (halfLo (s.reg (if a % 2 = 0 then Reg.pwrMonV r else Reg.pwrMonI r)), s)
  else (0, unmapped k s)

/-- Every element of the engine. -/
def allElements (s : Engine) : List Nat := List.range s.variant.elements

/-- Broadcast of the rail factors KP and KN to every drive cell while RAILCOMP_EN is 1: the cells apply them from the next TICK (R96,
R163). -/
def broadcastRail (kp kn : Half) (s : Engine) : Engine := s.onlyIf (s.rbit Reg.drvCtl 2) fun s => s.later (.rail (joinHalves kn kp))

/-- An amplitude reported for generator g (R109, R163). -/
def reportScent (g : Nat) (v : Half) (s : Engine) : Engine :=
  s.setReg (Reg.drvScentResult g) (putBit (putBit (putFld (s.reg (Reg.drvScentResult g)) 0 16 v.toNat) 31 true) 30 true)

/-- A trim entered into the queue (R161). -/
def LpState.queueTrim (x : LpState) (loc : Nat) (turn : Bool) (v : Half) : LpState :=
  { x with trimQ := put0 x.trimQ (2 * loc + (if turn then 1 else 0)) (word (65536 + v.toNat)) }

/-- What an unlisted promotion entry reads as (R162). -/
def noPromotion (_ : Nat) : Word := 127

/-- A promotion entry set to bits [6:0] of a value (R162). -/
def LpState.promote (x : LpState) (i : Nat) (v : Half) : LpState :=
  { x with promo := memWrite noPromotion x.promo i (word (v.toNat % 128)) }

/-- A write of an element machine's ports. A promotion entry or a trim written on the TICK of a boundary belongs to the following one
(R120, R161): both enter on the next edge. -/
def writePort (k : Fin 33) (a : Nat) (v : Half) (s : Engine) : Engine :=
  let sel := (s.lp k).trimSel
  if 0x6100 ≤ a ∧ a < 0x6200 then s.later (.promo k (a - 0x6100) v)
  else if a = 0x6200 then s.onLp k fun x => { x with trimSel := v }
  else if a = 0x6201 then s.later (.trim k (sel.toNat % 2048) (sel.getLsbD 15) v)
  else unmapped k s

/-- A write of the port machine's ports. -/
def writePort32 (k : Fin 33) (a : Nat) (v : Half) (s : Engine) : Engine :=
  if a = 0x6310 then s.onLp k fun x => { x with railKp := v }
  else if a = 0x6311 then broadcastRail (s.lp k).railKp v s
  else if 0x6320 ≤ a ∧ a < 0x6328 then reportScent (a - 0x6320) v s
  else if 0x6400 ≤ a ∧ a < 0x6800 then s.later (.pt (a - 0x6400) (word v.toNat))
  else unmapped k s

/-- A write to X space (R139, R141). -/
def xWrite (k : Fin 33) (a : Nat) (v : Half) (s : Engine) : Engine :=
  if a < 0x4000 then s.onLp k fun x => { x with xm := put0 x.xm a (word v.toNat) }
  else if a = 0x620A then s.onLp k fun x => { x with evPend := x.evPend &&& ~~~(v.setWidth 2) }
  else if k.val < 32 then writePort k a v s
  else writePort32 k a v s

/-! ### Y space (R140, R178, R197) -/

/-- The active coefficient bank of a machine. -/
def LpState.bank (x : LpState) : Mem := if x.bankActive then x.bankB else x.bankA

/-- The stored words of the calibration window, as the supervisor reads them (R178). -/
def calYStored (k : Fin 33) (o : Nat) (s : Engine) : Half :=
  let ws := s.cal.live.words
  if 0xA00 ≤ o ∧ o < 0xA03 then
    let h := calWord ws 5 0
    if o = 0xA00 then (if bit h 0 then 1 else 0) else if o = 0xA01 then BitVec.ofNat 16 (fld h 4 12) else halfHi h
  else if k.val < 32 then
    if o < 0x880 then
      match localElem s k (o / 2) with
      | some e => let w := calWord ws 0 (4 * e + 2); if o % 2 = 1 then halfHi w else halfLo w
      | none => 0
    else if 0x900 ≤ o ∧ o < 0x980 then halfLo (calWord ws 1 (8 * lpLane k ((o - 0x900) / 8) + o % 8))
    else if 0xC00 ≤ o then halfLo (calWord ws 4 (1024 * k.val + (o - 0xC00)))
    else 0
  else
    if o < 0x800 then let w := calWord ws 2 (o / 2); if o % 2 = 1 then halfHi w else halfLo w
    else if o < 0x804 then halfLo (calWord ws 5 (1 + (o - 0x800)))
    else 0

/-- Y space: the low 13 bits of the pointer count. A TURN word is formed (R178). -/
def yRead (k : Fin 33) (a : Nat) (s : Engine) : Half :=
  let a := a % 0x2000
  if a < 0x1000 then halfLo (get0 (s.lp k).bank a)
  else
    let o := a - 0x1000
    if k.val < 32 ∧ o < 0x880 ∧ o % 2 = 1 then
      match localElem s k (o / 2) with
      | some e => BitVec.ofInt 16 (formedTarget s e)
      | none => 0
    else calYStored k o s

end Sys2Proof.Machine
end

