-- ==== Sys2Proof/Machine/Event.lean ====
section
/-! DEFINITION. The event fabric: channels, sampling, precedence, delivery and configuration (chapter 11). -/

namespace Sys2Proof.Machine

open Sys2Proof

/-! ### Producers and consumers (R265, R266) -/

def producerDefined (p : Nat) : Bool :=
  decide ((0x01 ≤ p ∧ p ≤ 0x3F) ∨ (0x40 ≤ p ∧ p ≤ 0x60) ∨ (0x70 ≤ p ∧ p ≤ 0x90) ∨ (0xA0 ≤ p ∧ p ≤ 0xA9) ∨
    (0xB0 ≤ p ∧ p ≤ 0xB1) ∨ (0xC0 ≤ p ∧ p ≤ 0xC7))

def producerSecure (p : Nat) : Bool :=
  decide ((0x40 ≤ p ∧ p ≤ 0x60) ∨ (0x70 ≤ p ∧ p ≤ 0x90) ∨ (0xA3 ≤ p ∧ p ≤ 0xA5) ∨ p = 0xB0 ∨ p = 0xB1)

/-- Precedence of a producer's class (R271): FAULT 0, THERMAL 1, TIME 2, COMMIT 3, SWEEP 4, HOST 5. -/
def producerClass (p : Nat) : Nat :=
  if p = 0xB0 ∨ p = 0xB1 then 0
  else if 0xA5 ≤ p ∧ p ≤ 0xA7 then 1
  else if p < 0x40 ∨ p = 0xA8 ∨ p = 0xA9 then 2
  else if 0xA2 ≤ p ∧ p ≤ 0xA4 then 3
  else if p < 0xA2 then 4
  else 5

def consumerDefined (c : Nat) : Bool :=
  decide (c = 1 ∨ c = 2 ∨ (0x10 ≤ c ∧ c ≤ 0x30) ∨ (0x40 ≤ c ∧ c ≤ 0x60) ∨ (0x70 ≤ c ∧ c ≤ 0x77) ∨ (0x80 ≤ c ∧ c ≤ 0xBF))

def consumerSecure (c : Nat) : Bool := decide (c < 0x80)

/-- Fields of a channel word (R275). -/
def chEn (w : Word) : Bool := bit w 31
def chSec (w : Word) : Bool := bit w 30
def chOwner (w : Word) : Nat := fld w 23 7
def chConsumer (w : Word) : Nat := fld w 8 8
def chProducer (w : Word) : Nat := fld w 0 8

def chWord (s : Engine) (n : Nat) : Word := s.reg (Reg.evtChCfg n)

/-- The TICK edge on which an event is sampled (R267): the next one, or the second after the edge that follows an asynchronous
transition. -/
def sampleEdge (e : Emitted) : Nat := if e.producer = 0xA8 ∨ e.producer = 0xB1 then e.edge + 3 else e.edge + 1

/-- The enabled channel that an event feeds. -/
def channelOf (s : Engine) (p : Nat) : Option Nat :=
  (List.range 64).find? fun n => chEn (chWord s n) && chProducer (chWord s n) == p

/-- One event lost by a channel. -/
def loseEvent (n : Nat) (s : Engine) : Engine := s.countHold (Reg.evtChCnt n) 16 16

/-! ### Hop limit (R269) -/

/-- An event of more than four hops is dropped. -/
def dropLoop (n : Nat) (e : Emitted) (s : Engine) : Engine :=
  let s := (loseEvent n s).putRbit Reg.evtStat 0 true
  let s := if s.rbit Reg.evtLoopSrc 31 then s
    else s.setReg Reg.evtLoopSrc (putBit (putFld (word n) 8 8 e.producer) 31 true)
  s.raise 83 n

/-! ### Consumers (R121, R164, R266, R272) -/

/-- LP k as a number of a machine. -/
def lpNum (k : Nat) : Fin 33 := ⟨k % 33, Nat.mod_lt _ (by omega)⟩

/-- A sweep boundary is due: the sweep's 34,000 TICK and its pause have passed. -/
def sweepDue (s : Engine) : Bool := s.sns.sweepRun && decide (s.sns.sweepStart + 34000 + s.pwr.pauseInForce ≤ s.tick)

def scanDue (s : Engine) : Bool := s.sns.scanRun && decide (s.sns.scanStart + 16000 ≤ s.tick)

/-- Whether a consumer input is busy. A pending bit that a W1C of this TICK cleared still counts as set (R272). -/
def consumerBusy (s : Engine) (c : Nat) : Bool :=
  if s.evt.cleared.contains (c, s.tick) then true
  else if c = 1 then s.sns.sweepCut
  else if c = 2 then s.sns.scanCut
  else if c < 0x40 then (s.lp (lpNum (c - 0x10))).evPend.getLsbD 0
  else if c < 0x70 then (s.lp (lpNum (c - 0x40))).evPend.getLsbD 1
  else if c < 0x80 then s.rbit Reg.evtIrqPend (c - 0x70)
  else if c < 0xA0 then s.rbit Reg.evtNotePendLo (c - 0x80)
  else s.rbit Reg.evtNotePendHi (c - 0xA0)

/-- A pending input of a loop processor set, with its hop count. -/
def LpState.pend (x : LpState) (i h : Nat) : LpState :=
  { x with evPend := x.evPend ||| BitVec.ofNat 2 (1 <<< i), evHop := listSet x.evHop i h }

/-- SWEEP_SYNC: the sweep in progress ends with its visit; nothing on a boundary edge. SWEEP_CUT is set as the next one begins (R121). -/
def cutSweep (h : Nat) (s : Engine) : Engine :=
  s.onlyIf (s.rbit Reg.snsCtl 0 && s.sns.sweepRun && s.tick != s.sns.sweepStart && !sweepDue s) fun s =>
    { s with sns.sweepCut := true, sns.sweepHop := h + 1 }

def cutScan (h : Nat) (s : Engine) : Engine :=
  s.onlyIf (s.rbit Reg.snsCtl 1 && s.sns.scanRun && s.tick != s.sns.scanStart && !scanDue s) fun s =>
    { s with sns.scanCut := true, sns.scanHop := h + 1 }

/-- The pending bit of a SUP_IRQ_n or NOTE_t input. -/
def setPending (c : Nat) (s : Engine) : Engine :=
  if c < 0x70 then s
  else if c < 0x80 then s.putRbit Reg.evtIrqPend (c - 0x70) true
  else if c < 0xA0 then s.putRbit Reg.evtNotePendLo (c - 0x80) true
  else s.putRbit Reg.evtNotePendHi (c - 0xA0) true

/-- A W1C of pending bits: those that were set are cleared, and a delivery on this TICK finds them so (R272). -/
def clearPending (a base : Nat) (v : Word) (s : Engine) : Engine :=
  let hit := (List.range 32).filter fun i => s.rbit a i && bit v i
  { s.setReg a (s.reg a &&& ~~~v) with
    evt.cleared := s.evt.cleared.filter (fun x => x.2 == s.tick) ++ hit.map fun i => (base + i, s.tick) }

/-- What a delivery does. -/
def consume (c h : Nat) (s : Engine) : Engine :=
  if c = 1 then cutSweep h s
  else if c = 2 then cutScan h s
  else if c < 0x40 then s.onLp (lpNum (c - 0x10)) fun x => x.pend 0 h
  else if c < 0x70 then s.onLp (lpNum (c - 0x40)) fun x => x.pend 1 h
  else setPending c s

/-- What a NOTE_t input receives, kept for its notification (R338). -/
def keepNote (n c : Nat) (s : Engine) : Engine :=
  if c < 0x80 then s
  else { s with evt.notes := (s.evt.notes.filter fun x => x.1 != c - 0x80) ++ [(c - 0x80, n, s.nowSec, s.nowSubNs)] }

/-- An overrun (R272): a pending bit stays set, and a machine's input sets EV_OVR besides. -/
def overrun (n c : Nat) (s : Engine) : Engine :=
  let s := setPending c (((loseEvent n s).putRbit (Reg.evtConsStat c) 0 true).putRbit Reg.evtStat 3 true)
  if 0x10 ≤ c ∧ c < 0x40 then s.onLp (lpNum (c - 0x10)) fun x => x.stick LpFlag.evOvr
  else if 0x40 ≤ c ∧ c < 0x70 then s.onLp (lpNum (c - 0x40)) fun x => x.stick LpFlag.evOvr
  else s

/-- The winner at its consumer. -/
def deliver (n c h : Nat) (s : Engine) : Engine :=
  if consumerBusy s c then overrun n c s
  else consume c h <| keepNote n c (s.putRfld (Reg.evtChCnt n) 0 16 (s.rfld (Reg.evtChCnt n) 0 16 + 1))

/-! ### Delivery (R267, R271) -/

/-- Whether channel a's event comes before channel b's at one consumer. -/
def winsOver (s : Engine) (a b : Nat) : Bool :=
  let ca := producerClass (chProducer (chWord s a))
  let cb := producerClass (chProducer (chWord s b))
  decide (ca < cb ∨ (ca = cb ∧ a < b))

/-- The losers of a coincidence with winner w. -/
def coincide (c w : Nat) (losers : List Nat) (s : Engine) : Engine :=
  match losers with
  | [] => s
  | l :: ls =>
    let low := ls.foldl min l
    let s := (losers.foldl (fun s n => loseEvent n s) s).putRbit (Reg.evtConsStat c) 1 true
    let s := s.putRbit Reg.evtStat 2 true
    if s.rbit Reg.evtCoincSrc 31 then s
    else s.setReg Reg.evtCoincSrc (putBit (putFld (putFld (word w) 8 6 low) 16 8 c) 31 true)

/-- The events of one consumer: each a channel with its hop count. -/
def serveConsumer (evs : List (Nat × Nat)) (s : Engine) (c : Nat) : Engine :=
  let here := evs.filter fun e => chConsumer (chWord s e.1) == c
  match here with
  | [] => s
  | e :: es =>
    let w := es.foldl (fun m x => if winsOver s x.1 m.1 then x else m) e
    let losers := ((here.filter fun x => x.1 != w.1).map Prod.fst)
    deliver w.1 c w.2 (coincide c w.1 losers s)

/-- The events sampled on one edge. -/
def sampleAt (s : Engine) (edge : Nat) : Engine :=
  let now := s.evt.emitted.filter fun e => sampleEdge e == edge
  let s := { s with evt.emitted := s.evt.emitted.filter fun e => sampleEdge e != edge }
  let routed := now.filterMap fun e => (channelOf s e.producer).map fun n => (n, e)
  let s := (routed.filter fun r => 4 < r.2.hop).foldl (fun s r => dropLoop r.1 r.2 s) s
  let live := (routed.filter fun r => r.2.hop ≤ 4).map fun r => (r.1, r.2.hop)
  let consumers := live.foldl (fun l r => insertNat (chConsumer (chWord s r.1)) l) []
  consumers.foldl (serveConsumer live) s

/-- The fabric samples and delivers, edge by edge. -/
def eventDeliver (s : Engine) : Engine :=
  s.unlessReset fun s =>
    let due := (s.evt.emitted.map sampleEdge).filter fun t => t ≤ s.tick
    (due.foldl (fun l t => insertNat t l) []).foldl sampleAt s

/-! ### Configuration (R273, R274) -/

/-- A channel word as it will stand once every accepted request has taken effect. -/
def chComing (s : Engine) (n : Nat) : Word :=
  s.evt.cfg.foldl (fun w q => if q.1 = n then q.2.1 else w) (chWord s n)

/-- The checks of a channel word against the other channels' words: the first that fails. -/
def wordRefusal (words : Nat → Word) (n : Nat) (w : Word) : Option Nat :=
  let p := chProducer w
  let c := chConsumer w
  let feeds (i : Nat) : Bool := i != n && chEn (words i) && chProducer (words i) == p
  if !producerDefined p || !consumerDefined c || decide (64 < chOwner w) then some 3
  else if (chSec w && decide (chOwner w ≠ 0)) || (!chSec w && (producerSecure p || consumerSecure c)) then some 4
  else if chOwner w ≠ 0 ∧ 0x80 ≤ c ∧ c ≠ 0x80 + (chOwner w - 1) then some 5
  else if chEn w && (List.range 64).any feeds then some 6
  else none

/-- The reason that refuses a request, by the first check that fails. -/
def cfgRefusal (s : Engine) (actor n : Nat) (w : Word) : Option Nat :=
  let old := chComing s n
  if actor ≠ 0 ∧ actor ≠ chOwner old then some 1
  else if actor ≠ 0 ∧ (chOwner w ≠ chOwner old ∨ chSec w ≠ chSec old) then some 2
  else wordRefusal (chComing s) n w

def refuseCfg (code : Nat) (s : Engine) : Engine := (s.putRbit Reg.evtStat 4 true).putRfld Reg.evtStat 8 3 code

/-- A write of EVT_CFG_REQ. -/
def evtCfgRequest (b : Bus) (v : Word) (s : Engine) : Engine :=
  s.access b fun s =>
    if s.mode = .load ∧ s.evt.ready = false then refuseCfg 7 s
    else
      let n := fld v 0 6
      let w := s.reg Reg.evtCfgData &&& 0xFF80FFFF#32
      match cfgRefusal s (fld v 24 7) n w with
      | some code => refuseCfg code s
      | none =>
        let w := if chOwner w = chOwner (chComing s n) then w else putBit w 31 false
        { s with evt.cfg := s.evt.cfg ++ [(n, w, s.tick + 2)] }

/-- The accepted words that are due take effect. -/
def evtCfgApply (s : Engine) : Engine :=
  s.unlessReset fun s =>
    let due := s.evt.cfg.filter fun q => q.2.2 ≤ s.tick
    let s := { s with evt.cfg := s.evt.cfg.filter fun q => s.tick < q.2.2 }
    due.foldl (fun s q => s.setReg (Reg.evtChCfg q.1) q.2.1) s

/-- A write of EVT_SW_TRIG. -/
def hostTrigger (b : Bus) (v : Byte) (s : Engine) : Engine :=
  s.access b fun s => (List.range 8).foldl (fun s n => if v.getLsbD n then s.emit (0xC0 + n) else s) s

/-! ### Meanings -/

def execEventDeliver (s : State) : Host.Outcome State Fault Refusal := s.run eventDeliver

def execEvtCfgApply (s : State) : Host.Outcome State Fault Refusal := s.run evtCfgApply

end Sys2Proof.Machine
end

