-- ==== Sys2Proof/Machine/LoopOps.lean ====
section
/-! DEFINITION. How a loop processor takes an instruction: next address and LOOP body (R156), halting (R165), protection (R137),
cycles (R154), waits (R160), and the effect of each instruction on its machine. -/

namespace Sys2Proof.Machine

open Sys2Proof

/-- Where the machine goes after an instruction. -/
inductive LpNext where
  | seq
  | jump (target : Nat)
  | halt (cause : Nat)
deriving DecidableEq, Repr

/-- What an instruction does: its effect, where the machine goes, and the LOOP cycles it takes. -/
abbrev LpEffect := Engine → Engine × LpNext × Nat

/-! ### Halting (R165, R168) -/

/-- The fault source of a halt, where it has one. -/
def lpSource (cause : Nat) : Option (Fin 128) :=
  match cause with
  | 2 => some 48
  | 3 => some 49
  | 4 => some 50
  | 5 => some 51
  | _ => none

/-- Locus K: the machine and its PC (R350). -/
def lpLocus (s : Engine) (k : Fin 33) : Nat := k.val * 2 ^ 24 + ((s.lp k).pc).toNat

/-- The machine halts with a cause, and its source is reported. -/
def lpHalt (k : Fin 33) (cause : Nat) (s : Engine) : Engine :=
  let s := s.onLp k fun x => { x with halted := true, cause := cause, wait := none }
  match lpSource cause with
  | some src => s.raise src (lpLocus s k)
  | none => s

def Engine.lpEn (s : Engine) (k : Fin 33) : Bool := s.rbit (Reg.lpCtl k.val) 0

/-- Whether a machine's program is in force: enabled, started and not halted. -/
def Engine.lpOn (s : Engine) (k : Fin 33) : Bool :=
  s.mode ≠ .reset && s.lpEn k && !(s.lp k).halted && (s.lp k).startIn.isNone

/-- Whether it fetches instructions. -/
def Engine.lpRuns (s : Engine) (k : Fin 33) : Bool := s.lpOn k && (s.lp k).wait.isNone

/-! ### Next address (R156) -/

/-- The address after an instruction that does not branch: at the end of a LOOP body it begins the next iteration. -/
def LpState.advance (x : LpState) : LpState :=
  let next : BitVec 13 := x.pc + 1
  match x.loop with
  | none => { x with pc := next }
  | some b =>
    if x.pc.toNat = b.first + b.len - 1 then
      if 1 < b.left then { x with pc := BitVec.ofNat 13 b.first, loop := some { b with left := b.left - 1 } }
      else { x with pc := next, loop := none }
    else { x with pc := next }

/-- An instruction taken: its cycles are counted and the machine goes on, unless it halts. HALT leaves the next address. -/
def lpTake (k : Fin 33) (f : LpEffect) (s : Engine) : Engine :=
  let (s, next, cycles) := f s
  match next with
  | .seq => s.onLp k fun x => { x.advance with act := x.act + cycles }
  | .jump t => s.onLp k fun x => { x with pc := BitVec.ofNat 13 t, act := x.act + cycles }
  | .halt 6 => lpHalt k 6 (s.onLp k fun x => { x.advance with act := x.act + cycles })
  | .halt c => lpHalt k c s

/-- Corrected errors, of one word or of two: ECC_CE is set and each is counted (R137). -/
def countEcc (k : Fin 33) (both : Bool) (s : Engine) : Engine :=
  s.onLp k fun x => { x.stick LpFlag.eccCe with ecc := min 65535 (x.ecc + if both then 2 else 1) }

/-- An instruction of a machine whose protection finds `c.ecc`. -/
def lpInstr (c : Lp) (f : LpEffect) (s : Engine) : Engine :=
  match c.ecc with
  | .clean => lpTake c.k f s
  | .corrected both => lpTake c.k f (countEcc c.k both s)
  | .uncorrectable => lpHalt c.k 4 s

/-- The meaning of an instruction row: nothing where the machine does not fetch. -/
def lpRow (c : Lp) (f : LpEffect) (s : Engine) : Engine := s.onlyIf (s.lpRuns c.k) (lpInstr c f)

/-! ### Loads (R153 to R155) -/

/-- One more cycle for a read of X space from 0x4000 upwards. -/
def xCycles (a : Nat) : Nat := if 0x4000 ≤ a then 1 else 0

/-- D register written and pointer updated. -/
def LpState.loaded (x : LpState) (d : Fin 8) (v : Half) (u : Upd) (p : Fin 8) : LpState :=
  let x := x.update u p
  { x with d := x.d.set d v }

/-- D := X[P] with the pointer's update, and the cycles that it adds. -/
def loadX (k : Fin 33) (d : Fin 8) (u : Upd) (p : Fin 8) (s : Engine) : Engine × Nat :=
  let a := ((s.lp k).p[p]).toNat
  let (v, s) := xRead k a s
  (s.onLp k fun x => x.loaded d v u p, xCycles a)

/-- D := Y[P] with the pointer's update. -/
def loadY (k : Fin 33) (d : Fin 8) (u : Upd) (p : Fin 8) (s : Engine) : Engine :=
  let v := yRead k ((s.lp k).p[p]).toNat s
  s.onLp k fun x => x.loaded d v u p

/-- The parallel loads of the MAC class: X, then Y, so that Y is the one written where both name one register (R155). -/
def macLoads (k : Fin 33) (x y : Option MacLoad) (s : Engine) : Engine × Nat :=
  let (s, n) := match x with
    | some l => loadX k l.d l.ea.upd (xPtr l.ea) s
    | none => (s, 0)
  match y with
  | some l => (loadY k l.d l.ea.upd (yPtr l.ea) s, n)
  | none => (s, n)

def aluLoad (k : Fin 33) (ld : Option AluLoad) (s : Engine) : Engine × Nat :=
  match ld with
  | none => (s, 0)
  | some l => if l.y then (loadY k l.d l.ea.upd (yPtr l.ea) s, 0) else loadX k l.d l.ea.upd (xPtr l.ea) s

/-! ### MAC class -/

def multiplyEff (c : Lp) (op : MulOp) (f : MacForm) (x y : Option MacLoad) : LpEffect := fun s =>
  let (s, n) := macLoads c.k x y (s.onLp c.k fun l => l.multiplyForm op f)
  (s, .seq, 1 + n)

def parEff (c : Lp) (x y : Option MacLoad) : LpEffect := fun s =>
  let (s, n) := macLoads c.k x y s
  (s, .seq, 1 + n)

/-- One filter tap (R157). -/
def ftapEff (c : Lp) (op : MulOp) (acc : Fin 4) (x y : MacLoad) : LpEffect := fun s =>
  let a := ((s.lp c.k).p[(xPtr x.ea)]).toNat
  let (t, s) := xRead c.k a s
  let v := yRead c.k ((s.lp c.k).p[(yPtr y.ea)]).toNat s
  let s := s.onLp c.k fun l => l.multiply op acc t v
  let s := xWrite c.k ((a + 1) % 2 ^ 15) t s
  (s.onLp c.k fun l => (l.loaded x.d t x.ea.upd (xPtr x.ea)).loaded y.d v y.ea.upd (yPtr y.ea), .seq, 1 + xCycles a)

/-! ### ALU class -/

/-- An ALU operation on the registers, its flags, then its load. -/
def aluEff (c : Lp) (f : LpState → LpState) (ld : Option AluLoad) : LpEffect := fun s =>
  let (s, n) := aluLoad c.k ld (s.onLp c.k f)
  (s, .seq, 1 + n)

/-- A data register times 2^16. -/
def LpState.high (x : LpState) (d : Fin 8) : Int := (x.d[d]).toInt * 2 ^ 16

def LpState.clrOp (x : LpState) (dst : Fin 4) : LpState := (x.writeAcc dst 0).aluFlags dst
def LpState.addOp (x : LpState) (dst src : Fin 4) : LpState := (x.modifyAcc dst (x.acc dst + x.acc src)).aluFlags dst
def LpState.subOp (x : LpState) (dst src : Fin 4) : LpState := (x.modifyAcc dst (x.acc dst - x.acc src)).aluFlags dst
def LpState.adddOp (x : LpState) (dst : Fin 4) (d : Fin 8) : LpState :=
  (x.modifyAcc dst (x.acc dst + x.high d)).aluFlags dst
def LpState.subdOp (x : LpState) (dst : Fin 4) (d : Fin 8) : LpState :=
  (x.modifyAcc dst (x.acc dst - x.high d)).aluFlags dst
def LpState.lddOp (x : LpState) (dst : Fin 4) (d : Fin 8) : LpState := (x.writeAcc dst (x.high d)).aluFlags dst
def LpState.negOp (x : LpState) (dst : Fin 4) : LpState := (x.modifyAcc dst (-x.acc dst)).aluFlags dst
def LpState.absOp (x : LpState) (dst : Fin 4) : LpState := (x.modifyAcc dst (x.acc dst).natAbs).aluFlags dst
def LpState.aslOp (x : LpState) (dst : Fin 4) (n : Nat) : LpState := (x.modifyAcc dst (x.acc dst * 2 ^ n)).aluFlags dst
def LpState.asrOp (x : LpState) (dst : Fin 4) (n : Nat) : LpState := (x.modifyAcc dst (x.acc dst / 2 ^ n)).aluFlags dst
def LpState.maxOp (x : LpState) (dst src : Fin 4) : LpState :=
  (x.modifyAcc dst (if x.acc dst < x.acc src then x.acc src else x.acc dst)).aluFlags dst
def LpState.minOp (x : LpState) (dst src : Fin 4) : LpState :=
  (x.modifyAcc dst (if x.acc src < x.acc dst then x.acc src else x.acc dst)).aluFlags dst

/-- The flags of the exact difference; the accumulators keep their values. -/
def LpState.cmpOp (x : LpState) (dst src : Fin 4) : LpState := x.setFlags (x.acc dst - x.acc src) x.clamp[dst]

/-- Clamp to ±L·2^16, a negative L acting as 0; LIM where it changes A. -/
def LpState.limOp (x : LpState) (dst : Fin 4) (d : Fin 8) : LpState :=
  let b := (if x.high d < 0 then 0 else x.high d)
  let r := clampInt (-b) b (x.acc dst)
  ((x.stickIf (!x.clamp[dst] && decide (r ≠ x.acc dst)) LpFlag.lim).modifyAcc dst r).aluFlags dst

def LpState.rndOp (x : LpState) (dst : Fin 4) : LpState := (x.modifyAcc dst (roundAcc (x.acc dst))).aluFlags dst

/-- A copy with the source's clamp. -/
def LpState.movaOp (x : LpState) (dst src : Fin 4) : LpState :=
  LpState.aluFlags { x with a := x.a.set dst x.a[src], clamp := x.clamp.set dst x.clamp[src] } dst

/-- The flags of a data register; it has no destination accumulator, so V is 0. -/
def LpState.tstdOp (x : LpState) (d : Fin 8) : LpState := x.setFlags (x.d[d]).toInt false

/-! ### MEM class -/

def ldxEff (c : Lp) (d : Fin 8) (e : Ea5) : LpEffect := fun s =>
  let (s, n) := loadX c.k d e.upd e.p s
  (s, .seq, 1 + n)

def ldyEff (c : Lp) (d : Fin 8) (e : Ea5) : LpEffect := fun s => (loadY c.k d e.upd e.p s, .seq, 1)

def ldxaEff (c : Lp) (d : Fin 8) (a : Nat) : LpEffect := fun s =>
  let (v, s) := xRead c.k a s
  (s.onLp c.k fun x => { x with d := x.d.set d v }, .seq, 1 + xCycles a)

/-- A value stored at X[P] with the pointer's update. -/
def storeX (k : Fin 33) (e : Ea5) (v : Half) (s : Engine) : Engine :=
  let a := ((s.lp k).p[e.p]).toNat
  (xWrite k a v s).onLp k fun x => x.update e.upd e.p

def stxEff (c : Lp) (d : Fin 8) (e : Ea5) : LpEffect := fun s => (storeX c.k e (s.lp c.k).d[d] s, .seq, 1)

def stxaEff (c : Lp) (d : Fin 8) (a : Nat) : LpEffect := fun s => (xWrite c.k a (s.lp c.k).d[d] s, .seq, 1)

/-- A narrowing write-back stored; SAT where it saturates. -/
def storeNarrow (c : Lp) (e : Ea5) (r : Int × Bool) (s : Engine) : Engine :=
  storeX c.k e (BitVec.ofInt 16 r.1) (s.onLp c.k fun x => x.stickIf r.2 LpFlag.sat)

/-- The shift of STH, −16 to +15. -/
def shiftOf (n : Fin 32) : Int := if n.val < 16 then n.val else (n.val : Int) - 32

def sthEff (c : Lp) (a : Fin 4) (e : Ea5) (sh : Fin 32) : LpEffect := fun s =>
  (storeNarrow c e (narrowHigh ((s.lp c.k).acc a) (shiftOf sh)) s, .seq, 1)

def stlEff (c : Lp) (a : Fin 4) (e : Ea5) : LpEffect := fun s => (storeNarrow c e (narrowLow ((s.lp c.k).acc a)) s, .seq, 1)

/-! ### REG class -/

/-- A register write, or LP_ILL_OP where the number is reserved. -/
def setRegEff (c : Lp) (rd : Fin 64) (v : Half) : LpEffect := fun s =>
  match (s.lp c.k).writeReg rd v with
  | some x => (s.setLp c.k x, .seq, 1)
  | none => (s, .halt 2, 0)

def movEff (c : Lp) (rd rs : Fin 64) : LpEffect := fun s =>
  if 0x33 ≤ rd.val then (s, .halt 2, 0)
  else match (s.lp c.k).readReg rs with
    | some (v, x) => setRegEff c rd v (s.setLp c.k x)
    | none => (s, .halt 2, 0)

def updEff (c : Lp) (e : Ea5) : LpEffect := fun s => (s.onLp c.k fun x => x.update e.upd e.p, .seq, 1)

/-! ### CTRL class -/

def nopEff : LpEffect := fun s => (s, .seq, 1)

/-- A CTRL instruction that a LOOP body may not hold (R156). -/
def notInLoop (c : Lp) (f : LpEffect) : LpEffect := fun s =>
  if (s.lp c.k).loop.isSome then (s, .halt 2, 0) else f s

def jmpEff (c : Lp) (t : Nat) : LpEffect := notInLoop c fun s => (s, .jump t, 2)

def jsrEff (c : Lp) (t : Nat) : LpEffect := notInLoop c fun s =>
  let x := s.lp c.k
  if 8 ≤ x.stack.length then (s, .halt 3, 0) else (s.setLp c.k { x with stack := (x.pc + 1) :: x.stack }, .jump t, 2)

def rtsEff (c : Lp) : LpEffect := notInLoop c fun s =>
  let x := s.lp c.k
  match x.stack with
  | [] => (s, .halt 3, 0)
  | t :: rest => (s.setLp c.k { x with stack := rest }, .jump t.toNat, 2)

def brccEff (c : Lp) (cond : Fin 8) (t : Nat) : LpEffect := notInLoop c fun s =>
  if (s.lp c.k).cond cond then (s, .jump t, 2) else (s, .seq, 1)

def dbnzEff (c : Lp) (d : Fin 8) (t : Nat) : LpEffect := notInLoop c fun s =>
  let x := s.lp c.k
  let v := x.d[d] - 1
  let s := s.setLp c.k { x with d := x.d.set d v }
  if v = 0 then (s, .seq, 1) else (s, .jump t, 2)

/-- LOOP. DESIGN CHOICE (log 89): a body that would pass 0x1FFF is LP_ILL_OP whatever COUNT is; with COUNT 0 it is not skipped. -/
def loopEff (c : Lp) (len : Fin 32) (count : LoopCount) : LpEffect := notInLoop c fun s =>
  let x := s.lp c.k
  let first := x.pc.toNat + 1
  let n := match count with
    | .imm n => n.val
    | .reg d => (x.d[d]).toNat
  if 0x1FFF < first + len.val then (s, .halt 2, 0)
  else if n = 0 then (s, .jump (first + len.val + 1), 2)
  else (s.setLp c.k { x with loop := some { first := first, len := len.val + 1, left := n } }, .jump first, 1)

/-! ### Waits (R160, R268) -/

def wcondOf (n : Fin 16) : Option WCond :=
  match n.val with
  | 0 => some .visit
  | 1 => some .sweep
  | 2 => some .scan
  | 3 => some .rail
  | 4 => some .ev0
  | 5 => some .ev1
  | _ => none

/-- Whether a wait's condition holds. -/
def LpState.holds (x : LpState) (w : WCond) : Bool :=
  match w with
  | .visit => decide (0 < x.completed)
  | .ev0 => x.evPend.getLsbD 0
  | .ev1 => x.evPend.getLsbD 1
  | _ => x.waitHit

/-- The latest records become visible; the skipped ones are counted. A change shown leaves the list of changes (R158). -/
def LpState.showRecords (x : LpState) : LpState :=
  let lost := 16 * (x.completed - 1)
  { x.stickIf (decide (0 < lost)) LpFlag.vlost with
    visible := x.latest, completed := 0, vlost := min 65535 (x.vlost + lost), hopSrc := 0 }

/-- Bit 15 of w0 and w1 set in a lane's latest record (R159). -/
def LpState.hideRecord (x : LpState) (j : Nat) : LpState :=
  let mark (m : Mem) (a : Nat) : Mem := put0 m a (putBit (get0 m a) 15 true)
  { x with latest := mark (mark x.latest (0x6000 + 6 * j)) (0x6001 + 6 * j) }

/-- Local element of a lane's latest record. -/
def LpState.latestLoc (x : LpState) (j : Nat) : Nat := (get0 x.latest (0x6002 + 6 * j)).toNat % 2048

/-- Whether a lane's latest record is of an element that is suspended or in range hold. -/
def recordWithheld (s : Engine) (k : Fin 33) (j : Nat) : Bool :=
  match localElem s k ((s.lp k).latestLoc j) with
  | some e => withheld s e
  | none => false

/-- The latest records as they become visible: those of withheld elements read as STALE. -/
def hideWithheld (k : Fin 33) (s : Engine) : Engine :=
  ((List.range 16).filter (recordWithheld s k)).foldl (fun s j => s.onLp k fun x => x.hideRecord j) s

/-- A pending event consumed. -/
def LpState.takeEvent (x : LpState) (i : Nat) : LpState :=
  { x with evPend := x.evPend &&& ~~~(BitVec.ofNat 2 (1 <<< i)), hopSrc := x.evHop.getD i 0 + 1 }

/-- A wait completed: the watchdog starts again, and more than one completed visit raises LP_VISIT_LOST. -/
def finishWait (k : Fin 33) (w : WCond) (s : Engine) : Engine :=
  let s := if w = .visit then hideWithheld k s else s
  let x : LpState := { s.lp k with wait := none, waitHit := false, wdogFrom := s.tick }
  match w with
  | .visit =>
    let s' := s.setLp k x.showRecords
    if 1 < x.completed then s'.raise 52 (lpLocus s' k) else s'
  | .ev0 => s.setLp k (x.takeEvent 0)
  | .ev1 => s.setLp k (x.takeEvent 1)
  | _ => s.setLp k { x with hopSrc := 0 }

/-- WAIT: it completes at once where its condition is a pending one that holds; otherwise the machine stalls on it. -/
def waitEff (c : Lp) (cond : Fin 16) : LpEffect := notInLoop c fun s =>
  if !waitDefined c.k cond then (s, .halt 2, 0)
  else match wcondOf cond with
    | none => (s, .halt 2, 0)
    | some w =>
      let s := s.onLp c.k fun x => { x with waitHit := false }
      if (s.lp c.k).holds w then (finishWait c.k w s, .seq, 1)
      else (s.onLp c.k fun x => { x with wait := some w }, .jump (s.lp c.k).pc.toNat, 1)

def clrfEff (c : Lp) (mask : Byte) : LpEffect := fun s => (s.onLp c.k fun x => x.unstick mask, .seq, 1)

/-- EVT emits on LP_k with the machine's HOPSRC (R164, R268). -/
def evtEff (c : Lp) : LpEffect := fun s => (s.emitHop (0x70 + c.k.val) (s.lp c.k).hopSrc, .seq, 1)

def haltEff (c : Lp) : LpEffect := notInLoop c fun s => (s, .halt 6, 1)

/-- An undefined instruction. -/
def illOpEff : LpEffect := fun s => (s, .halt 2, 0)

/-! ### Any instruction -/

/-- The effect of an instruction of a loop processor; none for the other commands. -/
def lpEffect (i : Instr) : Option LpEffect :=
  match i with
  | .mpy c f x y => some (multiplyEff c .set f x y)
  | .mac c f x y => some (multiplyEff c .add f x y)
  | .msu c f x y => some (multiplyEff c .sub f x y)
  | .par c x y => some (parEff c x y)
  | .ftap c op acc x y => some (ftapEff c op acc x y)
  | .clr c dst ld => some (aluEff c (fun x => x.clrOp dst) ld)
  | .add c dst src ld => some (aluEff c (fun x => x.addOp dst src) ld)
  | .sub c dst src ld => some (aluEff c (fun x => x.subOp dst src) ld)
  | .addd c dst d ld => some (aluEff c (fun x => x.adddOp dst d) ld)
  | .subd c dst d ld => some (aluEff c (fun x => x.subdOp dst d) ld)
  | .ldd c dst d ld => some (aluEff c (fun x => x.lddOp dst d) ld)
  | .neg c dst ld => some (aluEff c (fun x => x.negOp dst) ld)
  | .abs c dst ld => some (aluEff c (fun x => x.absOp dst) ld)
  | .asl c dst n ld => some (aluEff c (fun x => x.aslOp dst n.val) ld)
  | .asr c dst n ld => some (aluEff c (fun x => x.asrOp dst n.val) ld)
  | .max c dst src ld => some (aluEff c (fun x => x.maxOp dst src) ld)
  | .min c dst src ld => some (aluEff c (fun x => x.minOp dst src) ld)
  | .cmp c dst src ld => some (aluEff c (fun x => x.cmpOp dst src) ld)
  | .lim c dst d ld => some (aluEff c (fun x => x.limOp dst d) ld)
  | .rnd c dst ld => some (aluEff c (fun x => x.rndOp dst) ld)
  | .mova c dst src ld => some (aluEff c (fun x => x.movaOp dst src) ld)
  | .tstd c d ld => some (aluEff c (fun x => x.tstdOp d) ld)
  | .ldx c d e => some (ldxEff c d e)
  | .ldy c d e => some (ldyEff c d e)
  | .ldxa c d a => some (ldxaEff c d a.val)
  | .stx c d e => some (stxEff c d e)
  | .stxa c d a => some (stxaEff c d a.val)
  | .sth c a e sh => some (sthEff c a e sh)
  | .stl c a e => some (stlEff c a e)
  | .ldi c rd v => some (setRegEff c rd v)
  | .mov c rd rs => some (movEff c rd rs)
  | .upd c e => some (updEff c e)
  | .nop _ => some nopEff
  | .jmp c t => some (jmpEff c t.val)
  | .jsr c t => some (jsrEff c t.val)
  | .rts c => some (rtsEff c)
  | .brcc c cond t => some (brccEff c cond t.val)
  | .dbnz c d t => some (dbnzEff c d t.val)
  | .loop c len n => some (loopEff c len n)
  | .wait c cond => some (waitEff c cond)
  | .clrf c mask => some (clrfEff c mask)
  | .evt c => some (evtEff c)
  | .halt c => some (haltEff c)
  | _ => none

end Sys2Proof.Machine
end

