-- ==== Sys2Proof/Machine/LoopLaw.lean ====
section
/-! DEFINITION. The vendor's standard loop and port programs at the level of their law (chapter 07, R202, R203, R211): what they
do at each completed visit, rail report, result and boundary. The instructions that carry it out are not public. -/

namespace Sys2Proof.Machine

open Sys2Proof

/-! ### Words of XM -/

def LpState.xmGet (x : LpState) (a : Nat) : Half := halfLo (get0 x.xm a)
def LpState.xmPut (x : LpState) (a : Nat) (v : Half) : LpState := { x with xm := put0 x.xm a (word v.toNat) }
def LpState.xmNat (x : LpState) (a : Nat) (v : Nat) : LpState := x.xmPut a (BitVec.ofNat 16 v)

/-- A 32-bit word of two, low word first. -/
def LpState.xmGet32 (x : LpState) (a : Nat) : Word := joinHalves (x.xmGet (a + 1)) (x.xmGet a)
def LpState.xmPut32 (x : LpState) (a : Nat) (w : Word) : LpState := (x.xmPut a (halfLo w)).xmPut (a + 1) (halfHi w)

/-- Saturating sums of R203. -/
def LpState.addU32 (x : LpState) (a : Nat) (v : Nat) : LpState :=
  x.xmPut32 a (word (min (2 ^ 32 - 1) ((x.xmGet32 a).toNat + v)))
def LpState.addS32 (x : LpState) (a : Nat) (v : Int) : LpState :=
  x.xmPut32 a (wordOfInt (clampInt (-(2 ^ 31)) (2 ^ 31 - 1) ((x.xmGet32 a).toInt + v)))
def LpState.addU16 (x : LpState) (a : Nat) : LpState := x.xmNat a (min 65535 ((x.xmGet a).toNat + 1))

def LpState.onStd (x : LpState) (f : StdProgram → StdProgram) : LpState := { x with std := f x.std }

def stBit (turn : Bool) : Nat := if turn then 1 else 0

/-- Addresses of R169 and R194. -/
def eprevAddr (loc : Nat) (turn : Bool) : Nat := 4 * loc + 2 * stBit turn
def mirrorAddr (loc : Nat) (turn : Bool) : Nat := 4 * loc + 2 * stBit turn + 1
abbrev Xm.gain (j : Nat) : Nat := 0x1100 + j
abbrev Xm.ringLen (j : Nat) : Nat := 0x1110 + j
abbrev Xm.hologWr : Nat := 0x1120
abbrev Xm.hologCnt : Nat := 0x1121
abbrev Xm.scanCnt : Nat := 0x1122
abbrev Xm.bankSeen : Nat := 0x1123
abbrev Xm.clampCnt : Nat := 0x1124
abbrev Xm.holog (n : Nat) : Nat := 0x1200 + 2 * n
abbrev Xm.roundDone : Nat := 0x3F00

/-- Words of the active coefficient bank (R172). -/
def LpState.coeff (x : LpState) (a : Nat) : Half := halfLo (get0 x.bank a)

def LpState.limitOf (x : LpState) (loc : Nat) (turn : Bool) : Int := max 0 (x.coeff (0x200 + 2 * loc + stBit turn)).toInt

/-! ### The law (R171) -/

/-- d and e of a valid visit. -/
def lawError (g : Int) (w0 w1 : Half) (rp : Nat) (target : Int) : Int × Int :=
  let d := sat16 (roundHalfUp (g * ((w0.toNat : Int) - w1.toNat)) 16384)
  (d, sat16 (roundHalfUp (d * rp) 32768 - target))

/-- The new trim, and whether the limit clamps it. -/
def lawTrim (trim kp ki e eprev lim : Int) : Int × Bool :=
  let a := trim * 32768 + kp * sat16 (e - eprev) + ki * e
  let c := clampInt (-lim * 32768) (lim * 32768) a
  (roundHalfUp c 32768, decide (c ≠ a))

/-- A trim set: its mirror, TRIM_SEL and its queue entry. -/
def LpState.setTrim (x : LpState) (loc : Nat) (turn : Bool) (v : Int) : LpState :=
  let h := BitVec.ofInt 16 v
  LpState.queueTrim { x.xmPut (mirrorAddr loc turn) h with trimSel := BitVec.ofNat 16 (loc + 2 ^ 15 * stBit turn) } loc turn h

/-- The update of a valid visit in TRACK. DESIGN CHOICE (log 89): its saturations leave the sticky SAT unset, for the instructions
that carry the law out are not public. -/
def LpState.track (x : LpState) (loc : Nat) (turn : Bool) (e : Int) : LpState :=
  let (v, clamped) := lawTrim (x.xmGet (mirrorAddr loc turn)).toInt (x.coeff 0).toInt (x.coeff 1).toInt e
    (x.xmGet (eprevAddr loc turn)).toInt (x.limitOf loc turn)
  let x := ((x.setTrim loc turn v).xmPut (eprevAddr loc turn) (BitVec.ofInt 16 e)).stickIf clamped LpFlag.lim
  x.onStd fun p => { p with updated := addTo (2 * loc + stBit turn) p.updated }

/-! ### The ring (R184 to R186) -/

def LpState.ring (x : LpState) (j : Nat) : List RingMember := x.std.rings.getD j []
def LpState.setRing (x : LpState) (j : Nat) (r : List RingMember) : LpState :=
  (x.onStd fun p => { p with rings := listSet p.rings j r }).xmNat (Xm.ringLen j) r.length

def isMember (r : List RingMember) (loc : Nat) : Bool := r.any fun m => m.elem == loc

/-- An element joins at the tail; a member that changes again is cleared and keeps its place. -/
def joinRing (r : List RingMember) (loc : Nat) (owes : Bool) : List RingMember :=
  let m : RingMember := { elem := loc, passes := 0, seenValid := false, owesChg := owes, first := none }
  if isMember r loc then r.map fun o => if o.elem = loc then m else o else r ++ [m]

/-- The local numbers of a cell's elements on a machine, by its S0 element. -/
def cellLocals (s : Engine) (k : Fin 33) (cell : Nat) : List Nat :=
  (cellElements cell).filterMap fun e =>
    match laneSlotOf s e with
    | some (l, slot) => if l / 16 = k.val ∧ l < 512 then some (68 * (l % 16) + slot) else none
    | none => none

def LpState.joinAll (x : LpState) (locs : List Nat) (owes : Nat → Bool) : LpState :=
  locs.foldl (fun x loc => x.setRing (loc / 68) (joinRing (x.ring (loc / 68)) loc (owes loc))) x

/-- The recorded state of a cell set. -/
def LpState.recordCell (x : LpState) (cell : Nat) (turn : Bool) : LpState :=
  x.onStd fun p => { p with turnCells := if turn then insertNat cell p.turnCells else p.turnCells.filter (· != cell) }

/-- The active STATE of element S0 of a cell, by its index over both planes. -/
def cellTurn (s : Engine) (cell : Nat) : Bool := bit (get0 s.drv.active (4 * cell)) 16

/-- Cells whose S0 element a machine serves. -/
def servedCells (s : Engine) (k : Fin 33) : List Nat :=
  (List.range 1088).filterMap fun loc =>
    match localElem s k loc with
    | some e => if e % 4 = 0 then some (e / 4) else none
    | none => none

/-- The state scan. -/
def stateScan (k : Fin 33) (s : Engine) : Engine :=
  let changed := (servedCells s k).filter fun c => cellTurn s c != (s.lp k).std.turnCells.contains c
  let s := changed.foldl (fun s c =>
    s.onLp k fun x => (x.joinAll (cellLocals s k c) (fun _ => true)).recordCell c (cellTurn s c)) s
  s.onLp k fun x => x.onStd fun p => { p with scanDone := true }

/-- A record with CHG = 1: the change an element joined for, or a change of its own (R184). -/
def chgRecord (k : Fin 33) (loc e : Nat) (chg : Bool) (s : Engine) : Engine :=
  let x := s.lp k
  let j := loc / 68
  let owes := (x.ring j).any fun m => m.elem == loc && m.owesChg
  let s := s.onLp k fun x =>
    x.setRing j ((x.ring j).map fun m => if m.elem = loc then { m with owesChg := false } else m)
  if !chg || owes then s
  else
    let c := e / 4
    if cellTurn s c != x.std.turnCells.contains c then
      s.onLp k fun x => (x.joinAll (cellLocals s k c) (fun l => l != loc)).recordCell c (cellTurn s c)
    else s.onLp k fun x => x.joinAll [loc] fun _ => false

/-- The sweep of the latest visit, and whether its slot was promoted in it: a visit that straddles the boundary belongs to the sweep
before. -/
def LpState.visitSweep (x : LpState) : Nat := if x.std.visitPos = 68 then x.std.sweepNo - 1 else x.std.sweepNo
def LpState.promotedIn (x : LpState) (j slot : Nat) : Bool :=
  ((if x.std.visitPos = 68 then x.std.promotedPrev else x.std.promoted).getD j []).contains slot

/-- The ring after a valid visit of a member (R186). -/
def ringVisit (x : LpState) (loc : Nat) (e : Int) (range : Nat) : LpState :=
  let j := loc / 68
  match (x.ring j).find? (fun m => m.elem == loc) with
  | none => x
  | some m =>
    let promoted := x.promotedIn j (loc % 68)
    let passes := if promoted then m.passes + 1 else m.passes
    let first := if !m.seenValid && promoted then some (e, range, x.visitSweep) else none
    let m' := { m with passes := passes, seenValid := true, first := first }
    let others := (x.ring j).filter fun o => o.elem != loc
    if (m.seenValid = true ∧ e.natAbs ≤ (x.coeff 4).toNat) ∨ max 1 (x.coeff 3).toNat ≤ passes then x.setRing j others
    else if promoted then x.setRing j (others ++ [m'])
    else x.setRing j ((x.ring j).map fun o => if o.elem = loc then m' else o)

/-! ### Promotion lists (R185) -/

/-- Members of a lane that a list lacks. -/
def membersLeft (s : Engine) (k : Fin 33) (j : Nat) (list : List Nat) : List RingMember :=
  ((s.lp k).ring j).filter fun m => !list.contains (m.elem % 68)

/-- The members that a list lacks by slot, in the order of R185: those at risk, other unseen ones, the rest. Each once. -/
def promotionOrder (s : Engine) (k : Fin 33) (j : Nat) (order list : List Nat) : List Nat × List Nat :=
  let left := membersLeft s k j list
  let unseen := order.filter fun x => left.any fun m => m.elem % 68 == x && !m.seenValid
  let formed := list ++ order.filter fun x => !list.contains x
  let diag := if diagOn s (lpLane k j) then diagSlot order list ((s.lp k).std.diagSeen.getD j 0) else none
  let atRisk := unseen.filter fun x => (formed.drop 66).contains x || diag == some x
  (atRisk, atRisk ++ unseen.filter (fun x => !atRisk.contains x) ++
    (left.filter fun m => m.seenValid).map fun m => m.elem % 68)

/-- The slots of the members of one cell's element that a list lacks, in its order. -/
def cellGroup (s : Engine) (k : Fin 33) (j : Nat) (order : List Nat) (x : Nat) : List Nat :=
  match elementAt s (lpLane k j) x with
  | none => [x]
  | some e =>
    let mates := (cellLocals s k (e / 4)).map (· % 68)
    order.filter fun y => mates.contains y

/-- A list of at most `quota` slots grown by whole groups of a cell's members (R183, R185). Of a group that does not fit, its members
at risk alone; of one that no list could hold, its first ones (DESIGN CHOICE, log 46). -/
def formList (s : Engine) (k : Fin 33) (j : Nat) (order : List Nat) (quota : Nat) : Nat → List Nat → List Nat
  | 0, list => list
  | n + 1, list =>
    let (atRisk, all) := promotionOrder s k j order list
    match all with
    | [] => list
    | x :: _ =>
      let group := cellGroup s k j all x
      let room := quota - list.length
      if group.length ≤ room then formList s k j order quota n (list ++ group)
      else if list = [] then group.take room
      else list ++ (group.filter fun y => atRisk.contains y).take room

/-- The promotion list of a lane for the next sweep. -/
def promotionList (s : Engine) (k : Fin 33) (j : Nat) : List Nat :=
  formList s k j (scanOrder s (lpLane k j)) (min 16 ((s.lp k).coeff 2).toNat) 16 []

/-- The lists of all lanes written (R162), and the state scan counted. -/
def writeLists (k : Fin 33) (s : Engine) : Engine :=
  let lists := (List.range 16).map fun j => promotionList s k j
  s.onLp k fun x =>
    let put (x : LpState) (j : Nat) : LpState :=
      ((lists.getD j []).mapIdx fun i v => (i, v)).foldl (fun x p => x.promote (16 * j + p.1) (BitVec.ofNat 16 p.2)) x
    let x := (List.range 16).foldl put x
    (x.xmNat Xm.scanCnt ((x.xmGet Xm.scanCnt).toNat + 1)).onStd fun p => { p with listDone := true }

/-! ### Sums for calibration (R202, R203) -/

def calHeader (s : Engine) : Word := calWord s.cal.live.words 5 0

/-- The window length in force; below 256 it acts as 256. -/
def windowLen (s : Engine) : Nat := max 256 (fld (calHeader s) 4 12)

/-- Whether a visit counts: its sweep lies in the window. -/
def LpState.inWindow (x : LpState) (win : Nat) : Bool :=
  if x.std.visitPos = 68 then
    decide (x.std.winLeft < win) && (decide (0 < x.std.winLeft) || (x.xmGet Xm.roundDone).toNat != x.std.roundSeen)
  else decide (0 < x.std.winLeft)

/-- D and Σ of a pilot-dominated visit added to its element's sums. -/
def LpState.addVisit (x : LpState) (loc : Nat) (turn : Bool) (dd sg : Int) : LpState :=
  let b := 0x1400 + 10 * loc
  if turn then ((x.addU16 (b + 5)).addS32 (b + 6) dd).addS32 (b + 8) sg
  else ((x.addU16 b).addU32 (b + 1) (dd.natAbs * dd.natAbs)).addS32 (b + 3) sg

/-- A lane pair: NG, S11, S12 in units of 16 LSB², and GRANGE. -/
def addPair (k : Fin 33) (j : Nat) (e1 e2 : Int) (range : Nat) (s : Engine) : Engine :=
  let (q1, s) := freeQuot (e1 * e1) 16 s
  let (q2, s) := freeQuot (e1 * e2) 16 s
  let b := 0x3E80 + 8 * j
  s.onLp k fun x => (((x.addU16 b).addU32 (b + 1) q1.toNat).addS32 (b + 3) q2).xmNat (b + 5) range

/-- What a valid visit adds (R202): the sums of an element in TRACK that is no ring member, or a lane pair. -/
def accumulate (k : Fin 33) (loc elem : Nat) (turn tracked : Bool) (w0 w1 : Half) (rp : Nat) (g d e : Int) (s : Engine) : Engine :=
  let x := s.lp k
  let j := loc / 68
  s.onlyIf (x.inWindow (windowLen s)) fun s =>
    match (x.ring j).find? (fun m => m.elem == loc) with
    | none =>
      let i := pathOf s elem
      let sum := (w0.toNat % 4096 : Int) + (w1.toNat % 4096 : Int) - 128
      s.onlyIf (tracked && decide (9 * 2 ^ 28 ≤ 10 * (piOf s i * ptOf s i))) fun s =>
        s.onLp k fun x => x.addVisit loc turn (roundHalfUp (d * rp) 32768) (roundHalfUp (g * sum * rp) (16384 * 32768))
    | some m =>
      match m.first with
      | none => s
      | some (e1, range, sweep) =>
        s.onlyIf (m.seenValid && x.promotedIn j (loc % 68) && x.visitSweep == sweep + 1 &&
            range == w0.toNat / 4096 % 8 && decide ((x.coeff 4).toNat ≤ e1.natAbs)) (addPair k j e1 e range)

/-! ### A visit (R171 to R178, R190) -/

/-- Both trims of an element read into its records. -/
def reloadTrims (k : Fin 33) (loc e : Nat) (s : Engine) : Engine :=
  s.onLp k fun x => (x.xmPut (mirrorAddr loc false) (trimHalf s e false)).xmPut (mirrorAddr loc true) (trimHalf s e true)

/-- TRACK occurs in LOAD only after the Kennel Whistle (R190). -/
def beforeKennel (s : Engine) : Bool := s.mode == .load && s.sys.sweepsSinceKennel.isNone

def LpState.inSweepCal (x : LpState) (loc : Nat) : Bool := x.std.swept.any fun r => r.1 == loc

/-- The lane gain taken for the range of a visit's S⁺ result, once per sweep (R174). -/
def refreshGain (k : Fin 33) (j : Nat) (w0 : Half) (s : Engine) : Engine :=
  let range := w0.toNat / 4096 % 8
  if (s.lp k).std.gainDone.contains j ∨ 6 ≤ range then s
  else s.onLp k fun x =>
    (x.xmPut (Xm.gain j) (yRead k (0x1900 + 8 * j + range) s)).onStd fun p => { p with gainDone := j :: p.gainDone }

/-- One visit record. -/
def visitRecord (k : Fin 33) (j : Nat) (s : Engine) : Engine :=
  let x := s.lp k
  let rw (w : Nat) : Half := halfLo (get0 x.visible (0x6000 + 6 * j + w))
  let loc := (rw 2).toNat % 2048
  let turn := (rw 2).getLsbD 15
  let s := if x.std.visitPos = 68 then s else refreshGain k j (rw 0) s
  match localElem s k loc with
  | none =>
    if (List.range 68).all (occupied s (lpLane k j)) then
      s.onLp k fun x => x.onStd fun p => { p with diagSeen := listSet p.diagSeen j (p.diagSeen.getD j 0 + 1) }
    else s
  | some elem =>
    let chg := (rw 2).getLsbD 14
    let s := if chg then reloadTrims k loc elem s else s
    let s := chgRecord k loc elem chg s
    if (rw 0).getLsbD 15 || (rw 1).getLsbD 15 then s
    else
      let x := s.lp k
      let g := (x.xmGet (Xm.gain j)).toInt
      let rp := (rw 3).toNat
      let (d, e) := lawError g (rw 0) (rw 1) rp (yRead k (0x1000 + 2 * loc + stBit turn) s).toInt
      let tracked := !x.inSweepCal loc
      let s := accumulate k loc elem turn tracked (rw 0) (rw 1) rp g d e s
      let s := if tracked && !x.std.folding && !beforeKennel s then
        s.onLp k fun x => { x.track loc turn e with trimSel := rw 2 } else s
      s.onLp k fun x => ringVisit x loc e ((rw 0).toNat / 4096 % 8)

/-- The first visit of a sweep: a swapped bank is detected (R193), and a window that has ended is closed (R202). -/
def firstVisit (k : Fin 33) (s : Engine) : Engine :=
  s.onLp k fun x =>
    let swap := x.coeff 5 != x.xmGet Xm.bankSeen
    let x := x.xmPut Xm.bankSeen (x.coeff 5)
    let x := if x.std.winLeft = 0 then x.xmNat Xm.roundDone x.std.roundSeen else x
    x.onStd fun p => { p with firstDone := true, clampDue := p.clampDue || swap }

/-- The clamp pass of R193 over every trim not updated in the sweep; a sweep's own offsets are not limited (R190). -/
def clampPass (k : Fin 33) (s : Engine) : Engine :=
  let due := (List.range 2176).filter fun i =>
    (localElem s k (i / 2)).isSome && !(s.lp k).std.updated.contains i &&
      !(s.lp k).std.swept.any fun r => r.1 == i / 2 && r.2.1 == (i % 2 == 1)
  s.onLp k fun x =>
    let one (acc : LpState × Nat) (i : Nat) : LpState × Nat :=
      let turn := i % 2 == 1
      let v := (acc.1.xmGet (mirrorAddr (i / 2) turn)).toInt
      let lim := acc.1.limitOf (i / 2) turn
      let c := clampInt (-lim) lim v
      if c = v then acc else ((acc.1.setTrim (i / 2) turn c).stick LpFlag.lim, acc.2 + 1)
    let (x, n) := due.foldl one (x, 0)
    (x.xmNat Xm.clampCnt n).onStd fun p => { p with clampDue := false }

/-- The standard loop program's work for one completed visit. -/
def stdVisit (k : Fin 33) (s : Engine) : Engine :=
  let pos := (s.lp k).std.visitPos
  let s := if pos ≠ 68 ∧ (s.lp k).std.firstDone = false then firstVisit k s else s
  let s := (List.range 16).foldl (fun s j => visitRecord k j s) s
  let inScan := decide (58 ≤ pos ∧ pos < 68)
  let s := if inScan && !(s.lp k).std.scanDone then stateScan k s else s
  if 66 ≤ pos ∧ pos < 68 ∧ (s.lp k).std.listDone = false then
    let s := writeLists k s
    if (s.lp k).std.clampDue then clampPass k s else s
  else s

/-! ### Sweep boundaries (R190 to R193, R209, R211) -/

/-- Before trims are delivered: a clamp pass that a cut sweep has left due. -/
def stdEndSweep (k : Fin 33) (s : Engine) : Engine :=
  if (s.lp k).std.clampDue then clampPass k s else s

/-- The sweep records in force: local element, START, STEP, COUNT, up to the end mark; none outside CALIBRATE. -/
def sweepRecords (s : Engine) (k : Fin 33) : List (Nat × Int × Int × Nat) :=
  if s.mode ≠ .calibrate then []
  else
    let w (r i : Nat) : Half := halfLo (calWord s.cal.live.words 4 (1024 * k.val + 4 * r + i))
    let recs := (List.range 256).map fun r => ((w r 0).toNat % 2048, (w r 1).toInt, (w r 2).toInt, (w r 3).toNat)
    (recs.takeWhile fun r => r.1 != 0x7FF).filter fun r => r.2.2.2 != 0

/-- One entry of the hand-over log (R192). -/
def LpState.logHandover (x : LpState) (left entered loc : Nat) (turn : Bool) (diff : Int) : LpState :=
  let n := (x.xmGet Xm.hologWr).toNat % 64
  let id := left * 2 ^ 14 + entered * 2 ^ 12 + stBit turn * 2 ^ 11 + loc
  (((x.xmNat (Xm.holog n) id).xmPut (Xm.holog n + 1) (BitVec.ofInt 16 (sat16 diff))).xmNat Xm.hologWr ((n + 1) % 64)).xmNat
    Xm.hologCnt ((x.xmGet Xm.hologCnt).toNat + 1)

/-- An element leaves SWEEP-CAL: the last value applied stays, e_prev is set to 0, and a difference is logged (R191). -/
def leaveSweep (k : Fin 33) (r : Nat × Bool × Int × Nat) (s : Engine) : Engine :=
  let (loc, turn, ref, _) := r
  let frozen := match localElem s k loc with
    | some e => withheld s e || ((s.sns.lanes.toList.getD (lpLane k (loc / 68)) Lane.reset).fstale.contains (loc % 68))
    | none => true
  s.onLp k fun x =>
    let v := (x.xmGet (mirrorAddr loc turn)).toInt
    let x := x.xmPut (eprevAddr loc turn) 0
    if v = ref then x else x.logHandover 2 (if frozen then 1 else 0) loc turn (v - ref)

/-- Sweep records followed: elements that enter, that leave, and the offsets queued for the coming boundary. -/
def followSweeps (k : Fin 33) (s : Engine) : Engine :=
  let recs := sweepRecords s k
  let named (loc : Nat) : Bool := recs.any fun r => r.1 == loc
  let s := ((s.lp k).std.swept.filter fun r => !named r.1).foldl (fun s r => leaveSweep k r s) s
  let x := s.lp k
  let kept := x.std.swept.filter fun r => named r.1
  let fresh := (recs.filter fun r => !x.inSweepCal r.1).filterMap fun r =>
    match localElem s k r.1 with
    | some e =>
      let turn := bit (get0 s.drv.active e) 16
      some (r.1, turn, (x.xmGet (mirrorAddr r.1 turn)).toInt, 0)
    | none => none
  let all := kept ++ fresh
  let apply (x : LpState) (q : Nat × Bool × Int × Nat) : LpState :=
    match recs.find? (fun r => r.1 == q.1) with
    | none => x
    | some (_, start, stp, count) => x.setTrim q.1 q.2.1 (sat16 (q.2.2.1 + start + (min q.2.2.2 (count - 1) : Nat) * stp))
  s.onLp k fun x =>
    (all.foldl apply x).onStd fun p => { p with swept := all.map fun q => (q.1, q.2.1, q.2.2.1, q.2.2.2 + 1) }

/-- On seeing FOLD, trims of 0 are queued for both states of every element (R211); the visits up to their delivery queue none. -/
def followFold (k : Fin 33) (s : Engine) : Engine :=
  let fold := bit (calHeader s) 0
  let new := fold && !(s.lp k).std.foldSeen
  let locs := if new then (List.range 1088).filter fun loc => (localElem s k loc).isSome else []
  s.onLp k fun x =>
    (locs.foldl (fun x loc => (x.setTrim loc false 0).setTrim loc true 0) x).onStd fun p =>
      { p with foldSeen := fold, folding := new }

/-- A new ROUND opens a window with its sums at 0; a window in force counts its sweeps (R202). -/
def followRound (k : Fin 33) (s : Engine) : Engine :=
  let round := fld (calHeader s) 16 16
  s.onLp k fun x =>
    if round ≠ x.std.roundSeen then
      let clear := (x.xm.filter fun p => p.1 < 0x1400 ∨ (0x1400 + 10 * 1088 ≤ p.1 ∧ (p.1 < 0x3E80 ∨ 0x3F00 ≤ p.1)))
      LpState.onStd { x with xm := clear } fun p =>
        { p with roundSeen := round, winLeft := windowLen s, monSum := [0, 0], monScans := 0 }
    else x.onStd fun p => { p with winLeft := p.winLeft - 1 }

/-- After the swaps of a sweep boundary, with the promotion lists that the lanes took. -/
def stdBoundary (k : Fin 33) (promoted : List (List Nat)) (s : Engine) : Engine :=
  let s := followRound k s
  let s := s.onLp k fun x => x.onStd fun p =>
    { p with sweepNo := p.sweepNo + 1, promotedPrev := p.promoted, promoted := promoted, updated := [], firstDone := false, scanDone := false,
             listDone := false, gainDone := [] }
  if s.lpOn k then followFold k (followSweeps k s) else s

/-- The start at 0x0000 (R191): trims read, e_prev and the published words 0, rings empty, cell states afresh. The sums of R203
stand, and a window in force goes on. DESIGN CHOICE (log 89): its settings of LP_XREC and LP_YREC are in force in the sweep that
begins. -/
def stdStart (k : Fin 33) (s : Engine) : Engine :=
  if k.val = 32 then s.onLp k fun x => { x with wait := some .rail }
  else
    let locs := (List.range 1088).filterMap fun loc => (localElem s k loc).map fun e => (loc, e)
    let s := locs.foldl (fun s p => reloadTrims k p.1 p.2 s) s
    let s := s.setRegs [(Reg.lpXrec k.val, 0x02040000), (Reg.lpYrec k.val, 0x01020200)]
    let turned := (servedCells s k).filter fun c => cellTurn s c
    s.onLp k fun x =>
      let x := locs.foldl (fun x p => (x.xmPut (eprevAddr p.1 false) 0).xmPut (eprevAddr p.1 true) 0) x
      let kept := x.xm.filter fun p => p.1 < 0x1110 ∨ (0x1125 ≤ p.1 ∧ p.1 < 0x1200) ∨ 0x1280 ≤ p.1
      let x := LpState.xmPut { x with xm := kept } Xm.bankSeen (x.coeff 5)
      LpState.onStd { x with wait := some .visit } fun p =>
        { p with rings := List.replicate 16 [], turnCells := turned, swept := [], updated := [], clampDue := false,
                 diagSeen := List.replicate 16 0 }

/-! ### The standard port program (R96, R109, R175, R176) -/

def Engine.portOn (s : Engine) : Bool := s.lpOn 32 && (s.lp 32).standard

/-- Photocurrent of a current-channel low half in units of 0.5 pA (R113). -/
def halfPicoamps (w : Word) : Int := ((fld w 0 12 : Nat) - 64 : Int) * 5 * 10 ^ (5 - min 5 (fld w 12 3))

/-- A rational rounded half up. -/
def ratRound (q : Rat) : Int := (q + 1 / 2).floor

/-- PT of a plane input from its tap's result (R175). Power is never negative; no power at all reads as the largest entry. -/
def throughPower (words : Mem) (i : Nat) (w : Word) : Nat :=
  let c := calWord words 2 i
  let pil : Rat := (fld c 0 16 : Rat) * 5 / 8192
  let cust : Rat := max 0 ((halfPicoamps w : Rat) / 2000000 * ((fld c 16 16 : Rat) / 256))
  if pil + cust ≤ 0 then 32767 else min 32767 (ratRound (32768 * 5 / (pil + cust))).toNat

/-- The rail factors of a report (R96): 7.000 V ÷ V × 16,384 from a word of 250 µV. A rail that reads 0 leaves its factor open. -/
def railFactorOf (w : Word) (s : Engine) : Half × Engine :=
  let v := ((halfLo w).toInt).natAbs
  if v = 0 then let (f, s) := s.freeWord; (halfLo f, s)
  else (BitVec.ofInt 16 (clampInt 0 65535 (roundHalfUp (28000 * 16384) v)), s)

/-- The port program at a rail report. -/
def stdRail (s : Engine) : Engine :=
  if s.rbit Reg.drvCtl 2 then
    let (kp, s) := railFactorOf (s.reg (Reg.pwrMonV 5)) s
    let (kn, s) := railFactorOf (s.reg (Reg.pwrMonV 6)) s
    broadcastRail kp kn (s.onLp 32 fun x => { x with railKp := kp })
  else s

/-- The sum of a plane's output pilot monitors in units of 0.5 pA. -/
def planeSum (s : Engine) (p : Nat) : Int :=
  ((List.range s.variant.ports).map fun o =>
    let m := 2 * s.variant.ports + p * s.variant.ports + o
    halfPicoamps (get0 s.sns.results (resultAddr (512 + m / 64) (m % 64) 0))).foldl (· + ·) 0

/-- MON_REF of a plane in pA. -/
def monRef (words : Mem) (p : Nat) : Nat :=
  (calWord words 5 (1 + 2 * p)).toNat % 65536 + (calWord words 5 (2 + 2 * p)).toNat % 65536 * 65536

/-- The sums of a finished scan judged (R176) and added to the window (R202). -/
def judgeScan (s : Engine) : Engine :=
  let sums := [planeSum s 0, planeSum s 1]
  let low := (List.range 2).map fun p => decide (sums.getD p 0 < (monRef s.cal.portWords p : Int))
  let n := s.variant.ports
  let zero (p : Nat) : List Nat := if low.getD p false then (List.range n).map (p * n + ·) else []
  let s := s.onLp 32 fun x => x.onStd fun p =>
    let win := decide (0 < p.winLeft)
    { p with lowPlane := low, scanJudged := true,
             monSum := if win then (List.range 2).map (fun i => p.monSum.getD i 0 + sums.getD i 0) else p.monSum,
             monScans := if win then p.monScans + 1 else p.monScans }
  (zero 0 ++ zero 1).foldl (fun s i => s.later (.pt i 0)) s

/-- The port program at an input tap's result: its PT entry (R175). -/
def stdTap (m : Nat) (w : Word) (s : Engine) : Engine :=
  let p := m / s.variant.ports
  if 2 * s.variant.ports ≤ m ∨ bit w 15 = true then s
  else
    let v := if (s.lp 32).std.lowPlane.getD p false then 0 else throughPower s.cal.portWords m w
    s.later (.pt m (word v))

/-- LP32 at a sweep boundary: the window's means are written when it ends (R202, R203). -/
def stdPortBoundary (s : Engine) : Engine :=
  let was := (s.lp 32).std.winLeft
  let s := followRound 32 s
  let x := s.lp 32
  if was = 1 ∧ x.std.winLeft = 0 ∧ s.portOn = true then
    let n := 2 * max 1 x.std.monScans
    let (a, s) := freeQuot (x.std.monSum.getD 0 0) n s
    let (b, s) := freeQuot (x.std.monSum.getD 1 0) n s
    s.onLp 32 fun x =>
      ((x.xmPut32 0x3F02 (word (min (2 ^ 32 - 1) a.toNat))).xmPut32 0x3F04 (word (min (2 ^ 32 - 1) b.toNat))).xmNat
        Xm.roundDone x.std.roundSeen
  else s

end Sys2Proof.Machine
end

