-- ==== Sys2Proof/Machine/LoopProc.lean ====
section
/-! DEFINITION. The loop processors: their instructions, waits, watchdog, run control and coefficient bank swaps (chapter 06). -/

namespace Sys2Proof.Machine

open Sys2Proof

/-! ### Waits, watchdog, run control -/

/-- The work of a standard program once its wait completes. -/
def stdResume (k : Fin 33) (w : WCond) (s : Engine) : Engine :=
  if k.val = 32 then (stdRail s).onLp k fun x => { x with wait := some w }
  else (stdVisit k s).onLp k fun x => { x with wait := some w }

/-- A machine that stalls on a wait whose condition holds (R160): it goes on, or halts where EN was cleared (R168). -/
def waitComplete (c : Lp) (s : Engine) : Engine :=
  let x := s.lp c.k
  match x.wait with
  | none => s
  | some w =>
    s.onlyIf (s.mode ≠ .reset && x.startIn.isNone && x.holds w) fun s =>
      let s := (finishWait c.k w s).onLp c.k LpState.advance
      if x.halted then s
      else if !s.lpEn c.k then lpHalt c.k 1 s
      else match c.ecc with
        | .uncorrectable => lpHalt c.k 4 s
        | .corrected both => if x.standard then stdResume c.k w (countEcc c.k both s) else s
        | .clean => if x.standard then stdResume c.k w s else s

/-- Whether the watchdog counts: the program is in force, or EN was cleared while the machine stalls in a WAIT (R168). -/
def Engine.lpCounts (s : Engine) (k : Fin 33) : Bool :=
  s.lpOn k || (s.mode ≠ .reset && !(s.lp k).halted && (s.lp k).startIn.isNone && (s.lp k).wait.isSome)

/-- The watchdog (R165): LIMIT × 1,024 LOOP cycles, two to a TICK, without a completed WAIT. -/
def lpHang (k : Fin 33) (s : Engine) : Engine :=
  let limit := s.rfld (Reg.lpWdog k.val) 0 8
  s.onlyIf (s.lpCounts k && decide (limit ≠ 0) && decide (limit * 1024 ≤ 2 * (s.tick - (s.lp k).wdogFrom))) (lpHalt k 5)

/-- Whether writes of EN and STEP are accepted (R168). -/
def Engine.lpHostMode (s : Engine) : Bool := s.mode = .load || s.mode = .calibrate

/-- EN = 0: the machine halts at the next instruction boundary, which for a stalled one is the end of its WAIT. -/
def lpDisable (k : Fin 33) (s : Engine) : Engine :=
  s.onlyIf s.lpHostMode fun s =>
    let runs := s.lpRuns k
    let s := s.putRbit (Reg.lpCtl k.val) 0 false
    let x := s.lp k
    if runs then lpHalt k 1 s
    else if x.startIn.isSome then
      s.setLp k { x with startIn := none, halted := true, cause := if x.halted then x.cause else 1 }
    else s

def lpEnClear (b : Bus) (k : Fin 33) (s : Engine) : Engine := s.access b (lpDisable k)

/-- EN = 1: a machine that does not run restarts on the next sweep boundary. -/
def lpEnable (k : Fin 33) (s : Engine) : Engine :=
  s.onlyIf s.lpHostMode fun s =>
    let runs := s.lpOn k || (!(s.lp k).halted && (s.lp k).wait.isSome)
    let s := s.putRbit (Reg.lpCtl k.val) 0 true
    if runs then s
    else s.onLp k fun x => { x with startIn := some (x.startIn.getD 1) }

def lpEnSet (b : Bus) (k : Fin 33) (s : Engine) : Engine := s.access b (lpEnable k)

/-- STEP: one instruction of a machine halted with CAUSE 1. -/
def lpSingle (c : Lp) (s : Engine) : Engine :=
  let x := s.lp c.k
  s.onlyIf (s.lpHostMode && x.halted && x.cause == 1 && x.startIn.isNone && x.wait.isNone) fun s =>
    match (lpDecode c (get0 x.pm x.pc.toNat)).bind lpEffect with
    | some f => lpInstr c f s
    | none => lpInstr c illOpEff s

def lpStep (b : Bus) (c : Lp) (s : Engine) : Engine := s.access b (lpSingle c)

/-! ### Coefficient banks (R167) -/

/-- A bank swap requested; again, where the request stands (R403). -/
def requestSwap (k : Fin 33) (s : Engine) : Engine :=
  if (s.lp k).swapReq then s.noteHalf (.swapAgain k) else s.onLp k fun x => { x with swapReq := true }

def cbankSwapReq (b : Bus) (k : Fin 33) (s : Engine) : Engine := s.access b (requestSwap k)

/-- A write of LP_GSWAP_HI commits the held low half and its own bit 0 as one request. -/
def gswapCommit (b : Bus) (v : Word) (s : Engine) : Engine :=
  s.access b fun s =>
    let lo := s.reg Reg.lpGswapLo
    (List.finRange 33).foldl (fun s k => if (if k.val < 32 then bit lo k.val else bit v 0) then requestSwap k s else s) s

/-! ### Meanings -/

def execMpy (c : Lp) (f : MacForm) (x y : Option MacLoad) (s : State) : Host.Outcome State Fault Refusal :=
  s.run (lpRow c (multiplyEff c .set f x y))

def execMac (c : Lp) (f : MacForm) (x y : Option MacLoad) (s : State) : Host.Outcome State Fault Refusal :=
  s.run (lpRow c (multiplyEff c .add f x y))

def execMsu (c : Lp) (f : MacForm) (x y : Option MacLoad) (s : State) : Host.Outcome State Fault Refusal :=
  s.run (lpRow c (multiplyEff c .sub f x y))

def execPar (c : Lp) (x y : Option MacLoad) (s : State) : Host.Outcome State Fault Refusal := s.run (lpRow c (parEff c x y))

def execFtap (c : Lp) (op : MulOp) (acc : Fin 4) (x y : MacLoad) (s : State) : Host.Outcome State Fault Refusal :=
  s.run (lpRow c (ftapEff c op acc x y))

def execClr (c : Lp) (dst : Fin 4) (ld : Option AluLoad) (s : State) : Host.Outcome State Fault Refusal :=
  s.run (lpRow c (aluEff c (fun x => x.clrOp dst) ld))

def execAdd (c : Lp) (dst src : Fin 4) (ld : Option AluLoad) (s : State) : Host.Outcome State Fault Refusal :=
  s.run (lpRow c (aluEff c (fun x => x.addOp dst src) ld))

def execSub (c : Lp) (dst src : Fin 4) (ld : Option AluLoad) (s : State) : Host.Outcome State Fault Refusal :=
  s.run (lpRow c (aluEff c (fun x => x.subOp dst src) ld))

def execAddd (c : Lp) (dst : Fin 4) (dr : Fin 8) (ld : Option AluLoad) (s : State) : Host.Outcome State Fault Refusal :=
  s.run (lpRow c (aluEff c (fun x => x.adddOp dst dr) ld))

def execSubd (c : Lp) (dst : Fin 4) (dr : Fin 8) (ld : Option AluLoad) (s : State) : Host.Outcome State Fault Refusal :=
  s.run (lpRow c (aluEff c (fun x => x.subdOp dst dr) ld))

def execLdd (c : Lp) (dst : Fin 4) (dr : Fin 8) (ld : Option AluLoad) (s : State) : Host.Outcome State Fault Refusal :=
  s.run (lpRow c (aluEff c (fun x => x.lddOp dst dr) ld))

def execNeg (c : Lp) (dst : Fin 4) (ld : Option AluLoad) (s : State) : Host.Outcome State Fault Refusal :=
  s.run (lpRow c (aluEff c (fun x => x.negOp dst) ld))

def execAbs (c : Lp) (dst : Fin 4) (ld : Option AluLoad) (s : State) : Host.Outcome State Fault Refusal :=
  s.run (lpRow c (aluEff c (fun x => x.absOp dst) ld))

def execAsl (c : Lp) (dst : Fin 4) (imm : Fin 16) (ld : Option AluLoad) (s : State) : Host.Outcome State Fault Refusal :=
  s.run (lpRow c (aluEff c (fun x => x.aslOp dst imm.val) ld))

def execAsr (c : Lp) (dst : Fin 4) (imm : Fin 16) (ld : Option AluLoad) (s : State) : Host.Outcome State Fault Refusal :=
  s.run (lpRow c (aluEff c (fun x => x.asrOp dst imm.val) ld))

def execMax (c : Lp) (dst src : Fin 4) (ld : Option AluLoad) (s : State) : Host.Outcome State Fault Refusal :=
  s.run (lpRow c (aluEff c (fun x => x.maxOp dst src) ld))

def execMin (c : Lp) (dst src : Fin 4) (ld : Option AluLoad) (s : State) : Host.Outcome State Fault Refusal :=
  s.run (lpRow c (aluEff c (fun x => x.minOp dst src) ld))

def execCmp (c : Lp) (dst src : Fin 4) (ld : Option AluLoad) (s : State) : Host.Outcome State Fault Refusal :=
  s.run (lpRow c (aluEff c (fun x => x.cmpOp dst src) ld))

def execLim (c : Lp) (dst : Fin 4) (dr : Fin 8) (ld : Option AluLoad) (s : State) : Host.Outcome State Fault Refusal :=
  s.run (lpRow c (aluEff c (fun x => x.limOp dst dr) ld))

def execRnd (c : Lp) (dst : Fin 4) (ld : Option AluLoad) (s : State) : Host.Outcome State Fault Refusal :=
  s.run (lpRow c (aluEff c (fun x => x.rndOp dst) ld))

def execMova (c : Lp) (dst src : Fin 4) (ld : Option AluLoad) (s : State) : Host.Outcome State Fault Refusal :=
  s.run (lpRow c (aluEff c (fun x => x.movaOp dst src) ld))

def execTstd (c : Lp) (dr : Fin 8) (ld : Option AluLoad) (s : State) : Host.Outcome State Fault Refusal :=
  s.run (lpRow c (aluEff c (fun x => x.tstdOp dr) ld))

def execLdx (c : Lp) (d : Fin 8) (ea : Ea5) (s : State) : Host.Outcome State Fault Refusal := s.run (lpRow c (ldxEff c d ea))

def execLdy (c : Lp) (d : Fin 8) (ea : Ea5) (s : State) : Host.Outcome State Fault Refusal := s.run (lpRow c (ldyEff c d ea))

def execLdxa (c : Lp) (d : Fin 8) (addr : Fin 32768) (s : State) : Host.Outcome State Fault Refusal :=
  s.run (lpRow c (ldxaEff c d addr.val))

def execStx (c : Lp) (d : Fin 8) (ea : Ea5) (s : State) : Host.Outcome State Fault Refusal := s.run (lpRow c (stxEff c d ea))

def execStxa (c : Lp) (d : Fin 8) (addr : Fin 32768) (s : State) : Host.Outcome State Fault Refusal :=
  s.run (lpRow c (stxaEff c d addr.val))

def execSth (c : Lp) (a : Fin 4) (ea : Ea5) (shift : Fin 32) (s : State) : Host.Outcome State Fault Refusal :=
  s.run (lpRow c (sthEff c a ea shift))

def execStl (c : Lp) (a : Fin 4) (ea : Ea5) (s : State) : Host.Outcome State Fault Refusal := s.run (lpRow c (stlEff c a ea))

def execLdi (c : Lp) (rd : Fin 64) (v : Half) (s : State) : Host.Outcome State Fault Refusal :=
  s.run (lpRow c (setRegEff c rd v))

def execMov (c : Lp) (rd rs : Fin 64) (s : State) : Host.Outcome State Fault Refusal := s.run (lpRow c (movEff c rd rs))

def execUpd (c : Lp) (ea : Ea5) (s : State) : Host.Outcome State Fault Refusal := s.run (lpRow c (updEff c ea))

def execNop (c : Lp) (s : State) : Host.Outcome State Fault Refusal := s.run (lpRow c nopEff)

def execJmp (c : Lp) (target : Fin 8192) (s : State) : Host.Outcome State Fault Refusal := s.run (lpRow c (jmpEff c target.val))

def execJsr (c : Lp) (target : Fin 8192) (s : State) : Host.Outcome State Fault Refusal := s.run (lpRow c (jsrEff c target.val))

def execRts (c : Lp) (s : State) : Host.Outcome State Fault Refusal := s.run (lpRow c (rtsEff c))

def execBrcc (c : Lp) (cond : Fin 8) (target : Fin 8192) (s : State) : Host.Outcome State Fault Refusal :=
  s.run (lpRow c (brccEff c cond target.val))

def execDbnz (c : Lp) (dr : Fin 8) (target : Fin 8192) (s : State) : Host.Outcome State Fault Refusal :=
  s.run (lpRow c (dbnzEff c dr target.val))

def execLoop (c : Lp) (len : Fin 32) (count : LoopCount) (s : State) : Host.Outcome State Fault Refusal :=
  s.run (lpRow c (loopEff c len count))

def execWait (c : Lp) (cond : Fin 16) (s : State) : Host.Outcome State Fault Refusal := s.run (lpRow c (waitEff c cond))

def execWaitComplete (c : Lp) (s : State) : Host.Outcome State Fault Refusal := s.run (waitComplete c)

def execClrf (c : Lp) (mask : Byte) (s : State) : Host.Outcome State Fault Refusal := s.run (lpRow c (clrfEff c mask))

def execEvt (c : Lp) (s : State) : Host.Outcome State Fault Refusal := s.run (lpRow c (evtEff c))

def execHalt (c : Lp) (s : State) : Host.Outcome State Fault Refusal := s.run (lpRow c (haltEff c))

def execLpHang (k : Fin 33) (s : State) : Host.Outcome State Fault Refusal := s.run (lpHang k)

/-- A word that spells an instruction is no term of this row. -/
def execLpIllOp (c : Lp) (w : Word) (s : State) : Host.Outcome State Fault Refusal :=
  if wellFormed (.lpIllOp c w) then s.run (lpRow c illOpEff) else .refused (.illFormed "LP_ILL_OP")

end Sys2Proof.Machine
end

