-- ==== Sys2Proof/Machine/Estimate.lean ====
section
/-! DEFINITION. The arithmetic of calibration's estimates: sines and cosines to 96 fraction bits, the band-transfer term of R179, and
the solver of R204. -/

namespace Sys2Proof.Machine

open Sys2Proof

/-! ### Fixed-point reals: an integer v stands for v ÷ 2^96 (DESIGN CHOICE, log 49) -/

def fixOne : Int := 2 ^ 96

/-- π to 96 fraction bits. -/
def fixPi : Int := 248902613312231085230521944622

def fixMul (a b : Int) : Int := a * b / fixOne
def fixDiv (a b : Int) : Int := a * fixOne / b
def fixOfQuot (a : Int) (b : Nat) : Int := a * fixOne / b

/-- n terms of the alternating series whose k-th power term is t. -/
def fixSeries (sq : Int) : Nat → Nat → Int → Int
  | 0, _, _ => 0
  | n + 1, k, t => t + fixSeries sq n (k + 2) (-(fixMul t sq) / ((k + 1) * (k + 2) : Nat))

/-- An angle brought to −π … π. -/
def fixAngle (x : Int) : Int := x - 2 * fixPi * ((x + fixPi) / (2 * fixPi))

def fixSin (x : Int) : Int := let y := fixAngle x; fixSeries (fixMul y y) 24 1 y
def fixCos (x : Int) : Int := let y := fixAngle x; fixSeries (fixMul y y) 24 0 fixOne

/-! ### Coefficients as reals -/

/-- LSB of a range in 100 µV ÷ 32,768 (R81). -/
def lsbUnits (narrow : Bool) : Nat := if narrow then 30000 else 60000

/-- φ_LSB: the customer-band phase of one drive LSB (R179), from VPI in 100 µV. -/
def phasePerLsb (vpi : Nat) (narrow : Bool) : Int := fixPi * (lsbUnits narrow : Int) / ((32768 * vpi : Nat) : Int)

/-- B of R179 and R196, rounded half up; none for a coefficient or a depth of 0, which gives no such value. -/
def targetB (vpi beta delta : Nat) (narrow branch : Bool) : Option Int :=
  let g := phasePerLsb vpi narrow
  let b := fixOfQuot (beta : Int) 32768
  let a := (delta : Int) * g
  let den := fixMul (fixSin a) g
  if vpi = 0 ∨ beta = 0 ∨ den ≤ 0 then none
  else
    let num := fixMul (fixSin (fixMul (b - fixOne) fixPi)) (fixSin (fixMul b a))
    let v := roundHalfUp num den.toNat
    some (if branch then -v else v)

/-! ### The pilot's equations (R204) -/

/-- One Newton step for g and β with θ = β·g·H − π put in: H and δ in LSB, the pilot terms D_T and Σ′, and the values so far. -/
def pilotStep (h delta dT sums : Int) (p : Int × Int) : Option (Int × Int) :=
  let (g, b) := p
  let a := delta * g
  let ba := fixMul b a
  let th := fixMul b (g * h) - fixPi
  let (st, ct, sb, cb, sa, ca) := (fixSin th, fixCos th, fixSin ba, fixCos ba, fixSin a, fixCos a)
  let m := fixMul g sa
  if m = 0 then none
  else
    let dm := sa + fixMul a ca
    let q1 := fixDiv (fixMul st sb) m
    let q2 := fixDiv (fixOne - fixMul ct cb) m
    let thB := fixMul ct sb
    let baB := fixMul st cb
    let j1g := fixDiv (fixMul (thB * h + baB * delta) b - fixMul q1 dm) m
    let j1b := fixDiv (fixMul (thB * h + baB * delta) g) m
    let j2g := fixDiv (fixMul (baB * h + thB * delta) b - fixMul q2 dm) m
    let j2b := fixDiv (fixMul (baB * h + thB * delta) g) m
    let det := fixMul j1g j2b - fixMul j1b j2g
    if det = 0 then none
    else
      let (f1, f2) := (q1 - dT, q2 - sums)
      some (g - fixDiv (fixMul f1 j2b - fixMul f2 j1b) det, b - fixDiv (fixMul f2 j1g - fixMul f1 j2g) det)

/-- Steps until |Δβ| ≤ 10⁻⁵; none where the fuel ends first. -/
def pilotSolve (h delta dT sums : Int) : Nat → Int × Int → Option (Int × Int)
  | 0, _ => none
  | n + 1, p =>
    match pilotStep h delta dT sums p with
    | none => none
    | some q => if 100000 * (q.2 - p.2).natAbs ≤ fixOne.natAbs then some q else pilotSolve h delta dT sums n q

/-! ### The least-squares fit of a sweep (R210) -/

/-- The solution of a symmetric positive system by elimination: n rows of n coefficients and a right side each. -/
def solveRows : Nat → List (List Int) → Option (List Int)
  | 0, _ => some []
  | n + 1, (p :: row) :: rows =>
    if p ≤ 0 then none
    else
      let reduce (r : List Int) : List Int := match r with
        | [] => []
        | q :: t => List.zipWith (fun a b => a - fixDiv (fixMul q b) p) t row
      match solveRows n (rows.map reduce) with
      | none => none
      | some ys => some (fixDiv (row.getD n 0 - (List.zipWith fixMul row ys).foldl (· + ·) 0) p :: ys)
  | _ + 1, _ => none

/-- The normal equations of rows of n partial derivatives and a residual. -/
def normalRows (n : Nat) (rows : List (List Int)) : List (List Int) :=
  (List.range n).map fun i => (List.range (n + 1)).map fun j =>
    (rows.map fun r => fixMul (r.getD i 0) (r.getD j 0)).foldl (· + ·) 0

/-- F, A, x₀ in LSB, and π ÷ H_p in rad per LSB. -/
structure SweepFit where
  f : Int
  a : Int
  x0 : Int
  w : Int

/-- The angle π(x − x₀) ÷ H_p of a point. -/
def SweepFit.angle (p : SweepFit) (x : Int) : Int := fixMul p.w (x * fixOne - p.x0)

/-- A point's row: the derivatives of F + A·sin²(π(x − x₀) ÷ (2H_p)) by F, A, x₀ and π ÷ H_p, and what is left of y. -/
def SweepFit.row (p : SweepFit) (pt : Int × Int) : List Int :=
  let u := p.angle pt.1
  let sq := (fixOne - fixCos u) / 2
  let slope := fixMul p.a (fixSin u) / 2
  [fixOne, sq, -(fixMul slope p.w), fixMul slope (pt.1 * fixOne - p.x0), pt.2 - p.f - fixMul p.a sq]

/-- F and A alone, for the x₀ and H_p so far. -/
def SweepFit.level (pts : List (Int × Int)) (p : SweepFit) : Option SweepFit :=
  let rows := pts.map fun pt => let sq := (fixOne - fixCos (p.angle pt.1)) / 2; [fixOne, sq, pt.2]
  match solveRows 2 (normalRows 2 rows) with
  | some [f, a] => some { p with f := f, a := a }
  | _ => none

/-- One Gauss–Newton step. -/
def SweepFit.step (pts : List (Int × Int)) (p : SweepFit) : Option SweepFit :=
  match solveRows 4 (normalRows 4 (pts.map p.row)) with
  | some [df, da, dx, dw] => some { f := p.f + df, a := p.a + da, x0 := p.x0 + dx, w := p.w + dw }
  | _ => none

/-- Steps until π ÷ H_p moves by no more than a limit; none where the fuel ends first. -/
def SweepFit.settle (pts : List (Int × Int)) (limit : Int) : Nat → SweepFit → Option SweepFit
  | 0, _ => none
  | n + 1, p =>
    match p.step pts with
    | none => none
    | some q => if ((q.w - p.w).natAbs : Int) ≤ limit then some q else SweepFit.settle pts limit n q

/-- The least-squares fit nearest the live values (DESIGN CHOICE, log 52: its steps and when they end, as R204 ends its own): points as
drive word and mean in 2^−96 of a code, from x₀ and π ÷ H_p of the live set, with φ_LSB for the limit Δβ ≤ 10⁻⁵. -/
def fitSweep (pts : List (Int × Int)) (x0 w g : Int) : Option SweepFit :=
  match SweepFit.level pts { f := 0, a := 0, x0 := x0, w := w } with
  | none => none
  | some p =>
    match p.settle pts (g / 100000) 8 with
    | none => none
    | some q => if q.a ≤ 0 ∨ q.w ≤ 0 then none else some q

/-- A number put into an ascending list. -/
def insertInt (n : Int) : List Int → List Int
  | [] => [n]
  | k :: l => if n ≤ k then n :: k :: l else k :: insertInt n l

/-! ### Square roots (R204) -/

/-- The integer square root below 2^k above r, bit by bit. -/
def sqrtBits (x : Nat) : Nat → Nat → Nat
  | 0, r => r
  | k + 1, r => sqrtBits x k (if (r + 2 ^ k) * (r + 2 ^ k) ≤ x then r + 2 ^ k else r)

/-- σ × g > 1.396 mrad, with σ² = sd2 ÷ n: more than 0.080° of noise. -/
def tooNoisy (sd2 n : Nat) (g : Int) : Bool :=
  decide (((n * 1396 ^ 2 : Nat) : Int) * fixOne * fixOne < ((sd2 * 10 ^ 12 : Nat) : Int) * g * g)

/-- EXT = −10·log₁₀(F·g²·δ) < 40 dB, with F = num ÷ den LSB. -/
def lowExtinction (num : Int) (den delta : Nat) (g : Int) : Bool :=
  decide ((den : Int) * fixOne * fixOne < 10000 * num * g * g * (delta : Int))

end Sys2Proof.Machine
end

