-- ==== Sys2Proof/Machine/SchedOps.lean ====
section
/-! DEFINITION. Shared operations of the route engine and the scheduler: route map words (R62), results (R339), outcome
reports (R236), credit (R222, R223, R225), the energy bucket (R233, R293) and cancellation (R75, R88, R235). -/

namespace Sys2Proof.Machine

open Sys2Proof

/-! ### Route map words (R80) -/

def mapConn (w : Word) : Bool := bit w 31
def mapPinned (w : Word) : Bool := bit w 30
def mapTenant (w : Word) : Nat := fld w 24 6
def mapOut (w : Word) : Nat := fld w 0 9

/-- A map word: an idle route where there is no tenant. -/
def mapWord (out : Nat) (tenant : Option Nat) (pinned : Bool) : Word :=
  match tenant with
  | none => word (out % 512)
  | some t => putBit (putBit (putFld (word (out % 512)) 24 6 t) 31 true) 30 pinned

/-- Outputs by input. -/
def mapPerm (v : Variant) (m : Mem) : List Nat := (List.range v.ports).map fun i => mapOut (get0 m i)

/-- The pins of one map carried to another wherever it holds the same connection (R67, R74). -/
def withPins (v : Variant) (pins m : Mem) : Mem :=
  (List.range v.ports).foldl (fun acc i =>
    let w := get0 m i
    let p := get0 pins i
    put0 acc i (putBit w 30 (mapPinned p && mapConn w && mapConn p && mapOut w == mapOut p && mapTenant w == mapTenant p))) m

/-! ### Results (R72, R74, R339) -/

/-- What firmware keeps of the route result of a command it has submitted (R340). -/
def keepResult (cells blinks seq : Nat) (x : Submitted) : Submitted :=
  if x.engineSeq = seq then { x with cells := cells, blinks := blinks } else x

/-- A result becomes ready: its data and VALID and FRESH on one edge; CYCLES in CORE cycles of 1 ns (R79). -/
def postResult (s : Engine) (status cells blinks seq energy cycles : Nat) : Engine :=
  { s with fw.submitted := s.fw.submitted.map (keepResult cells blinks seq) }.setRegs [
    (Reg.rteResult, putFld (putFld (putFld (word (3 * 2 ^ 30)) 24 4 status) 13 10 blinks) 0 13 cells),
    (Reg.rteResultSeqLo, word seq), (Reg.rteResultSeqHi, word (seq / 2 ^ 32)),
    (Reg.rteEnergy, word energy), (Reg.rteCycles, word (min cycles 0xFFFF))]

/-- A result that computes nothing: no blink set, no changed cell, the base map's cells (R71). -/
def postEmpty (s : Engine) (status seq cycles : Nat) : Engine :=
  { postResult s status 0 0 seq 0 cycles with
    rte.blink := [], rte.changed := [], rte.cellmap := s.rte.cellsBase }

/-! ### Outcome reports (R236) -/

/-- A report for a request, with its TIME_NS. -/
def reportAt (ns : Word) (s : Engine) (outcome detail : Nat) (r : SchReq) : Engine :=
  let w := putFld (putFld (putFld (putBit 0 31 true) 24 4 outcome) 16 4 detail) 0 7 r.requester
  let s := if outcome = 4 then s.putRbit Reg.schStat 10 true else s
  let s := if outcome = 3 then s.putRbit Reg.schStat 11 true else s
  if s.sch.outs.length < 64 then { s with sch.outs := s.sch.outs ++ [(w, r.seq, ns)] }
  else s.putRbit Reg.schStat 9 true

/-- A report of the present edge. -/
def report (s : Engine) (outcome detail : Nat) (r : SchReq) : Engine := reportAt (word s.nowSubNs) s outcome detail r

/-- Operation code of a request. -/
def SchReq.op (r : SchReq) : Nat := fld r.cmd 0 4

/-- PIN and UNPIN never become commits (R74). -/
def SchReq.isPin (r : SchReq) : Bool := r.op == 4 || r.op == 5

/-- The end of an issued request. A command that host software wrote directly is reported as the commit it becomes, and by no report
before (R221). -/
def reportIssued (s : Engine) (outcome detail : Nat) (i : Issued) : Engine :=
  if i.req.direct && !i.done then s else report s outcome detail i.req

/-! ### Credit (R222 to R225) -/

def creditOf (s : Engine) (t : Nat) : Int := (s.reg (Reg.schTbCredit t)).toInt

def burstOf (s : Engine) (t : Nat) : Int := s.rfld (Reg.schTbBurst t) 0 24

/-- Credit saturates at −2^31. -/
def setCredit (s : Engine) (t : Nat) (c : Int) : Engine :=
  s.setReg (Reg.schTbCredit t) (wordOfInt (if c < -(2 ^ 31) then -(2 ^ 31) else c))

/-- The charge of a cancelled commit returned to its tenant (R225); the operator is charged nothing. -/
def returnCharge (s : Engine) (r : SchReq) (cost : Nat) : Engine :=
  if r.requester < 64 ∧ cost ≠ 0 then
    let c := creditOf s r.requester + cost
    setCredit s r.requester (if 0 < c then min c (burstOf s r.requester) else c)
  else s

/-! ### Energy bucket (R233, R293) -/

def ebktCap (s : Engine) : Nat := (s.reg Reg.pwrEbktCap).toNat

def returnEnergy (s : Engine) (e : Nat) : Engine := { s with pwr.ebkt := min (s.pwr.ebkt + e) (ebktCap s) }

/-! ### Refill edges (R223, R224, R293) -/

/-- The values that a refill on this TICK uses: the old ones where a write fell on it. -/
def refillValues (s : Engine) (t : Nat) : Nat × Nat :=
  match s.sch.tbWrites.find? (fun w => w.1 == t && w.2.1 == s.tick) with
  | some (_, _, rate, burst) => (rate, burst)
  | none => (s.rfld (Reg.schTbRate t) 0 24, s.rfld (Reg.schTbBurst t) 0 24)

/-- One tenant's refill. -/
def refillTenant (s : Engine) (t : Fin 64) : Engine :=
  let (rate, burst) := refillValues s t.val
  let total := s.sch.residue[t] + rate
  let c := creditOf s t.val
  let c' := if c < (burst : Int) then min (c + (total / 1000000 : Nat)) burst else c
  let s := { s with sch.residue := s.sch.residue.set t (total % 1000000) }
  s.setReg (Reg.schTbCredit t.val) (wordOfInt c')

/-- The allotment that a refill on this TICK uses: a value set on an update edge applies from the next refill edge (R292). -/
def refillAllotment (s : Engine) : Nat :=
  (if s.pwr.lastUpdate = some s.tick then s.pwr.allotBefore else s.reg Reg.pwrAllotEff).toNat

/-- The energy bucket's refill. -/
def refillEnergy (s : Engine) : Engine :=
  { s with pwr.ebkt := min (s.pwr.ebkt + refillAllotment s * 1000000) (max s.pwr.ebkt (ebktCap s)) }

/-- A refill edge, every 250 TICK from the release of the root dividers. -/
def refillEdge (s : Engine) : Engine :=
  s.onlyIf (s.mode ≠ .reset && (s.tick - s.divTick) % 250 == 0 && s.sch.lastRefill != some s.tick) fun s =>
    let s := (List.finRange 64).foldl refillTenant (refillEnergy s)
    { s with sch.lastRefill := some s.tick, sch.tbWrites := [] }

/-- A charge: a refill on its TICK is applied first (R222, R224). -/
def charge (s : Engine) (t cost : Nat) : Engine :=
  let s := refillEdge s
  setCredit s t (creditOf s t - cost)

/-! ### Cancellation (R75, R88, R225, R233, R235) -/

/-- A request in computation whose base was cancelled (R75), or that was abandoned (R76). -/
def cancelJob (j : RouteJob) : RouteJob := { j with cancelled := true }
def abortJob (j : RouteJob) : RouteJob := { j with aborted := true }

/-- The base map reverts: to the map a commit in progress will establish, else to the current map (R62, R75). -/
def revertBase (s : Engine) : Engine :=
  match s.sch.commit with
  | some c => { s with rte.base := withPins s.variant s.rte.base c.result.map, rte.cellsBase := c.result.cells }
  | none => { s with rte.base := s.rte.cur, rte.cellsBase := s.rte.cellsCur }

/-- A result that waits for the builder is discarded: RTE_RESULT reports BASE_CANCELLED in place of OK, with VALID and FRESH set
again and its other data kept (R75). -/
def discardResult (h : RouteResult) (s : Engine) : Engine :=
  let s := { s with rte.held := none }
  let s := s.setReg Reg.rteResult (putFld (s.reg Reg.rteResult ||| word (3 * 2 ^ 30)) 24 4 8)
  s.setRegs [(Reg.rteResultSeqLo, word h.seq), (Reg.rteResultSeqHi, word (h.seq / 2 ^ 32))]

/-- A result that waits for the builder is discarded as BASE_CANCELLED: reported again, its charge returned and its request
ended ROUTE; a request in computation will complete so (R75). DESIGN CHOICE (log 88): a result that waits for nothing, such as
PINNED_CONFLICT or the OK of a PIN, keeps its status. -/
def cancelLater (s : Engine) : Engine :=
  let s := { s with rte.job := s.rte.job.map cancelJob }
  match s.rte.held with
  | none => s
  | some h =>
    let s := discardResult h s
    match s.sch.issued with
    | some i => report (returnCharge { s with sch.issued := none } i.req i.cost) 5 8 i.req
    | none => s

/-- Whether comparator 0 is armed on the present edge (R243). -/
def Engine.whistleArmed (s : Engine) : Bool :=
  match s.tim.cmps[0].armed with
  | some t => decide (t ≤ s.tick)
  | none => false

/-- Steps that find the Whistle comparator armed are refused (R243). -/
def rejectSteps (s : Engine) : Engine :=
  if s.whistleArmed && !s.tim.steps.isEmpty then { s with tim.steps := [] }.putRbit Reg.timStat 5 true else s

/-- Comparator 0 disarmed (R253). SCH_ARM.VALID reads 0; REQUESTER and SCH_ARM_NS keep what they showed (DESIGN CHOICE, log 94). -/
def disarmWhistle (s : Engine) : Engine :=
  let s := ((rejectSteps s).putRbit Reg.schArm 31 false).putRbit (Reg.timCmpCtl 0) 0 false
  { s with tim.cmps := s.tim.cmps.set 0 { s.tim.cmps[0] with armed := none, disarm := none }, sch.eResv := 0 }

/-- Comparator 0 armed for a Whistle `k` TICK ahead: its target is that edge's stamp in whole nanoseconds (R253). -/
def armWhistle (k : Nat) (s : Engine) : Engine :=
  let t := s.time + k * s.increment
  let s := s.setRegs [
    (Reg.timCmpNs 0, word (t / nsUnit % 1000000000)), (Reg.timCmpSecLo 0, word (t / nsUnit / 1000000000)),
    (Reg.timCmpSecHi 0, word (t / nsUnit / 1000000000 / 2 ^ 32)), (Reg.timCmpCtl 0, 1)]
  { s with tim.cmps := s.tim.cmps.set 0 { s.tim.cmps[0] with armed := some (s.tick + 1), disarm := none } }.emit 0xA3

/-- The commit cancelled before its Whistle with an outcome: charge and energy returned, the base map reverted, later results
discarded and the re-seed asked for. -/
def cancelCommit (s : Engine) (outcome detail : Nat) : Engine :=
  match s.sch.commit with
  | none => s
  | some c =>
    let s := { s with sch.commit := none, drv.reseedDue := true, drv.lock := .held }
    let s := match c.stage with
      | .armed _ => disarmWhistle (returnEnergy s c.result.energy)
      | _ => s
    let s := match c.stage with
      | .building => s
      | _ => s.emit 0xA4
    let s := report (returnCharge s c.req c.cost) outcome detail c.req
    cancelLater (revertBase s)

/-- The issued request ended: in routing it is abandoned or completes BASE_CANCELLED; an OK result that waits is discarded as
BASE_CANCELLED and its charge returned (R75, R234, R235). -/
def cancelIssued (s : Engine) (outcome : Nat) (abort : Bool) : Engine :=
  match s.sch.issued with
  | none => s
  | some i =>
    let s := { s with sch.issued := none }
    let s := match s.rte.held with
      | some h => revertBase (returnCharge (discardResult h s) i.req i.cost)
      | none =>
        if abort then { s with rte.job := s.rte.job.map abortJob }
        else { s with rte.job := s.rte.job.map cancelJob }
    reportIssued s outcome 0 i

/-- A CAL_REQ ends with what it asked for (R337). -/
def endAsk (outcome sec ns : Nat) (x : CalAsk) : CalAsk :=
  if x.begun && x.ended.isNone then { x with ended := some (outcome, sec, ns) } else x

/-- CAL_RESULT becomes ready with an outcome and the regions of its round (R215, R339). -/
def postCalResult (s : Engine) (outcome regions : Nat) : Engine :=
  { s with fw.calAsks := s.fw.calAsks.map (endAsk outcome s.nowSec s.nowSubNs) }.setReg Reg.calResult (putFld (putFld (word (3 * 2 ^ 30)) 16 8 regions) 0 4 outcome)

/-- The fold Whistle is cancelled: full calibration ends with REASON = FOLD, the new set live (R211). -/
def cancelFold (s : Engine) : Engine :=
  let s := if s.cal.fold = .armed then disarmWhistle s else s
  let s := { s with cal.fold := .none, cal.phase := 0, drv.reseedDue := true, drv.lock := .held }
  postCalResult (s.putRfld Reg.calStat 28 4 4) 4 0

end Sys2Proof.Machine
end

