-- ==== Sys2Proof/Machine/Slots.lean ====
section
/-! DEFINITION. The areas of the MRAM and the two slots of a kind: which one is selected and which one is written (R364 to R367). -/

namespace Sys2Proof.Machine

open Sys2Proof

/-! ### Slots (R366, R367) -/

/-- Whether commit record b is later than a. -/
def CommitRec.later (a b : CommitRec) : Bool :=
  decide (a.sec < b.sec) || (decide (a.sec = b.sec) && decide (a.ns < b.ns))

/-- The slot selected (true: slot 1), and whether TIME decided between different sets of equal GEN. -/
def pickSlot (c0 c1 : Option CommitRec) (same : Bool) : Option (Bool × Bool) :=
  match c0, c1 with
  | none, none => none
  | some _, none => some (false, false)
  | none, some _ => some (true, false)
  | some a, some b =>
    if a.gen < b.gen then some (true, false)
    else if b.gen < a.gen then some (false, false)
    else if same then some (false, false)
    else some (a.later b, true)

def genOf (c : Option CommitRec) : Nat := match c with | some r => r.gen | none => 0

/-- The slot that the next set is written to, and its GEN. -/
def nextSlot (c0 c1 : Option CommitRec) (same : Bool) : Bool × Nat :=
  match pickSlot c0 c1 same with
  | none => (false, 1)
  | some (sel, _) =>
    (if c0.isNone then false else if c1.isNone then true else !sel, min 0xFFFFFFFE (genOf (if sel then c1 else c0) + 1))

/-- One of two slots, and a pair with one replaced. -/
def slotOf {α : Type} (p : α × α) (second : Bool) : α := if second then p.2 else p.1
def putSlot {α : Type} (p : α × α) (second : Bool) (x : α) : α × α := if second then (p.1, x) else (x, p.2)

/-- The commit record of a set written now. -/
def commitNow (s : Engine) (gen : Nat) : CommitRec := { gen := gen, sec := s.nowSec, ns := s.nowSubNs }

/-! ### Areas (R364, R365) -/

/-- Where a record lies: a slot of a two-slot kind (IMG 0 and 1, CAL 2 and 3, KEN 4 and 5, CKPT 6 and 7), KEYS, PROD, the reserved
area, or single records. -/
inductive Area where
  | slot (i : Fin 8)
  | keys
  | prod
  | reserved
  | single
deriving DecidableEq, Repr

def areaOf (record : Nat) : Area :=
  let a := 64 * record
  if a < 0x400000 then .slot 0
  else if a < 0x800000 then .slot 1
  else if a < 0x980000 then .slot 2
  else if a < 0xB00000 then .slot 3
  else if a < 0xB40000 then .slot 4
  else if a < 0xB80000 then .slot 5
  else if a < 0xB90000 then .slot 6
  else if a < 0xBA0000 then .slot 7
  else if 0xBB0000 ≤ a ∧ a < 0xBC0000 then .keys
  else if 0xBF0000 ≤ a ∧ a < 0xC00000 then .prod
  else if 0xC00000 ≤ a then .reserved
  else .single

/-- The set of a slot exists no longer (R365). -/
def invalidate (i : Fin 8) (s : Engine) : Engine :=
  let img (b : Bool) : Engine := { s with nvm.img := putSlot s.nvm.img b { slotOf s.nvm.img b with commit := none } }
  let cal (b : Bool) : Engine := { s with nvm.cal := putSlot s.nvm.cal b { slotOf s.nvm.cal b with commit := none } }
  let ken (b : Bool) : Engine := { s with nvm.ken := putSlot s.nvm.ken b { slotOf s.nvm.ken b with commit := none } }
  let ckpt (b : Bool) : Engine := { s with nvm.ckpt := putSlot s.nvm.ckpt b { slotOf s.nvm.ckpt b with commit := none } }
  let second := i.val % 2 == 1
  if i.val < 2 then img second else if i.val < 4 then cal second else if i.val < 6 then ken second else ckpt second

end Sys2Proof.Machine
end

