-- ==== Sys2Proof/Machine/Calib.lean ====
section
/-! DEFINITION. Calibration: sets and their bounds, swaps and the copy-forward, running recalibration, full calibration and the
store (chapter 08). -/

namespace Sys2Proof.Machine

open Sys2Proof

/-! ### Addressing of CAL_DATA (R215) -/

/-- The bits a word of a space holds; 0 where the space has no such word. -/
def calMask (v : Variant) (space index : Nat) : Word :=
  match space with
  | 0 =>
    if 4 * v.elements ≤ index then 0
    else match index % 4 with
      | 0 => 0xFFFFFFFF
      | 1 => 0xFFFF0003
      | 2 => 0xFFFF0000
      | _ => 0
  | 1 => if index < 8 * 512 ∧ index % 8 < 6 then 0xFFFF else 0
  | 2 => if index < 2 * v.ports then 0xFFFFFFFF else 0
  | 3 => if index < 72 * 544 then 0xF0FFFFFF else 0
  | 4 => if index < 1024 * 32 then (if index % 4 = 0 then 0x7FF else if index % 4 = 3 then 0xFFF else 0xFFFF) else 0
  | 5 => if index = 0 then 0xFFFFFFF1 else if index < 5 then 0xFFFF else if index = 5 then 0xFF else 0
  | _ => 0

def calPut (words : Mem) (space index : Nat) (w : Word) : Mem := put0 words (calKey space index) w

/-- A write of the shadow set: held while the copy-forward runs (R198). -/
def shadowWrite (s : Engine) (key : Nat) (w : Word) : Engine :=
  if s.cal.copying then { s with cal.heldWrites := s.cal.heldWrites ++ [(key, w)] }
  else { s with cal.shadow.words := put0 s.cal.shadow.words key w }

/-- INDEX advances by 1 after each access. -/
def advancePtr (s : Engine) : Engine := s.countWrap Reg.calPtr 0 18

/-- A write of the shadow set over the control path, noted for a swap on its own TICK (R23). -/
def hostShadowWrite (s : Engine) (key : Nat) (w : Word) : Engine :=
  shadowWrite (s.noteHalf (.cal key (get0 s.cal.shadow.words key) w)) key w

/-- A write of CAL_DATA: nothing where LIVE = 1. -/
def calDataWrite (b : Bus) (v : Word) (s : Engine) : Engine :=
  s.access b fun s =>
    let space := s.rfld Reg.calPtr 28 3
    let index := s.rfld Reg.calPtr 0 18
    let mask := calMask s.variant space index
    let s := if s.rbit Reg.calPtr 31 || decide (mask = 0) then s else hostShadowWrite s (calKey space index) (v &&& mask)
    advancePtr s

/-- The word that CAL_DATA gives. An OUT bit of a Leash entry is the live one. -/
def calDataWord (s : Engine) : Word :=
  let space := s.rfld Reg.calPtr 28 3
  let index := s.rfld Reg.calPtr 0 18
  let w := calWord (if s.rbit Reg.calPtr 31 then s.cal.live.words else s.cal.shadow.words) space index
  if space = 3 then putBit w 27 (s.sns.out.contains index) else w

/-! ### Bounds of a set (R195) -/

/-- Drive LSB of a voltage in 100 µV, rounded half up: 6.000 V or 3.000 V is 32,768 LSB (R81). -/
def vpiLsb (vpi : Nat) (narrow : Bool) : Int := roundHalfUp ((vpi : Int) * 32768) (if narrow then 30000 else 60000)

/-- TABLE_S within 1.500 V; TABLE_T on the side that BRANCH names and within full scale with its limit; C_E and B in bounds. -/
def elementOk (w0 w1 w2 : Word) (limS limT : Int) : Bool :=
  let ts := (halfLo w0).toInt
  let tt := (halfHi w0).toInt
  let narrow := bit w1 0
  let ce := fld w1 16 16
  decide (ts.natAbs ≤ (if narrow then 16384 else 8192)) &&
  (if bit w1 1 then decide (tt < ts) else decide (ts < tt)) &&
  decide ((tt.natAbs : Int) + limT ≤ 32767) &&
  (!narrow || decide ((ts.natAbs : Int) + limS ≤ 32767)) &&
  decide (1000 ≤ ce ∧ ce ≤ 4000) && decide ((halfHi w2).toInt.natAbs ≤ 7500)

/-- Integrator limit of an element in the bank in use of its loop processor. -/
def limitFor (s : Engine) (e : Nat) (turn : Bool) : Int :=
  match laneSlotOf s e with
  | some (l, slot) => (((s.lps.toList.getD (l / 16) LpState.reset)).limitOf (68 * (l % 16) + slot) turn)
  | none => 0

/-- VPI from 2.600 V to 3.800 V, BETA from 1.080 to 1.160. -/
def vpiOk (vpi : Nat) : Bool := decide (26000 ≤ vpi ∧ vpi ≤ 38000)
def betaOk (beta : Nat) : Bool := decide (1080 * 32768 ≤ 1000 * beta ∧ 1000 * beta ≤ 1160 * 32768)

/-- G from 0.500 to 1.900; PI and TAP_K of a plane input. -/
def gainOk (g : Nat) : Bool := decide (8192 ≤ g ∧ g ≤ 31129)
def piOk (pi : Nat) : Bool := decide (8211 ≤ pi ∧ pi ≤ 25968)
def inputOk (w : Word) : Bool := piOk (fld w 0 16) && decide (21760 ≤ fld w 16 16 ∧ fld w 16 16 ≤ 43520)

/-- An element's coefficients in a set: their bounds, B the value of R196, and an extinction of 40 dB. -/
def elementSetOk (s : Engine) (c : CalSet) (e : Nat) : Bool :=
  let w (i : Nat) : Word := calWord c.words 0 (4 * e + i)
  let vpi := (get0 c.vpi e).toNat
  let beta := (get0 c.beta e).toNat
  let delta := (calWord c.words 5 5).toNat
  let narrow := bit (w 1) 0
  elementOk (w 0) (w 1) (w 2) (limitFor s e false) (limitFor s e true) && vpiOk vpi && betaOk beta &&
  targetB vpi beta delta narrow (bit (w 1) 1) == some (halfHi (w 2)).toInt &&
  !lowExtinction ((get0 c.floor e).toNat : Int) 16 delta (phasePerLsb vpi narrow)

/-- The elements of the image's lanes. -/
def placedElements (s : Engine) : List Nat :=
  match s.nvm.image with
  | none => []
  | some img => (img.laneSlot.map Prod.fst).filter fun e => (laneSlotOf s e).isSome

/-- Whether a set keeps every bound: of its elements, the gains of their lanes, the plane inputs and the Leash entries. -/
def setOk (s : Engine) (c : CalSet) : Bool :=
  let es := placedElements s
  let lanes := unionNat ((es.filterMap (laneSlotOf s)).map Prod.fst) []
  es.all (elementSetOk s c) &&
  lanes.all (fun l => (List.range 6).all fun r => gainOk (calWord c.words 1 (8 * l + r)).toNat) &&
  (List.range (2 * s.variant.ports)).all (fun i => inputOk (calWord c.words 2 i)) &&
  c.words.all fun p => p.1 / 2 ^ 18 != 3 || decide (fld p.2 0 12 ≤ fld p.2 12 12)

/-! ### Rounds (R201, R202, R207) -/

def calActive (s : Engine) : Nat := s.rfld Reg.calStat 16 8
def calPending (s : Engine) : Nat := s.rfld Reg.calStat 8 8

/-- Regions added to PENDING. -/
def addPending (regions : Nat) (s : Engine) : Engine := s.putRfld Reg.calStat 8 8 (calPending s ||| regions)

/-- Modes in which triggers are evaluated, and those in which rounds run and sets swap (R214). -/
def Engine.calModes (s : Engine) : Bool := s.mode = .calibrate || s.mode = .hold || s.mode = .run

/-- The round is abandoned: its regions return to PENDING. -/
def abandonRound (s : Engine) : Engine :=
  if 1 ≤ s.cal.phase ∧ s.cal.phase ≤ 3 then
    let act := calActive s
    let s := addPending act (s.putRbit Reg.calStat 6 true)
    let s := postCalResult (s.putRfld Reg.calStat 16 8 0) 2 act
    { s with cal.phase := 0, cal.windowOpen := false, cal.tempSum := [] }
  else s

/-- The standard programs have all written ROUND_DONE for the round in effect. -/
def roundDone (s : Engine) : Bool :=
  s.cal.windowOpen && s.lps.toList.all fun x => !x.standard || (x.xmGet Xm.roundDone).toNat == fld (calHeader s) 16 16

/-- CAL_STAT.PHASE: an accumulation that every program has ended is in COMPUTE (R202, R204). -/
def calPhase (s : Engine) : Nat := if s.cal.phase = 1 ∧ roundDone s = true then 2 else s.cal.phase

def requestApply (s : Engine) : Engine := s.putRbit Reg.calCtl 1 true

/-- An operation whose result CAL_RESULT reports is accepted: VALID clears (R339), and the CAL_REQs for it have begun. -/
def beginAsk (full : Bool) (x : CalAsk) : CalAsk := if x.full = full then { x with begun := true } else x
def beginAsks (full : Bool) (s : Engine) : Engine :=
  { s with fw.calAsks := s.fw.calAsks.map (beginAsk full) }.putRbit Reg.calResult 31 false

/-- The header of the shadow set, in the order of its other writes (R198). DESIGN CHOICE (log 98): what host software has written since
the last swap stays in the shadow set and swaps with it. -/
def writeHeader (w : Word) (s : Engine) : Engine := shadowWrite s (calKey 5 0) w

/-- The words in which a set differs from the live one written into the shadow set, and what only the supervisor holds. -/
def writeSet (c : CalSet) (s : Engine) : Engine :=
  let s := (memDiff s.cal.live.words c.words).foldl (fun s k => shadowWrite s k (get0 c.words k)) s
  { s with cal.shadow := { c with words := s.cal.shadow.words } }

/-- A round starts with a set that differs from the live one in its header. -/
def calRoundStart (s : Engine) : Engine :=
  s.onlyIf (s.cal.phase == 0 && s.cal.fold == .none && s.rbit Reg.calCtl 0 && s.calModes && decide (calPending s ≠ 0)) fun s =>
    let pend := calPending s
    let round := (fld (calHeader s) 16 16 + 1) % 65536
    let win := max 256 (s.rfld Reg.calWin 0 12)
    let s := ((beginAsks false s).putRfld Reg.calStat 16 8 pend).putRfld Reg.calStat 8 8 0
    let s := writeHeader (putFld (putFld 0 16 16 round) 4 12 win) s
    requestApply { s with cal.phase := 1, cal.round := round, cal.windowOpen := false, cal.tempSum := [] }

/-- A request of APPLY; during accumulation it abandons the round (R207). -/
def newApply (s : Engine) : Engine := requestApply (if calPhase s = 1 ∧ s.cal.windowOpen = true then abandonRound s else s)

/-- APPLY written 1; again, where the request stands (R403). -/
def askApply (s : Engine) : Engine := newApply (if s.rbit Reg.calCtl 1 then s.noteHalf .applyAgain else s)

def calApply (b : Bus) (s : Engine) : Engine := s.access b askApply

/-- A request adds its regions in the modes that take triggers (R214). -/
def calRecal (b : Bus) (regions : Byte) (s : Engine) : Engine :=
  s.access b fun s => s.onlyIf (s.calModes || s.mode == .kennel) (addPending regions.toNat)

/-- PERIOD hours of counter time since a region was estimated (R201). -/
def calAgeTrigger (r : Fin 8) (s : Engine) : Engine :=
  let hours := s.rfld Reg.calTrig 16 8
  s.onlyIf (decide (hours ≠ 0) && (s.calModes || s.mode = .kennel) &&
      decide (s.cal.estimatedAt.getD r.val 0 + hours * 3600000000000 * nsUnit ≤ s.elapsed)) (addPending (2 ^ r.val))

/-! ### Forced STALE (R126, R207) -/

def setFstale (e : Nat) (on : Bool) (s : Engine) : Engine :=
  match laneSlotOf s e with
  | some (l, slot) => s.putRbit (Reg.snsFstale l (slot / 32)) (slot % 32) on
  | none => s

/-- Frozen elements whose slot bit still holds them. -/
def frozenNow (s : Engine) : List Nat :=
  s.cal.frozen.filter fun e => match laneSlotOf s e with
    | some (l, slot) => s.rbit (Reg.snsFstale l (slot / 32)) (slot % 32)
    | none => false

/-! ### Swaps (R198, R199) -/

/-- A swap refused: nothing swaps. A staged round that cannot be applied is abandoned, a full calibration fails. -/
def refuseSwap (reason : Nat) (s : Engine) : Engine :=
  let s := ((s.putRbit Reg.calStat 7 true).putRfld Reg.calStat 28 4 reason).putRbit Reg.calCtl 1 false
  if s.cal.fold = .building then
    postCalResult { s with cal.fold := .none, cal.phase := 0, drv.reseedDue := true, drv.lock := .held } 4 0
  else if s.cal.phase = 4 then postCalResult { s with cal.phase := 0 } 4 0
  else abandonRound s

/-- What a swap does for the round or the full calibration that asked for it. -/
def afterSwap (s : Engine) : Engine :=
  if s.cal.phase = 3 then
    let act := calActive s
    let s := postCalResult (s.putRfld Reg.calStat 16 8 0) 0 act
    { s with cal.phase := 0, cal.windowOpen := false, cal.tempSum := [] }
  else if s.cal.phase = 1 then { s with cal.windowOpen := true }
  else if s.cal.fold = .building then
    let d := 34000 + s.pwr.pauseInForce
    armWhistle d { s with cal.fold := .armed, cal.foldEdge := s.tick + d }
  else if s.cal.phase = 4 then { s with cal.fullFrom := s.tick }
  else s

/-- A control-path write of the swap's own TICK is taken back from the set that goes live, and held (R23). -/
def holdSetWrite (s : Engine) (w : HalfWrite) : Engine :=
  match w with
  | .cal key old _ => { s with cal.shadow.words := put0 s.cal.shadow.words key old, due := .half w :: s.due }
  | _ => s

/-- The shadow and live sets exchanged, and the copy-forward begun; every applied set is to be stored (R212). -/
def exchangeSets (s : Engine) : Engine :=
  let s := s.halfWrites.foldl holdSetWrite s
  let live := s.cal.shadow
  let s := { s with cal.live := { live with gen := s.cal.live.gen }, cal.shadow := s.cal.live, cal.copying := true,
                    cal.copyFrom := s.tick }
  let s := (s.putRbit Reg.calCtl 1 false).putRbit Reg.calStat 4 true
  if s.rbit Reg.calCtl 3 then { s with cal.storeSet := some s.cal.live } else s

/-- APPLY written on the TICK on which the earlier request has just completed is a new request (R403). -/
def applyAgain (s : Engine) : Engine := s.onlyIf (s.halfWrites.contains .applyAgain) newApply

/-- The calibration part of a sweep boundary. A fold waits for its staged entries to verify. -/
def calSwap (s : Engine) : Engine :=
  s.onlyIf (s.rbit Reg.calCtl 1 && !s.cal.copying && s.calModes &&
      !(s.cal.fold == .building && s.drv.loader != .idle)) fun s =>
    applyAgain
      (if (calWord s.cal.shadow.words 5 5).toNat ≠ s.rfld Reg.drvProbe 0 8 then refuseSwap 3 s
       else if !setOk s s.cal.shadow then refuseSwap 5 s
       else afterSwap (exchangeSets s))

/-- The copy-forward ends, within 35,000 TICK: the shadow holds the live set and the writes held meanwhile. -/
def calCopyComplete (s : Engine) : Engine :=
  s.onlyIf (s.mode ≠ .reset && s.cal.copying) fun s =>
    let words := memWrites zeroWord s.cal.live.words s.cal.heldWrites
    { s with cal.shadow := { s.cal.live with words := words }, cal.copying := false, cal.heldWrites := [] }

/-! ### Running estimates (R200, R204 to R207) -/

/-- Last stage of each group but the fourth (R200). -/
def regionStages (v : Variant) : List Nat :=
  match v with
  | .pq512 => [4, 8, 12]
  | .pq256 => [3, 7, 11]
  | .pq128 => [3, 6, 9]

/-- The calibration region of an element. -/
def regionOf (v : Variant) (e : Nat) : Nat :=
  4 * planeOf v e + ((regionStages v).filter fun last => last < stageOf v e).length

/-- The window's sums of an element (R203). -/
structure WindowSums where
  nps : Nat
  sd2s : Nat
  sss : Int
  npt : Nat
  sdt : Int
  sst : Int

def windowSums (s : Engine) (e : Nat) : WindowSums :=
  match laneSlotOf s e with
  | some (l, slot) =>
    let x := s.lps.toList.getD (l / 16) LpState.reset
    let a := 0x1400 + 10 * (68 * (l % 16) + slot)
    { nps := (x.xmGet a).toNat, sd2s := (x.xmGet32 (a + 1)).toNat, sss := (x.xmGet32 (a + 3)).toInt,
      npt := (x.xmGet (a + 5)).toNat, sdt := (x.xmGet32 (a + 6)).toInt, sst := (x.xmGet32 (a + 8)).toInt }
  | none => { nps := 0, sd2s := 0, sss := 0, npt := 0, sdt := 0, sst := 0 }

/-- The trims at the end of the window are those of its last boundary. -/
def keepTrims (s : Engine) : Engine :=
  if s.cal.windowOpen && !roundDone s then { s with cal.windowTrims := s.drv.trims } else s

/-- H, the held span in LSB. -/
def heldSpan (s : Engine) (e : Nat) : Int :=
  let w := get0 s.cal.windowTrims e
  let t (turn : Bool) : Int := (tableWord s.cal.live.words e turn).toInt
  (((t true + (halfHi w).toInt) - (t false + (halfLo w).toInt)).natAbs : Int)

/-- FLOOR's F as a quotient in LSB: (SS_S ÷ NP_S − (σ² + δ²) ÷ (2δ)) ÷ 2. -/
def floorQuot (w : WindowSums) (delta : Nat) : Int × Nat :=
  (2 * (delta : Int) * w.sss - (w.sd2s : Int) - ((w.nps * delta ^ 2 : Nat) : Int), 4 * delta * w.nps)

/-- Whether a change stays within a number of parts in a thousand. -/
def within (old new perMille : Nat) : Bool := decide (1000 * (old - new) ≤ perMille * old ∧ 1000 * (new - old) ≤ perMille * old)

/-- A coefficient of 16 bits; the spec gives none for a value that the format cannot hold. -/
def freeFit (v : Int) (s : Engine) : Half × Engine :=
  if 0 ≤ v ∧ v ≤ 65535 then (BitVec.ofInt 16 v, s) else let (w, s) := s.freeWord; (w.setWidth 16, s)

/-- A quotient as a coefficient, rounded as a free value has it. -/
def freeCoeff (a : Int) (b : Nat) (s : Engine) : Half × Engine :=
  let (v, s) := freeQuot a b s
  freeFit v s

/-- The same as a number, for a coefficient whose bounds are judged. -/
def freeBounded (a : Int) (b : Nat) (s : Engine) : Nat × Engine :=
  let (v, s) := freeQuot a b s
  (v.toNat, s)

/-- A square root of x ÷ n as a coefficient, rounded as a free value has it. -/
def freeRoot (x n : Nat) (s : Engine) : Half × Engine :=
  let r := sqrtBits (x / n) 32 0
  let up := decide (r * r * n ≠ x) && Config.freeRound s.freeCtr
  freeFit ((if up then r + 1 else r : Nat) : Int) { s with freeCtr := s.freeCtr + 1 }

/-- What the window gives of θ, g and β: the solution nearest the live values (R204). -/
def solveElement (s : Engine) (e : Nat) (w : WindowSums) (floor : Int) : Option (Int × Int) :=
  let live := s.cal.live
  let delta : Int := (calWord live.words 5 5).toNat
  let vpi := (get0 live.vpi e).toNat
  let beta := (get0 live.beta e).toNat
  if vpi = 0 ∨ beta = 0 then none
  else
    let g := phasePerLsb vpi (rangeNarrow live.words e)
    match pilotSolve (heldSpan s e) delta (fixOfQuot w.sdt w.npt) (fixOfQuot w.sst w.npt - 2 * floor) 8 (g, fixOfQuot beta 32768) with
    | some p => if p.1 ≤ 0 then none else some p
    | none => none

/-- Whether VPI and BETA keep the bounds and running changes of R195. -/
def pilotOk (c : CalSet) (e vpi beta : Nat) : Bool :=
  let v := (get0 c.vpi e).toNat
  let b := (get0 c.beta e).toNat
  vpiOk vpi && within v vpi 50 && betaOk beta && decide (1000 * (b - beta) ≤ 10 * 32768 ∧ 1000 * (beta - b) ≤ 10 * 32768)

/-- VPI, BETA and B of an element put into a set; none where a bound or a running change is violated, or the solver failed. -/
def putPilot (s : Engine) (c : CalSet) (e : Nat) (sol : Option (Int × Int)) : Option CalSet × Engine :=
  match sol with
  | none => (none, s)
  | some (g, b) =>
    let narrow := rangeNarrow s.cal.live.words e
    let (vpi, s) := freeBounded (fixPi * (lsbUnits narrow : Int)) (32768 * g.toNat) s
    let (beta, s) := freeBounded (b * 32768) fixOne.toNat s
    let branch := bit (calWord s.cal.live.words 0 (4 * e + 1)) 1
    match targetB vpi beta (s.rfld Reg.drvProbe 0 8) narrow branch with
    | none => (none, s)
    | some t =>
      if pilotOk s.cal.live e vpi beta && decide (t.natAbs ≤ 7500) then
        (some { c with vpi := put0 c.vpi e (word vpi), beta := put0 c.beta e (word beta),
                       words := calPut c.words 0 (4 * e + 2) (joinHalves (BitVec.ofInt 16 t) 0) }, s)
      else (none, s)

/-- An element flagged NOISY, with CAL_NOISE, or no longer so (R204). -/
def flagNoisy (e : Nat) (noisy : Bool) (s : Engine) : Engine :=
  if noisy then { s with cal.noisy := insertNat e s.cal.noisy }.raise 56 e
  else { s with cal.noisy := s.cal.noisy.filter (· != e) }

/-- NOISE and FLOOR of an element put into a set, with CAL_NOISE and CAL_EXT_LOW; none where the extinction is too low. -/
def putFloor (s : Engine) (c : CalSet) (e : Nat) (w : WindowSums) (g : Int) : Option CalSet × Engine :=
  let delta := (calWord s.cal.live.words 5 5).toNat
  let s := flagNoisy e (tooNoisy w.sd2s w.nps g) s
  if delta = 0 then (none, s)
  else
    let (num, den) := floorQuot w delta
    if lowExtinction num den delta g then (none, s.raise 57 e)
    else
      let (noise, s) := freeRoot (256 * w.sd2s) w.nps s
      let (floor, s) := freeCoeff (16 * num) den s
      (some { c with floor := put0 c.floor e (word floor.toNat), noise := put0 c.noise e (word noise.toNat) }, s)

/-- The running totals of a computation: the set so far, the elements estimated and rejected, and the number skipped. -/
structure Tally where
  set : CalSet
  estimated : List Nat
  rejected : List Nat
  skipped : Nat

/-- One element of an active region (R204 to R206): a rejected one keeps its live values. -/
def tallyElement (acc : Engine × Tally) (e : Nat) : Engine × Tally :=
  let (s, t) := acc
  let w := windowSums s e
  if w.nps < 64 ∧ w.npt < 64 then (s, { t with skipped := t.skipped + 1 })
  else
    let live := s.cal.live
    let delta := (calWord live.words 5 5).toNat
    let (num, den) := if w.nps < 64 then (((get0 live.floor e).toNat : Int), 16) else floorQuot w delta
    let sol := if w.npt < 64 then none else solveElement s e w (fixOfQuot num den)
    let g := match sol with
      | some p => p.1
      | none => phasePerLsb (get0 live.vpi e).toNat (rangeNarrow live.words e)
    let (c1, s) := if w.nps < 64 then (some t.set, s) else putFloor s t.set e w g
    let (c2, s) := match c1 with
      | none => (none, s)
      | some c => if w.npt < 64 then (some c, s) else putPilot s c e sol
    let t := { t with estimated := e :: t.estimated }
    match c2 with
    | some c => (s, { t with set := c })
    | none => (s, { t with rejected := e :: t.rejected })

/-- B of every element formed from its VPI, BETA and the set's DELTA (R196). -/
def reformTargets (c : CalSet) (delta : Nat) : CalSet :=
  let words := c.vpi.foldl (fun m p =>
    let w1 := calWord m 0 (4 * p.1 + 1)
    match targetB p.2.toNat (get0 c.beta p.1).toNat delta (bit w1 0) (bit w1 1) with
    | some t => calPut m 0 (4 * p.1 + 2) (joinHalves (BitVec.ofInt 16 t) 0)
    | none => m) c.words
  { c with words := words }

/-- A lane's gain from its pairs (R204), where it keeps its bounds; none is estimated in HOLD (R214). -/
def estimateGain (s : Engine) (words : Mem) (lane : Nat) : Mem :=
  let x := s.lps.toList.getD (lane / 16) LpState.reset
  let a := 0x3E80 + 8 * (lane % 16)
  let range := (x.xmGet (a + 5)).toNat
  let g := (calWord words 1 (8 * lane + range)).toNat
  let s11 : Int := (x.xmGet32 (a + 1)).toNat
  let s12 := (x.xmGet32 (a + 3)).toInt
  let num := -((g : Int) * (x.coeff 1).toInt * s11)
  let den := 32768 * (s11 - s12)
  if s.mode = .hold ∨ (x.xmGet a).toNat < 32 ∨ den ≤ 0 then words
  else
    let g' := (roundHalfUp num den.toNat).toNat
    if gainOk g' && within g g' 150 then calPut words 1 (8 * lane + range) (word g') else words

/-- A plane's PI and MON_REF from its mean monitor sum, where each keeps its bounds. -/
def estimatePlane (s : Engine) (words : Mem) (p : Nat) : Mem :=
  let ref := monRef words p
  let mon := ((s.lp 32).xmGet32 (0x3F02 + 2 * p)).toNat
  if ref = 0 then words
  else
    let n := s.variant.ports
    let words := (List.range n).foldl (fun m i =>
      let w := calWord m 2 (p * n + i)
      let v := (roundHalfUp ((fld w 0 16 : Nat) * mon : Int) ref).toNat
      if piOk v && within (fld w 0 16) v 100 then calPut m 2 (p * n + i) (putFld w 0 16 v) else m) words
    if within ref mon 100 then
      calPut (calPut words 5 (1 + 2 * p) (word (mon % 65536))) 5 (2 + 2 * p) (word (mon / 65536)) else words

/-- A temperature in 1/16 °C of a rational, rounded as a free value has it. -/
def freeTemp (q : Rat) (s : Engine) : Int × Engine := freeQuot (q * 16).num (q * 16).den s

/-- T_CAL and the age of the regions in a mask set from the window's means. -/
def stampRegions (mask : Nat) (t : CalSet) (s : Engine) : CalSet × Engine :=
  (List.range 8).foldl (fun (acc : CalSet × Engine) r =>
    if mask.testBit r then
      let (sum, n) := acc.2.cal.tempSum.getD r (0, 0)
      let acc := (acc.1, { acc.2 with cal.estimatedAt := listSet acc.2.cal.estimatedAt r acc.2.elapsed })
      if n = 0 then acc
      else
        let (v, s) := freeTemp (sum / n) acc.2
        ({ acc.1 with tcal := put0 acc.1.tcal r (word (twos 16 v)) }, s)
    else acc) (t, s)

/-- Rejection runs of the elements estimated, and the elements that freeze (R207). -/
def freezeElements (estimated rejected : List Nat) (s : Engine) : Engine :=
  let after := s.rfld Reg.calLimits 8 4
  estimated.foldl (fun s e =>
    if rejected.contains e then
      let n := (get0 s.cal.rejRun e).toNat + 1
      let s := { s with cal.rejRun := put0 s.cal.rejRun e (word n) }
      if after ≠ 0 ∧ after ≤ n ∧ s.cal.frozen.contains e = false then
        (setFstale e true { s with cal.frozen := insertNat e s.cal.frozen }).raise 59 e
      else s
    else { s with cal.rejRun := put0 s.cal.rejRun e 0 }) s

/-- The firmware's computation: a set is applied, or the whole round is rejected. -/
def calCompute (s : Engine) : Engine :=
  s.onlyIf (s.calModes && calPhase s == 2 && !s.cal.copying) fun s =>
    let act := calActive s
    let members := (allElements s).filter fun e => act.testBit (regionOf s.variant e)
    let (s, t) := members.foldl tallyElement (s, { set := s.cal.live, estimated := [], rejected := [], skipped := 0 })
    let s := freezeElements t.estimated.reverse t.rejected s
    let nEst := t.estimated.length
    let nRej := t.rejected.length
    let s := s.setReg Reg.calEstimated (putFld (putFld 0 0 16 nEst) 16 16 t.skipped)
    let s := s.putRfld Reg.calRejected 0 16 nRej
    if s.rfld Reg.calLimits 0 8 * nEst < 1000 * nRej then
      let s := (s.putRbit Reg.calStat 5 true).putRfld Reg.calStat 28 4 5
      let s := postCalResult (s.putRfld Reg.calStat 16 8 0) 1 act
      { s with cal.phase := 0, cal.windowOpen := false, cal.tempSum := [] }.raise 58 0
    else
      let delta := s.rfld Reg.drvProbe 0 8
      let words := (List.range 512).foldl (estimateGain s) (reformTargets t.set delta).words
      let words := (List.range 2).foldl (estimatePlane s) words
      let words := calPut words 5 5 (word delta)
      let (set, s) := stampRegions act { t.set with words := words } s
      requestApply (writeSet set { s with cal.phase := 3 })

/-! ### Full calibration (R208 to R211) -/

/-- Whether every input tap's latest result lies below 1.0 µW. -/
def dark (s : Engine) : Bool :=
  (List.range (2 * s.variant.ports)).all fun m =>
    let w := get0 s.sns.results (resultAddr (512 + m / 64) (m % 64) 0)
    let p : Rat := (halfPicoamps w : Rat) / 2000000 * ((fld (calWord s.cal.live.words 2 m) 16 16 : Rat) / 256)
    decide (p < 1)

/-- The elements that round r sweeps, and those it forces STALE: their cell-mates and every element of the stages after. -/
def sweptIn (v : Variant) (r : Nat) : List Nat :=
  let stage := r / 4
  (List.range 2).flatMap fun p => (List.range v.cellsPerStage).map fun c =>
    4 * (p * v.planeCells + stage * v.cellsPerStage + c) + r % 4

def heldIn (v : Variant) (r : Nat) : List Nat :=
  (List.range v.elements).filter fun e =>
    decide (r / 4 < stageOf v e) || (decide (stageOf v e = r / 4) && decide (e % 4 ≠ r % 4))

/-- The record of the standard sweep for an element: START and STEP, each rounded as a free value has it (R209). -/
def sweepWords (e : Nat) (s : Engine) : (Int × Int) × Engine :=
  let vpi := (get0 s.cal.live.vpi e).toNat
  let beta := (get0 s.cal.live.beta e).toNat
  let den := (if rangeNarrow s.cal.live.words e then 30000 else 60000) * beta
  let (a, s) := freeQuot (-((vpi : Int) * 2 ^ 30)) (4 * den) s
  let (d, s) := freeQuot (3 * (vpi : Int) * 2 ^ 30) (254 * den) s
  ((a, d), s)

/-- The sweep records of some elements written to the shadow set, each list ended. -/
def writeSweeps (es : List Nat) (s : Engine) : Engine :=
  let put (s : Engine) (k r i : Nat) (w : Word) : Engine := shadowWrite s (calKey 4 (1024 * k + 4 * r + i)) w
  let one (acc : Engine × List Nat) (e : Nat) : Engine × List Nat :=
    match laneSlotOf acc.1 e with
    | none => acc
    | some (l, slot) =>
      let k := l / 16
      let r := acc.2.getD k 0
      let ((a, d), s) := sweepWords e acc.1
      let s := put (put (put (put s k r 0 (word (68 * (l % 16) + slot))) k r 1 (word (twos 16 a))) k r 2 (word (twos 16 d))) k r 3 128
      (s, listSet acc.2 k (r + 1))
  let (s, counts) := es.foldl one (s, List.replicate 32 0)
  (List.range 32).foldl (fun s k => if counts.getD k 0 < 256 then put s k (counts.getD k 0) 0 0x7FF else s) s

/-- Forced STALE moved from one round's elements to the next one's; frozen elements stay. -/
def moveFstale (old new : List Nat) (s : Engine) : Engine :=
  let s := (old.filter fun e => !new.contains e && !s.cal.frozen.contains e).foldl (fun s e => setFstale e false s) s
  new.foldl (fun s e => setFstale e true s) s

/-- Round r of full calibration set up. -/
def startFullRound (r : Nat) (s : Engine) : Engine :=
  let old := if r = 0 then [] else heldIn s.variant (r - 1)
  let s := moveFstale old (heldIn s.variant r) (writeSweeps (sweptIn s.variant r) s)
  requestApply { s with cal.fullRound := r, cal.points := [], cal.fullFrom := s.tick }

/-- Why CAL_CMD with OP = FULL is refused: MODE or LIGHT. -/
def fullRefusal (s : Engine) : Option Nat := if s.mode ≠ .calibrate then some 1 else if !dark s then some 2 else none

/-- CAL_CMD with OP = FULL. -/
def askFull (s : Engine) : Engine :=
  match fullRefusal s with
  | some reason => (s.putRbit Reg.calStat 7 true).putRfld Reg.calStat 28 4 reason
  | none =>
    if s.cal.phase = 4 then beginAsks true s
    else
      let s := beginAsks true (abandonRound s)
      startFullRound 0 { s with cal.phase := 4, cal.fitSet := s.cal.live, cal.fits := [] }

def calFull (b : Bus) (s : Engine) : Engine := s.access b askFull

/-- The full calibration ends without its fold: the swept and held elements are released. -/
def failFull (s : Engine) : Engine :=
  let s := moveFstale (heldIn s.variant s.cal.fullRound) [] (writeSweeps [] s)
  postCalResult (requestApply (s.putRbit Reg.calStat 6 true)) 4 0

/-- A write of CAL_CTL.ABORT, or a mode that ends what runs. -/
def abandonAll (s : Engine) : Engine :=
  if s.cal.phase = 4 then
    if s.cal.fold = .none then failFull { s with cal.phase := 0 } else cancelFold (s.putRbit Reg.calStat 6 true)
  else abandonRound s

def calAbort (b : Bus) (s : Engine) : Engine := s.access b abandonAll

/-- The tables that a fit gives (R210), from x₀ in each range: range NARROW where both fit in it with the limits to spare, the TURN
branch by the bound, and none where neither side meets it. -/
def fitTables (inNarrow inWide : Int) (vpi : Nat) (limS limT : Int) : Option (Int × Int × Bool × Bool) :=
  let side (narrow : Bool) : Option (Int × Int × Bool × Bool) :=
    let ts := if narrow then inNarrow else inWide
    let d := vpiLsb vpi narrow
    if ((ts + d).natAbs : Int) + limT ≤ 32767 then some (ts, ts + d, narrow, false)
    else if ((ts - d).natAbs : Int) + limT ≤ 32767 then some (ts, ts - d, narrow, true)
    else none
  match side true with
  | some r => if (r.1.natAbs : Int) + limS ≤ 32767 then some r else side false
  | none => side false

/-- The code of a current in 2^−96 of a code of range 5, at a range (R113). -/
def codeOf (range : Nat) (v : Int) (s : Engine) : Nat × Engine :=
  let (c, s) := freeQuot v (fixOne.toNat * 10 ^ (5 - range)) s
  ((clampInt 0 4095 (64 + c)).toNat, s)

/-- The entry that R210 sets: EN = 1, the lane's range, LOW = 56 and HIGH at the code of F + A·sin²(10°). -/
def fitLeash (range : Nat) (q : SweepFit) (s : Engine) : Word × Engine :=
  let sin10 := fixSin (fixPi / 18)
  let (high, s) := codeOf range (q.f + fixMul q.a (fixMul sin10 sin10)) s
  (putFld (putFld (putFld (putBit 0 31 true) 28 3 range) 12 12 high) 0 12 56, s)

/-- The fit of an element's points, from its live values. -/
def fitOf (s : Engine) (e : Nat) : Option SweepFit :=
  let live := s.cal.live
  let g := phasePerLsb (get0 live.vpi e).toNat (rangeNarrow live.words e)
  let b := fixOfQuot ((get0 live.beta e).toNat : Int) 32768
  fitSweep ((s.cal.points.filter fun p => p.1 == e).map fun p => (p.2.1, p.2.2 * fixOne / 2))
    ((tableWord live.words e false).toInt * fixOne) (fixMul b g) g

/-- FLOOR from F ÷ A (DEDUCED, log 96: in the units of R204, the fringe A standing for 1 ÷ (sin a · g)). -/
def fitFloor (q : SweepFit) (g : Int) (delta : Nat) (s : Engine) : Half × Engine :=
  freeCoeff (16 * q.f * fixOne) (fixMul q.a (fixMul g (fixSin ((delta : Int) * g)))).toNat s

/-- A fit put into the set being formed; a rejected element keeps its live values. -/
def putFit (s : Engine) (c : CalSet) (e : Nat) (q : SweepFit) : Option CalSet × Engine :=
  let was := bit (calWord c.words 0 (4 * e + 1)) 0
  let beta := (get0 s.cal.live.beta e).toNat
  let delta := s.rfld Reg.drvProbe 0 8
  let (limS, limT) := (limitFor s e false, limitFor s e true)
  let (vpi, s) := freeBounded (fixPi * ((beta * lsbUnits was : Nat) : Int)) (q.w.toNat * 2 ^ 30) s
  let x2 : Int := q.x0 * (if was then 1 else 2)
  let (inNarrow, s) := freeQuot x2 (2 ^ 96) s
  let (inWide, s) := freeQuot x2 (2 ^ 97) s
  match fitTables inNarrow inWide vpi limS limT with
  | none => (none, s)
  | some (ts, tt, narrow, branch) =>
    match targetB vpi beta delta narrow branch with
    | none => (none, s)
    | some t =>
      let (floor, s) := fitFloor q (phasePerLsb vpi narrow) delta s
      let w0 := joinHalves (BitVec.ofInt 16 tt) (BitVec.ofInt 16 ts)
      let w1 := putBit (putBit (calWord c.words 0 (4 * e + 1)) 0 narrow) 1 branch
      let w2 := joinHalves (BitVec.ofInt 16 t) 0
      if !vpiOk vpi || !elementOk w0 w1 w2 limS limT ||
          lowExtinction floor.toNat 16 delta (phasePerLsb vpi narrow) || decide (7500 < t.natAbs) then (none, s)
      else
        let words := calPut (calPut (calPut c.words 0 (4 * e) w0) 0 (4 * e + 1) w1) 0 (4 * e + 2) w2
        let (words, s) := match laneSlotOf s e with
          | some (l, slot) =>
            let (w, s) := fitLeash (s.sns.lanes.toList.getD l Lane.reset).range q s
            (calPut words 3 (72 * l + slot) w, s)
          | none => (words, s)
        (some { c with words := words, vpi := put0 c.vpi e (word vpi), floor := put0 c.floor e (word floor.toNat) }, s)

/-- An accepted element is frozen no longer (R207). -/
def thaw (e : Nat) (s : Engine) : Engine :=
  if s.cal.frozen.contains e then
    setFstale e false { s with cal.frozen := s.cal.frozen.filter (· != e), cal.rejRun := put0 s.cal.rejRun e 0 }
  else s

/-- A swept element fitted: its values go into the set being formed, and its amplitude is kept for its lane's gains. -/
def fitElement (s : Engine) (e : Nat) : Engine :=
  match fitOf s e with
  | none => s
  | some q =>
    match putFit s s.cal.fitSet e q with
    | (some c, s) => thaw e { s with cal.fitSet := c, cal.fits := (e, q.a) :: s.cal.fits }
    | (none, s) => s

/-- G of an element's lane at a range, in 2^−96 of its unit: the value that makes R174 exact for its amplitude with the pilot alone,
where Π × PT = 2²⁸ (DEDUCED, log 96, from R178, R179 and R204). -/
def gainValue (s : Engine) (c : CalSet) (range : Nat) (p : Nat × Int) : Int :=
  let e := p.1
  let g := phasePerLsb (get0 c.vpi e).toNat (rangeNarrow c.words e)
  let pi := fld (calWord c.words 2 (pathOf s e)) 0 16
  let a := p.2 / (10 ^ (5 - range) : Nat)
  fixDiv (2 * (pi : Int) * fixOne) (fixMul a (fixMul g (fixSin ((s.rfld Reg.drvProbe 0 8 : Int) * g))))

/-- The median of some values; of an even number the one below the middle or the one above it, as a free value has it. -/
def median (vs : List Int) (s : Engine) : Int × Engine :=
  let sorted := vs.foldl (fun l v => insertInt v l) []
  let n := sorted.length
  if n % 2 = 1 then (sorted.getD (n / 2) 0, s)
  else (sorted.getD (if Config.freeRound s.freeCtr then n / 2 else n / 2 - 1) 0, { s with freeCtr := s.freeCtr + 1 })

/-- The gain of a lane and range: the median over its elements; a gain without elements or out of its bounds stays. -/
def putGain (acc : CalSet × Engine) (lane range : Nat) : CalSet × Engine :=
  let (c, s) := acc
  let own := s.cal.fits.filter fun p => match laneSlotOf s p.1 with
    | some (l, _) => l == lane
    | none => false
  if own.isEmpty then acc
  else
    let (v, s) := median (own.map (gainValue s c range)) s
    let (g, s) := freeBounded v fixOne.toNat s
    (if gainOk g then { c with words := calPut c.words 1 (8 * lane + range) (word g) } else c, s)

/-- PI of every plane input and MON_REF of a plane from the port monitors with the pilot alone; a PI out of its bounds stays. -/
def putPlane (acc : CalSet × Engine) (p : Nat) : CalSet × Engine :=
  let (c, s) := acc
  let n := s.variant.ports
  let monitors := (List.range n).map fun o =>
    let m := 2 * n + p * n + o
    get0 s.sns.results (resultAddr (512 + m / 64) (m % 64) 0)
  let words := (List.range n).foldl (fun m i =>
    let v := (Config.pilotFactor (p * n + i) monitors).toNat
    if piOk v then calPut m 2 (p * n + i) (putFld (calWord m 2 (p * n + i)) 0 16 v) else m) c.words
  let (sum, s) := freeQuot (planeSum s p) 2 s
  let ref := sum.toNat
  ({ c with words := calPut (calPut words 5 (1 + 2 * p) (word (ref % 65536))) 5 (2 + 2 * p) (word (ref / 65536 % 65536)) }, s)

/-- The whole-set part of the last round, and the header of the fold. -/
def closeSet (s : Engine) : CalSet × Engine :=
  let delta := s.rfld Reg.drvProbe 0 8
  let acc := (List.range 2).foldl putPlane (reformTargets s.cal.fitSet delta, s)
  let (c, s) := (List.range 512).foldl (fun acc l => (List.range 6).foldl (fun acc r => putGain acc l r) acc) acc
  ({ c with words := calPut (calPut c.words 5 5 (word delta)) 5 0 (putBit (calHeader s) 0 true) }, s)

/-- Every element's staged entry written with the new tables for its present state (R211). -/
def stageFold (c : CalSet) (s : Engine) : Engine :=
  (allElements s).foldl (fun s e =>
    if (laneSlotOf s e).isSome then builderWrite s e (entryFor c.words e (bit (get0 s.drv.active e) 16)) else s) s

/-- The last round done: the set is written with FOLD = 1 and its staged entries are verified for calibration's Whistle. -/
def beginFold (s : Engine) : Engine :=
  let (c, s) := closeSet (moveFstale (heldIn s.variant s.cal.fullRound) [] s)
  let (c, s) := (List.range 8).foldl (fun (acc : CalSet × Engine) r =>
    let (v, s) := freeTemp (acc.2.pwr.t.getD (r % 4) 0) acc.2
    ({ acc.1 with tcal := put0 acc.1.tcal r (word (twos 16 v)) },
      { s with cal.estimatedAt := listSet s.cal.estimatedAt r s.elapsed })) (c, s)
  let s := writeSweeps [] (stageFold c (writeSet c s))
  requestApply { s with cal.fold := .building, drv.loader := .verify s.tick, drv.lock := .held }

/-- A round of full calibration completes after its 130 sweeps, and is fitted. -/
def calFullRound (s : Engine) : Engine :=
  s.onlyIf (s.cal.phase == 4 && s.cal.fold == .none && !s.cal.copying && !s.rbit Reg.calCtl 1 &&
      decide (s.cal.fullFrom + 129 * 34000 ≤ s.tick)) fun s =>
    let s := (sweptIn s.variant s.cal.fullRound).foldl fitElement s
    if s.cal.fullRound + 1 < 4 * s.variant.stages then startFullRound (s.cal.fullRound + 1) s
    else if s.drv.loader = .idle ∧ s.stagedLocked = false then beginFold s
    else s

/-- Calibration's Whistle has fired: the command is done, and a following swap clears FOLD. -/
def endFold (s : Engine) : Engine :=
  let s := shadowWrite s (calKey 5 0) (putBit (calHeader s) 0 false)
  postCalResult (requestApply { s with cal.fold := .none, cal.phase := 0 }) 3 0

/-! ### A switchover (R213) -/

/-- The new active supervisor discards the shadow writes that are not applied, a request to apply them among them, and copies the live
set again. DESIGN CHOICE (log 95): what the firmware had asked for it asks for again: a round's header, a computation from the sums,
a round of full calibration; a fold that has not swapped is cancelled. -/
def recopyShadow (s : Engine) : Engine :=
  let asked := s.rbit Reg.calCtl 1
  let s := { s with cal.shadow.words := s.cal.live.words, cal.heldWrites := [], cal.copying := true, cal.copyFrom := s.tick }.putRbit Reg.calCtl 1 false
  if !asked then s
  else if s.cal.phase = 1 ∧ s.cal.windowOpen = false then
    requestApply (writeHeader (putFld (putFld 0 16 16 s.cal.round) 4 12 (max 256 (s.rfld Reg.calWin 0 12))) s)
  else if s.cal.phase = 3 then { s with cal.phase := 1 }
  else if s.cal.phase = 4 then
    if s.cal.fold = .building then cancelFold s else startFullRound s.cal.fullRound s
  else s

/-! ### The store (R212) -/

/-- The generation of a slot; a slot without a commit record counts as the lowest. -/
def slotGen (c : Option CommitRec) : Nat := match c with | some r => r.gen + 1 | none => 0

/-- Whether the MRAM controller is held in a block reset. -/
def Engine.nvmHeld (s : Engine) : Bool := s.flt.resets.any fun r => r.block == .nvm

/-- The slot of the next calibration store, the one of the lower generation (R212), or of equal ones the one not selected (R366); and its
GEN (R212, R367). -/
def calTarget (s : Engine) : Bool × Nat :=
  let a := slotGen s.nvm.cal.1.commit
  let b := slotGen s.nvm.cal.2.commit
  let first := (pickSlot s.nvm.cal.1.commit s.nvm.cal.2.commit (s.nvm.cal.1.set == s.nvm.cal.2.set)).map (·.1) == some false
  (decide (b < a ∨ (a = b ∧ first)), min 0xFFFFFFFE (s.cal.live.gen + 1))

/-- A set waits for its store, and MIN_INTERVAL has passed since the last one. -/
def calStoreDue (s : Engine) : Bool :=
  let due := match s.cal.lastStore with
    | none => true
    | some t => decide (t + s.rfld Reg.calStore 0 16 * 1000000000 * nsUnit ≤ s.elapsed)
  s.mode ≠ .reset && s.cal.storeSet.isSome && s.rbit Reg.calCtl 3 && due && !s.nvmHeld

/-- A waiting set is stored. -/
def calStore (s : Engine) : Engine :=
  match s.cal.storeSet with
  | none => s
  | some set =>
    s.onlyIf (calStoreDue s) fun s =>
      let (second, gen) := calTarget s
      let slot : CalSlot := { set := { set with gen := gen, time := s.nowSec }, commit := some (commitNow s gen) }
      let s := { s with nvm.cal := putSlot s.nvm.cal second slot, cal.live.gen := gen, cal.storeSet := none,
                        cal.lastStore := some s.elapsed }
      s.putRbit Reg.calStore 16 second

/-! ### Meanings -/

def execCalCopyComplete (s : State) : Host.Outcome State Fault Refusal := s.run calCopyComplete

def execCalAgeTrigger (r : Fin 8) (s : State) : Host.Outcome State Fault Refusal := s.run (calAgeTrigger r)

def execCalRoundStart (s : State) : Host.Outcome State Fault Refusal := s.run calRoundStart

def execCalCompute (s : State) : Host.Outcome State Fault Refusal := s.run calCompute

def execCalFullRound (s : State) : Host.Outcome State Fault Refusal := s.run calFullRound

def execCalStore (s : State) : Host.Outcome State Fault Refusal := s.run calStore

end Sys2Proof.Machine
end

