-- ==== Sys2Proof/Machine/Ledger.lean ====
section
/-! DEFINITION. The hold ledger: open records, the minute, the FIFO, the overflow accumulators and the ledger ring (R257 to R262). -/

namespace Sys2Proof.Machine

open Sys2Proof

/-- A minute of time, in units of 2^−48 ns. -/
def minuteUnits : Nat := 60 * 1000000000 * nsUnit

/-! ### Records (R257, R258) -/

/-- The record of a held connection closed at an elapsed counter time; its figure is truncated to whole nanoseconds, and its blinks saturate
in the 26 bits of an entry. -/
def Held.close (h : Held) (minute at_ : Nat) (ended step : Bool) : LedRec :=
  { tenant := h.tenant, input := h.input, output := h.output, minute := minute, ns := (at_ - h.since + h.carry) / nsUnit,
    blinks := min (2 ^ 26 - 1) h.blinks, start := h.start, ended := ended, step := h.step || step }

/-- The record that follows a closed one, with the discarded remainder. -/
def Held.reopen (h : Held) (at_ : Nat) (step : Bool) : Held :=
  { h with since := at_, carry := (at_ - h.since + h.carry) % nsUnit, blinks := 0, start := false, step := step }

/-- Held connections in ascending input order. -/
def heldInsert (h : Held) : List Held → List Held
  | [] => [h]
  | k :: l => if h.input < k.input then h :: k :: l else k :: heldInsert h l

/-- Closed records put in line for the FIFO; the first is pushed on the closing edge (R259). -/
def enqueueRecs (rs : List LedRec) (s : Engine) : Engine :=
  { s with led.pushFrom := if s.led.push.isEmpty then max s.led.pushFrom s.tick else s.led.pushFrom, led.push := s.led.push ++ rs }

/-- The ledger closes its open minute at an elapsed counter time and opens another: every held connection is snapshot, the event
MINUTE is emitted, and the firmware owes the minute its checkpoint (R377) and its notification (R338). -/
def closeMinute (next at_ : Nat) (step : Bool) (s : Engine) : Engine :=
  let rs := s.led.held.map fun h => h.close s.led.minute at_ false step
  let tenants := (s.led.held.map (·.tenant)).foldl (fun l t => insertNat t l) []
  let s := enqueueRecs rs { s with fw.ckptDue := some (s.led.minute, tenants), fw.ledgerDue := true }
  { s with led.held := s.led.held.map fun (h : Held) => h.reopen at_ step, led.minute := next }.emit 0xA9

/-- The minute boundary, on the first edge at or after it; time is split at its exact instant. -/
def minuteBoundary (s : Engine) : Engine :=
  let bound := (s.led.minute + 1) * minuteUnits
  s.onlyIf (s.mode ≠ .reset && decide (bound ≤ s.time)) fun s =>
    closeMinute (s.led.minute + 1) (s.elapsed - (s.time - bound)) false s

/-- After a step on this edge: open records carry STEP; a step over minute boundaries closes the open minute on its edge (R257). -/
def ledgerStep (s : Engine) : Engine :=
  let mark (h : Held) : Held := { h with step := true }
  let s := { s with led.held := s.led.held.map mark }
  let minute := s.time / minuteUnits
  if s.led.minute < minute then closeMinute minute s.elapsed true s else s

/-- The last elapsed counter time at which a record's figure is at most 2^36 − 1. -/
def Held.limit (h : Held) : Nat := h.since + 2 ^ 36 * nsUnit - 1 - h.carry

/-- A record that would pass 2^36 − 1 ns is closed with the figure reached, and goes on in another of its minute. -/
def ledgerRecordSplit (s : Engine) : Engine :=
  s.unlessReset fun s =>
    let split := s.led.held.filter fun h => h.limit < s.elapsed
    let cut (h : Held) : Nat := min h.limit (s.elapsed - s.increment)
    let go (h : Held) : Held := if h.limit < s.elapsed then h.reopen (cut h) true else h
    let s := enqueueRecs (split.map fun h => h.close s.led.minute (cut h) false false) s
    { s with led.held := s.led.held.map go }

/-- What a Whistle does to the ledger (R257): connections that it ends are closed at its stamp, those in its blink set blink, and
those that it makes are held from it. `blinked`: inputs of the blink set. -/
def ledgerWhistle (old new : Mem) (ports : Nat) (blinked : List Nat) (conn : Word → Option (Nat × Nat)) (s : Engine) : Engine :=
  let key (m : Mem) (i : Nat) : Option (Nat × Nat) := conn (get0 m i)
  let ended := s.led.held.filter fun h => key new h.input != some (h.tenant, h.output)
  let blink (h : Held) : Held := if blinked.contains h.input then { h with blinks := h.blinks + 1 } else h
  let kept := (s.led.held.filter fun h => key new h.input == some (h.tenant, h.output)).map blink
  let made := (List.range ports).filterMap fun i =>
    match key new i with
    | some (t, o) =>
      if key old i = some (t, o) then none
      else some { tenant := t, input := i, output := o, since := s.elapsed, carry := 0,
                  blinks := (if blinked.contains i then 1 else 0), start := true, step := false }
    | none => none
  let s := enqueueRecs (ended.map fun h => h.close s.led.minute s.elapsed true false) s
  { s with led.held := made.foldl (fun l h => heldInsert h l) kept }

/-- Every held connection ends on the present edge: at the Kennel Whistle (R256, R257), or, where the second mismatch of a
Kennel tile leaves no Kennel Whistle to end them, with the light they had. DESIGN CHOICE for the latter. -/
def endHeld (s : Engine) : Engine :=
  { enqueueRecs (s.led.held.map fun h => h.close s.led.minute s.elapsed true false) s with led.held := [] }

/-! ### FIFO and accumulators (R259, R260) -/

/-- A record folded into its tenant's accumulator. -/
def foldRec (r : LedRec) (s : Engine) : Engine :=
  let t : Fin 64 := ⟨r.tenant % 64, Nat.mod_lt _ (by omega)⟩
  match s.led.acc[t] with
  | some a =>
    let a' : Acc := { ns := (a.ns + r.ns) % 2 ^ 64, blinks := min (2 ^ 32 - 1) (a.blinks + r.blinks),
                      first := min a.first r.minute, last := max a.last r.minute }
    { s with led.acc := s.led.acc.set t (some a') }
  | none =>
    let a' : Acc := { ns := r.ns, blinks := min (2 ^ 32 - 1) r.blinks, first := r.minute, last := r.minute }
    ({ s with led.acc := s.led.acc.set t (some a'), fw.ledgerDue := true }.putRbit Reg.timLedStat 16 true).raise 82 t.val

/-- One closed record pushed, one per TICK. -/
def ledgerFifoPush (s : Engine) : Engine :=
  match s.led.push with
  | [] => s
  | r :: rest =>
    s.onlyIf (s.mode ≠ .reset && decide (s.led.pushFrom ≤ s.tick)) fun s =>
      let s := { s with led.push := rest, led.pushFrom := s.tick + 1 }
      if s.led.fifo.length < 4096 then { s with led.fifo := s.led.fifo ++ [r] } else foldRec r s

/-- The five words of an entry. -/
def LedRec.words (r : LedRec) : List Word :=
  let w0 := putFld (putFld (putFld (word 0) 0 9 r.output) 9 9 r.input) 18 6 r.tenant
  [putBit (putBit (putBit w0 27 r.start) 28 r.ended) 29 r.step, word r.minute, word (r.minute / 2 ^ 32 % 2 ^ 16), word r.ns,
   putFld (word (r.ns / 2 ^ 32 % 16)) 6 26 r.blinks]

/-- An accumulator moved into HOLD0 to HOLD6 and cleared at its place (R260). -/
def takeAcc (t : Fin 64) (s : Engine) : Engine :=
  let a := (s.led.acc[t]).getD { ns := 0, blinks := 0, first := 0, last := 0 }
  let hi16 (n : Nat) : Word := word (n / 2 ^ 32 % 2 ^ 16)
  { s with led.acc := s.led.acc.set t none }.setRegs [
    (Reg.timLedHold 0, word a.first), (Reg.timLedHold 1, hi16 a.first), (Reg.timLedHold 2, word a.last),
    (Reg.timLedHold 3, hi16 a.last), (Reg.timLedHold 4, word a.ns), (Reg.timLedHold 5, word (a.ns / 2 ^ 32)),
    (Reg.timLedHold 6, word a.blinks)]

/-- A write of TIM_LED_TAKE. -/
def ledgerTake (b : Bus) (t : Fin 64) (s : Engine) : Engine := s.access b (takeAcc t)

/-! ### The ledger ring (R261, R262) -/

/-- A ring record written into a member's SRAM: 65,536 records of 32 bytes from 0x1000_0000 on (R301). -/
def storeRecord (seq : Nat) (ws : List Word) (s : Engine) (b : Bool) : Engine :=
  let x := s.member b
  s.setMember b { x with sram := memWrites zeroWord x.sram (ws.mapIdx fun i w => (0x10000000 + 32 * (seq % 65536) + 4 * i, w)) }

/-- The ACTIVE member writes it, and the follower of a rehearsal its own (R301, R318). -/
def ringStore (seq : Nat) (ws : List Word) (s : Engine) : Engine :=
  ([false, true].filter fun b => s.role b == .active || (s.pak.overlap && s.role b == .standby)).foldl (storeRecord seq ws) s

/-- A ring record completed with its sequence number and its check, and put at the end of the ring. -/
def ringAdd (w0 w1 w2 w3 w4 w5 : Word) (s : Engine) : Engine :=
  let ws := [w0, w1, w2, w3, w4, w5, word s.fw.ringNext]
  let rec_ := ws ++ [crc32c ws]
  ringStore s.fw.ringNext rec_ { s with fw.ring := s.fw.ring ++ [rec_], fw.ringNext := (s.fw.ringNext + 1) % 2 ^ 32 }

def ringFull (s : Engine) : Bool := decide (65536 ≤ s.fw.ring.length)

/-- A FIFO entry as a ring record. -/
def ringEntry (r : LedRec) (s : Engine) : Engine :=
  let w0 := r.words.getD 0 0
  ringAdd w0 (word r.minute) (word (r.minute / 2 ^ 32 % 2 ^ 16)) (word r.ns) (word (r.ns / 2 ^ 32)) (word r.blinks) s

/-- An accumulator as a ring record with OVF. -/
def ringOverflow (t : Nat) (a : Acc) (s : Engine) : Engine :=
  ringAdd (putFld (putBit 0 30 true) 18 6 t) (word a.first)
    (putFld (word (a.first / 2 ^ 32 % 2 ^ 16)) 16 16 (min 65535 (a.last - a.first))) (word a.ns) (word (a.ns / 2 ^ 32))
    (word a.blinks) s

/-- The GAP record of a tenant that held a connection at the last checkpoint (R261, R377). -/
def ringGap (t minute span : Nat) (s : Engine) : Engine :=
  ringAdd (putFld (putBit 0 31 true) 18 6 t) (word minute)
    (putFld (word (minute / 2 ^ 32 % 2 ^ 16)) 16 16 (min 65535 span)) 0 0 0 s

/-- FIFO entries moved while the ring has room. -/
def drainFifo : Nat → Engine → Engine
  | 0, s => s
  | n + 1, s =>
    match s.led.fifo with
    | [] => s
    | r :: rest => if ringFull s then s else drainFifo n (ringEntry r ({ s with led.fifo := rest }.logFirmware 5))

/-- An accumulator that is not empty moved once the FIFO is. -/
def drainAcc (s : Engine) (t : Fin 64) : Engine :=
  match s.led.acc[t] with
  | some a => if ringFull s || !s.led.fifo.isEmpty then s else ringOverflow t.val a (takeAcc t (s.logFirmware 8))
  | none => s

/-- The firmware of the ACTIVE member drains the FIFO, then the accumulators. -/
def ledgerDrain (s : Engine) : Engine :=
  s.onlyIf (s.mode ≠ .reset && s.activeMember.isSome) fun s =>
    (List.finRange 64).foldl drainAcc (drainFifo s.led.fifo.length s)

/-- Records acknowledged up to a sequence number; none: it names no record yet written (R261). -/
def ringAck (seq : Nat) (s : Engine) : Option Engine :=
  let n := s.fw.ring.length
  let o := (s.fw.ringNext + 2 ^ 32 - n) % 2 ^ 32
  let k := (seq + 2 ^ 32 - o) % 2 ^ 32
  let w := (s.fw.ringNext + 2 ^ 32 - 1) % 2 ^ 32
  if k < n then some { s with fw.ring := s.fw.ring.drop (k + 1) }
  else if (w + 2 ^ 32 - seq) % 2 ^ 32 < 2 ^ 31 then some s
  else none

/-! ### Meanings -/

def execMinuteBoundary (s : State) : Host.Outcome State Fault Refusal := s.run minuteBoundary

def execLedgerRecordSplit (s : State) : Host.Outcome State Fault Refusal := s.run ledgerRecordSplit

def execLedgerFifoPush (s : State) : Host.Outcome State Fault Refusal := s.run ledgerFifoPush

end Sys2Proof.Machine
end

