-- ==== Sys2Proof/Machine/Pilot.lean ====
section
/-! DEFINITION. The pilot laser's state and its monitor (R49 to R51). -/

namespace Sys2Proof.Machine

open Sys2Proof

/-- SYS_PILOT_STAT.POWER: the laser's own monitor, 10 µW per LSB (R51). No row gives its reading every 10 µs: POWER follows the
readings that the pilot's rows carry, and reads 0 while the laser is off (DESIGN CHOICE, log 93). -/
def setPilotPower (p : Fin 4096) (s : Engine) : Engine := s.putRfld Reg.sysPilotStat 16 12 p.val

/-- Enabling and disabling the pilot; disabled, ON, LOW and POWER read 0 (R49 to R51). -/
def enablePilot (s : Engine) : Engine := { s with sys.pilotOn := true }

def disablePilot (s : Engine) : Engine :=
  setPilotPower 0 (({ s with sys.pilotOn := false }.putRbit Reg.sysPilotStat 0 false).putRbit Reg.sysPilotStat 2 false)

/-- The laser's set power, of the structure image in use (R48). -/
def Engine.pilotSet (s : Engine) : Nat :=
  match s.nvm.image with
  | some img => img.pilotPower
  | none => 0

/-- The last step of leaving thermal shutdown: SHUTDOWN and COOLED clear (R298). -/
def endShutdown (s : Engine) : Engine :=
  if s.pwr.recovering then
    let s := { s with pwr.shutdown := false, pwr.cooled := false, pwr.cooledAt := none, pwr.recovering := false }
    (s.putRbit Reg.thmStat 7 false).putRbit Reg.thmStat 8 false
  else s

/-- Leaving thermal shutdown, the Kennel image is applied once the pilot is on; after DRV_KENNEL_FAIL no Kennel Whistle fires
(R105, R298). -/
def reapplyKennel (s : Engine) : Engine :=
  if !s.pwr.recovering then s
  else if s.drv.clampHeld then endShutdown s
  else if s.drv.loader = .idle then { s with drv.loader := .kennel false false s.tick }
  else s

/-- The enabled laser's monitor reads p: ON is set once it has reached 90 % of set power (R49). -/
def pilotReached (p : Fin 4096) (s : Engine) : Engine :=
  s.onlyIf (s.mode ≠ .reset && s.sys.pilotOn) fun s =>
    let s := setPilotPower p s
    if 9 * s.pilotSet ≤ 10 * p.val then reapplyKennel (s.putRbit Reg.sysPilotStat 0 true) else s

/-- The monitor has read p for 100 µs while the pilot is meant to be on: LOW where that is below 50 % of set power (R50). -/
def pilotLow (p : Fin 4096) (s : Engine) : Engine :=
  s.onlyIf (s.mode ≠ .reset && s.sys.pilotOn) fun s =>
    let s := setPilotPower p s
    if 2 * p.val < s.pilotSet ∧ s.rbit Reg.sysPilotStat 2 = false then
      ((s.putRbit Reg.sysPilotStat 2 true).putRbit Reg.sysPilotStat 3 true).raise 2 0
    else s

/-- The monitor has read p for 100 µs while LOW is 1: LOW clears where that is at or above 50 % of set power (R50). -/
def pilotLowClear (p : Fin 4096) (s : Engine) : Engine :=
  s.onlyIf (s.mode ≠ .reset && s.rbit Reg.sysPilotStat 2) fun s =>
    let s := setPilotPower p s
    if s.pilotSet ≤ 2 * p.val then s.putRbit Reg.sysPilotStat 2 false else s

def execPilotOn (p : Fin 4096) (s : State) : Host.Outcome State Fault Refusal := s.run (pilotReached p)

def execPilotLow (p : Fin 4096) (s : State) : Host.Outcome State Fault Refusal := s.run (pilotLow p)

def execPilotLowClear (p : Fin 4096) (s : State) : Host.Outcome State Fault Refusal := s.run (pilotLowClear p)

end Sys2Proof.Machine
end

