-- ==== Sys2Proof/Machine/Route.lean ====
section
/-! DEFINITION. The route engine's commands, its computation and the setpoint build (chapter 03, R232). -/

namespace Sys2Proof.Machine

open Sys2Proof

/-! ### Acceptance and validation (R71 to R73, R77) -/

def opOfCode (op : Nat) : Option RouteOp :=
  if op = 1 then some .add else if op = 2 then some .remove else if op = 3 then some .permute
  else if op = 4 then some .pin else if op = 5 then some .unpin else none

def reqInput (r : SchReq) : Nat := fld r.cmd 8 9
def reqOutput (r : SchReq) : Nat := fld r.cmd 17 9
def reqTenant (r : SchReq) : Nat := fld r.cmd 26 6

/-- Inputs of a map that carry connections. -/
def connInputs (v : Variant) (m : Mem) : List Nat := (List.range v.ports).filter fun i => mapConn (get0 m i)

/-- Whether no entry occurs twice. -/
def distinct : List Nat → Bool
  | [] => true
  | x :: l => !l.contains x && distinct l

/-- The first validation of R71 that fails, as its status. -/
def validate (s : Engine) (op : RouteOp) (r : SchReq) : Option Nat :=
  let v := s.variant
  let base := s.rte.base
  let i := reqInput r
  let o := reqOutput r
  let w := get0 base i
  match op with
  | .add =>
    if v.ports ≤ i ∨ v.ports ≤ o then some 0xA
    else if mapConn w || (connInputs v base).any (fun k => mapOut (get0 base k) == o) then some 2 else none
  | .remove =>
    if v.ports ≤ i ∨ v.ports ≤ o then some 0xA
    else if !(mapConn w && mapOut w == o) then some 3
    else if mapPinned w then some 1 else none
  | .permute =>
    let conns := connInputs v s.rte.target
    let outs := conns.map fun k => mapOut (get0 s.rte.target k)
    if !distinct outs then some 4
    else if outs.any (fun x => decide (v.ports ≤ x)) then some 4
    else if (connInputs v base).any (fun k =>
        let b := get0 base k
        let t := get0 s.rte.target k
        mapPinned b && !(mapConn t && mapOut t == mapOut b && mapTenant t == mapTenant b)) then some 1
    else none
  | .pin =>
    if v.ports ≤ i ∨ v.ports ≤ o then some 0xA
    else if !(mapConn w && mapOut w == o) then some 3 else none
  | .unpin => if v.ports ≤ i then some 0xA else none

/-- The issued request ends with a route status and nothing to build (R222, R236). -/
def endIssued (s : Engine) (status : Nat) : Engine :=
  match s.sch.issued with
  | none => s
  | some i =>
    reportIssued { s with sch.issued := none } (if status = 0 then 2 else 5) status i

/-- A request that ends at once with a status (R71): its result is ready. -/
def endAtOnce (s : Engine) (status seq : Nat) : Engine := endIssued (postEmpty s status seq 0) status

/-- PIN and UNPIN act on the base map, and on the current map wherever the connection is already in it (R67, R74). -/
def setPin (s : Engine) (i : Nat) (on : Bool) : Engine :=
  let b := get0 s.rte.base i
  let c := get0 s.rte.cur i
  let same := mapConn c && mapConn b && mapOut c == mapOut b && mapTenant c == mapTenant b
  let b' := if mapConn b then putBit b 30 on else b
  let c' := if same then putBit c 30 on else c
  { s with rte.base := put0 s.rte.base i b', rte.cur := put0 s.rte.cur i c' }

/-- Whether a command is a duplicate (R73). -/
def routeDuplicate (s : Engine) (seq : Nat) : Bool :=
  s.rte.accepted && decide (seq ≤ (s.reg Reg.rteLastSeqHi).toNat * 2 ^ 32 + (s.reg Reg.rteLastSeqLo).toNat)

def Engine.routeBusy (s : Engine) : Bool := s.rte.job.isSome || s.rte.held.isSome

/-- A command at the route engine's command interface (R71 to R73, R77). -/
def routeCommand (r : SchReq) (s : Engine) : Engine :=
  if routeDuplicate s r.seq then s.putRbit Reg.rteStat 3 true
  else if s.routeBusy then s.putRbit Reg.rteStat 4 true
  else
    let s := s.setRegs [(Reg.rteLastSeqLo, word r.seq), (Reg.rteLastSeqHi, word (r.seq / 2 ^ 32))]
    let s := s.putRbit Reg.rteResult 31 false
    let s := { s with rte.accepted := true, sch.issued := some { req := r, cost := 0, done := false } }
    if s.mode ≠ .hold ∧ s.mode ≠ .run then endAtOnce s 5 r.seq
    else match opOfCode r.op with
      | none => endAtOnce s 6 r.seq
      | some op =>
        match validate s op r with
        | some status => endAtOnce s status r.seq
        | none =>
          match op with
          | .pin => endAtOnce (setPin s (reqInput r) true) 0 r.seq
          | .unpin => endAtOnce (setPin s (reqInput r) false) 0 r.seq
          | _ =>
            let job : RouteJob :=
              { op := op, input := reqInput r, output := reqOutput r, tenant := reqTenant r, seq := r.seq,
                target := s.rte.target, vrail := s.rfld Reg.rteVrail 0 16, words := s.cal.live.words, start := s.tick,
                aborted := false, cancelled := false }
            { s with rte.job := some job }

/-- The staging set of a member's sequence-guarded writes (R304). -/
def stageKey (m : Bool) (w : Nat) : Nat := (if m then 8 else 0) + w

/-- Access to a sequence-guarded port: also open to the follower of a rehearsal cycle (R303, R304). -/
def Engine.accessGuarded (s : Engine) (b : Bus) (f : Bool → Engine → Engine) : Engine :=
  match s.memberOf b with
  | none => s.access b id
  | some m => if s.mode ≠ .reset ∧ s.pak.overlap = true ∧ s.role m = .standby then f m s else s.access b (f m)

/-- A direct write of RTE_CMD with the sequence number its member has staged (R73, R221, R304): an operator request without a
deadline. -/
def directRoute (b : Bus) (cmd : Word) (s : Engine) : Engine :=
  s.accessGuarded b fun m s =>
    let seq := (get0 s.sch.stage (stageKey m 6)).toNat * 2 ^ 32 + (get0 s.sch.stage (stageKey m 5)).toNat
    routeCommand { cmd := cmd, requester := 64, seq := seq, deadline := none, submitted := s.tick, direct := true } s

/-- RTE_CMD (R80). -/
def routeWord (op input output tenant : Nat) : Word :=
  putFld (putFld (putFld (word (op % 16)) 8 9 input) 17 9 output) 26 6 tenant

/-! ### The computation (R63 to R70) -/

/-- The tenants of the connections wanted, by input. -/
def wantedTenants (s : Engine) (j : RouteJob) : List (Option Nat × Nat) :=
  (List.range s.variant.ports).map fun i =>
    let b := get0 s.rte.base i
    match j.op with
    | .permute => let t := get0 j.target i; (if mapConn t then some (mapOut t) else none, mapTenant t)
    | .add => if i = j.input then (some j.output, j.tenant) else (if mapConn b then some (mapOut b) else none, mapTenant b)
    | _ => if i = j.input then (none, 0) else (if mapConn b then some (mapOut b) else none, mapTenant b)

/-- The energy estimate of R70 in fJ. -/
def energyEstimate (v : Variant) (words : Mem) (vrail : Nat) (changed : List Nat) : Nat :=
  let term (e : Nat) : Nat :=
    capacitance words e * ((tableWord words e true).toInt - (tableWord words e false).toInt).natAbs *
      (if rangeNarrow words e then 6 else 12) * vrail
  let sum := (elementsOf v changed).foldl (fun acc e => acc + term e) 0
  (2 * sum + 65536000) / (2 * 65536000)

/-- One entry of RTE_BLINK (R68, R80). -/
def blinkWord (input : Nat) (old new : Word) : Word :=
  putBit (putBit (putFld (putFld (word (mapOut old)) 9 9 (mapOut new)) 18 9 input) 27 (mapConn old)) 28 (mapConn new)

/-- The result of a request in computation: its OK result, or none for PINNED_CONFLICT (R66). -/
def computeRoute (s : Engine) (j : RouteJob) : Option RouteResult :=
  let v := s.variant
  let n := v.logPorts
  let want := wantedTenants s j
  let perm := withIdleRoutes (want.map Prod.fst) (mapPerm v s.rte.base)
  let pins := (List.range v.ports).map fun i => mapPinned (get0 s.rte.base i)
  (routeAll n s.rte.cellsBase perm pins).map fun cells =>
    let changed := changedCells n s.rte.cellsBase cells
    let map := (List.range v.ports).foldl (fun (m : Mem) i =>
      let (o, t) := want.getD i (none, 0)
      put0 m i (mapWord (perm.getD i 0) (if o.isSome then some t else none) false)) []
    let map := withPins v s.rte.base map
    { seq := j.seq, op := j.op, map := map, cells := cells, changed := changed,
      blink := (blinkInputs n s.rte.cellsBase cells changed).map fun i => blinkWord i (get0 s.rte.base i) (get0 map i),
      energy := energyEstimate v j.words j.vrail changed }

/-- The cost of a result to its requester (R222). -/
def costOf (s : Engine) (r : SchReq) (cells : Nat) : Nat :=
  if r.requester < 64 then 2 * cells + s.rfld Reg.schCost 0 16 else 0

/-- An OK result: it waits for the builder, the base map is its map, and its tenant is charged (R62, R72, R74, R222). -/
def acceptResult (s : Engine) (r : RouteResult) (cycles : Nat) : Engine :=
  let s := { postResult s 0 r.changed.length r.blink.length r.seq r.energy cycles with
    rte.blink := r.blink, rte.changed := r.changed, rte.cellmap := r.cells,
    rte.base := r.map, rte.cellsBase := r.cells, rte.held := some r }
  match s.sch.issued with
  | none => s
  | some i =>
    let cost := costOf s i.req r.changed.length
    let s := { s with sch.issued := some { i with cost := cost, done := true } }
    if cost = 0 then s else charge s i.req.requester cost

/-- The request in computation completes (R74 to R76). DESIGN CHOICE (log 88): one that was both abandoned and left without its base
is reported BASE_CANCELLED. -/
def routeComplete (s : Engine) : Engine :=
  match s.rte.job with
  | none => s
  | some j =>
    let cycles := 4 * (s.tick - j.start)
    let s := { s with rte.job := none }
    if j.cancelled then endIssued (postEmpty s 8 j.seq cycles) 8
    else if j.aborted then endIssued (postEmpty s 7 j.seq cycles) 7
    else match computeRoute s j with
      | none => endIssued (postEmpty s 1 j.seq cycles) 1
      | some r => acceptResult s r cycles

/-- A write of RTE_CTL.ABORT = 1 (R76). -/
def routeAbort (b : Bus) (s : Engine) : Engine :=
  s.access b fun s => { s with rte.job := s.rte.job.map abortJob }

/-! ### The setpoint build (R22, R24, R37, R72, R232) -/

/-- Staged entries of some cells' elements written for a set of CROSS cells with the live tables. -/
def buildCells (s : Engine) (cells changed : List Nat) : Engine :=
  (elementsOf s.variant changed).foldl (fun s e =>
    builderWrite s e (entryFor s.cal.live.words e (cells.contains (cellOf s.variant e)))) s

/-- Whether the builder may take a result: the staged half is free and no commit is under way (R24, R72). -/
def Engine.builderFree (s : Engine) : Bool :=
  !s.stagedLocked && s.sch.commit.isNone && !s.drv.reseedDue && s.drv.loader == .idle && s.cal.fold == .none

/-- The builder takes the waiting result and writes its staged entries (R72). -/
def buildStart (s : Engine) : Engine :=
  match s.rte.held, s.sch.issued with
  | some h, some i =>
    s.onlyIf ((s.mode = .hold || s.mode = .run) && s.builderFree) fun s =>
      let s := settleLock s
      let s := { s with rte.held := none, sch.issued := none,
                        sch.commit := some { req := i.req, cost := i.cost, result := h, stage := .building } }
      buildCells s h.cells h.changed
  | _, _ => s

/-- The drive loader is asked to verify the commit: the lock of R22 begins (R86, R232). -/
def askVerify (s : Engine) : Engine :=
  match s.sch.commit with
  | none => s
  | some c => { s with sch.commit := some { c with stage := .verifying }, drv.loader := .verify s.tick, drv.lock := .held }

/-- The build completes (R232): in RUN the pass is asked for at once; in HOLD the commit waits, built. -/
def buildComplete (s : Engine) : Engine :=
  match s.sch.commit with
  | some c =>
    if c.stage = .building then
      if s.mode = .run then askVerify s else { s with sch.commit := some { c with stage := .built } }
    else s
  | none => s

/-! ### Meanings -/

def execRouteComplete (s : State) : Host.Outcome State Fault Refusal := s.run routeComplete

def execBuildStart (s : State) : Host.Outcome State Fault Refusal := s.run buildStart

def execBuildComplete (s : State) : Host.Outcome State Fault Refusal := s.run buildComplete

end Sys2Proof.Machine
end

