-- ==== Sys2Proof/Machine/Drive.lean ====
section
/-! DEFINITION. The drive array: verification, re-seed, scrub, what a strobe does to the cells, compliance detection and the
Kennel buffer (chapter 04). -/

namespace Sys2Proof.Machine

open Sys2Proof

/-! ### Verification (R86, R87) -/

/-- Locus of a tile (R350): tile, [8] BAD_HALF, [9] KENNEL. -/
def tileLocus (t : Nat) (activeHalf kennel : Bool) : Nat :=
  t + (if activeHalf then 256 else 0) + (if kennel then 512 else 0)

/-- A mismatching tile recorded in DRV_STAT.TILE_ERR and DRV_VERIFY and raised as SET_TILE_CRC. -/
def noteBadTile (s : Engine) (t : Nat) (activeHalf kennel : Bool) : Engine :=
  let s := s.putRbit Reg.drvStat 8 true
  s.setReg Reg.drvVerify (putBit (putBit (putFld 0 16 8 t) 15 activeHalf) 14 kennel)

def tileErr (s : Engine) (t : Nat) (activeHalf kennel : Bool) : Engine :=
  (noteBadTile s t activeHalf kennel).raise 64 (tileLocus t activeHalf kennel)

/-- Some tiles of the staged half transferred to the cells' staged registers. -/
def transferTiles (s : Engine) (ts : List Nat) : Engine :=
  { s with drv.cellStaged := ts.foldl (copyTile s.drv.staged) s.drv.cellStaged }

/-- The staged half is reported verified: a commit waits for its first decision, a fold for its Whistle. -/
def reportVerified (s : Engine) : Engine :=
  match s.sch.commit with
  | some c => { s with sch.commit := some { c with stage := .waiting s.tick false } }
  | none => s

/-- The pass ends (R86, R87). `flips` are upsets of the staged half since its checksums were formed. -/
def verifyComplete (flips : List (Nat × Word)) (s : Engine) : Engine :=
  match s.drv.loader with
  | .verify _ =>
    if s.drv.reseedDue then s
    else
      let s := { s with drv.staged := upset s.drv.staged flips, drv.loader := .idle }
      let ok (t : Nat) : Bool := tileCrc s.drv.staged t == get0 s.drv.crcStaged t
      let s' := transferTiles s (s.drv.dirty.filter ok)
      match s.drv.dirty.find? (fun t => !ok t) with
      | none => reportVerified s'
      | some t =>
        let s' := tileErr s' t false false
        if s.sch.commit.isSome then cancelCommit s' 6 0 else if s.cal.fold = .none then s' else cancelFold s'
  | _ => s

/-! ### Re-seed (R88) -/

/-- The re-seed starts: any pass under way has ended with the tiles its checkers were working on. -/
def reseed (s : Engine) : Engine :=
  s.onlyIf s.drv.reseedDue fun s => { s with drv.reseedDue := false, drv.loader := .reseed s.tick, drv.lock := .held }

def reseedComplete (s : Engine) : Engine :=
  match s.drv.loader with
  | .reseed _ => reseedAll s
  | _ => s

/-! ### Scrub (R89, R434) -/

/-- Next place of the scrub: area and tile. -/
def nextScrub (v : Variant) (area tile : Nat) : Nat × Nat :=
  if tile + 1 < v.tiles then (area, tile + 1) else ((area + 1) % 3, 0)

/-- A commit that is being built, or has been built and awaits its verification (R89). -/
def Engine.unverifiedCommit (s : Engine) : Bool :=
  match s.sch.commit with
  | some c => match c.stage with
    | .building => true
    | .built => true
    | .verifying => true
    | _ => false
  | none => false

/-- An area has no checksums yet: nothing has been written to it since reset. -/
def noChecksums (s : Engine) (area : Nat) : Bool :=
  (if area = 0 then s.drv.crcStaged else if area = 1 then s.drv.crcActive else s.drv.kennelCrc).isEmpty

/-- One tile of one area checked, with the upsets it has suffered. An area without checksums holds nothing that the spec gives, and
no mismatch is found in it (log 24). -/
def checkTile (s : Engine) (area tile : Nat) (flips : List (Nat × Word)) : Engine :=
  if noChecksums s area then s
  else if area = 0 then
    let s := { s with drv.staged := upset s.drv.staged flips }
    if tileCrc s.drv.staged tile = get0 s.drv.crcStaged tile then s
    else
      let s := tileErr s tile false false
      if s.unverifiedCommit then cancelCommit s 6 0
      else if s.cal.fold = .building then cancelFold s
      else
        let s := reseedTile s tile
        endRangeHold { s with drv.dirty := s.drv.dirty.filter (· != tile) }
  else if area = 1 then
    let s := { s with drv.active := upset s.drv.active flips }
    if tileCrc s.drv.active tile = get0 s.drv.crcActive tile then s else tileErr s tile true false
  else
    let s := { s with drv.kennelBuf := upset s.drv.kennelBuf flips }
    if tileCrc s.drv.kennelBuf tile = get0 s.drv.kennelCrc tile then s
    else { s with drv.scrubFix := some tile }

/-- One scrub step, every 64 TICK while the loader is idle and no tile that it found is being reloaded; a locked staged half is skipped (R89). -/
def scrubTile (flips : List (Nat × Word)) (s : Engine) : Engine :=
  s.onlyIf (s.mode ≠ .reset && s.rbit Reg.drvCtl 3 && s.drv.loader == .idle && !s.drv.reseedDue &&
      s.drv.scrubFix.isNone && decide (s.drv.scrubTick + 64 ≤ s.tick)) fun s =>
    let (area, tile) := if s.drv.scrubArea = 0 ∧ s.stagedLocked = true then (1, 0) else (s.drv.scrubArea, s.drv.scrubTile)
    let (area', tile') := nextScrub s.variant area tile
    checkTile { s with drv.scrubArea := area', drv.scrubTile := tile', drv.scrubTick := s.tick } area tile flips

/-! ### The strobe at the cells (R90, R92, R93, R97, R98) -/

/-- Both trims of an element rescaled for a change of its range (R98). -/
def rescaleTrims (m : Mem) (e : Nat) (narrow : Bool) : Mem :=
  let f (h : Half) : Half :=
    let x := h.toInt
    BitVec.ofInt 16 (if narrow then sat16 (2 * x) else roundHalfUp x 2)
  put0 m e (joinHalves (f (halfHi (get0 m e))) (f (halfLo (get0 m e))))

/-- Elements whose cells load a different word, on branches that acknowledge. -/
def loadedElements (s : Engine) (missed : List Nat) : List Nat :=
  (memDiff s.drv.cellStaged s.drv.cellActive).filter fun e => !missed.contains (branchOf s e)

/-- The elements a strobe changes (R92, R93). -/
def changedElements (s : Engine) (missed : List Nat) : List Nat :=
  unionNat (memDiff s.drv.staged s.drv.active) (loadedElements s missed)

/-- A strobe: cells on branches that acknowledge load their staged registers, setpoint memory makes its staged half active and
keeps a copy, and the staged half is released at T + 1. -/
def strike (missed : List Nat) (kennel : Bool) (s : Engine) : Engine :=
  let changed := changedElements s missed
  let loaded := loadedElements s missed
  let old := changed.foldl (fun m e => memInsert m e (if s.drv.clamped then 0 else livePacked s e)) []
  let cells := loaded.foldl (fun m e => put0 m e (get0 s.drv.cellStaged e)) s.drv.cellActive
  let ranged := loaded.filter fun e => bit (get0 s.drv.cellStaged e) 17 != bit (get0 s.drv.cellActive e) 17
  let trims := ranged.foldl (fun m e => rescaleTrims m e (bit (get0 s.drv.cellStaged e) 17)) s.drv.trims
  let held := s.drv.rangeHold.filter fun p => missed.contains (branchOf s p.1)
  let last : LastWhistle :=
    { edge := s.tick, changed := changed, oldLive := old, missed := missed, ackChecked := false, openChecked := false }
  let s := { s with
    drv.cellActive := cells, drv.active := s.drv.staged, drv.crcActive := s.drv.crcStaged, drv.trims := trims,
    drv.rangeHold := held, drv.dirty := [], drv.lock := .untilTick (s.tick + 1), drv.loader := .idle,
    drv.kennelFlag := kennel, drv.last := some last }
  let s := s.setRegs [(Reg.drvWhistleCnt, s.reg Reg.drvWhistleCnt + 1), (Reg.drvWhistleChg, word (changed.length % 2 ^ 16))]
  stepOutputs s changed

/-- At T + 4 every branch that has not acknowledged is reported (R93). -/
def whistleAckCheck (s : Engine) : Engine :=
  match s.drv.last with
  | none => s
  | some l =>
    s.onlyIf (!l.ackChecked && decide (l.edge + 4 ≤ s.tick)) fun s =>
      let s := { s with drv.last := some { l with ackChecked := true } }
      match l.missed.foldl (fun acc b => insertNat b acc) [] with
      | [] => s
      | b :: bs =>
        let s := s.setRegs [(Reg.drvAckmapLo, s.reg Reg.drvAckmapLo ||| maskWord (b :: bs) 0),
          (Reg.drvAckmapHi, s.reg Reg.drvAckmapHi ||| maskWord (b :: bs) 1)]
        (s.putRbit Reg.drvStat 9 true).raise 18 b

/-! ### Compliance (R99 to R101) -/

/-- A suspended element, and its entry in DRV_FLT_FIFO (R101). -/
def suspend (s : Engine) (kind e : Nat) : Engine :=
  let s := { s with drv.susp := insertNat e s.drv.susp }
  if s.drv.fifo.length < 64 then { s with drv.fifo := s.drv.fifo ++ [(kind, e)] } else s.putRbit Reg.drvStat 11 true

/-- A packed live word in units of 1/65,536 V. -/
def liveVolts (w : Word) : Int := (halfLo w).toInt * (if bit w 16 then 6 else 12)

/-- Whether a changed element is OPEN: its step reaches MIN_DV and its charge, in aC, stays below PCT percent of C_e·|ΔV| (R99).
An element without a measured charge has drawn the expected one. DESIGN CHOICE (log 87): the new output of ΔV is the live word on the
edge of the check, T + 19 or later, with the probe and Scent then in force. -/
def isOpen (s : Engine) (l : LastWhistle) (charges : List (Nat × Nat)) (e : Nat) : Bool :=
  let dv := (liveVolts (livePacked s e) - liveVolts (get0 l.oldLive e)).natAbs
  decide (s.rfld Reg.drvOpenThr 8 8 * 65536 ≤ 10 * dv) &&
    match charges.find? (fun p => p.1 == e) with
    | some (_, q) =>
      decide (q * 100 * 65536 < s.rfld Reg.drvOpenThr 0 7 * (capacitance s.cal.live.words e * dv * 1000))
    | none => false

/-- The OPEN comparison of the last Whistle (R99): charge integrated from T + 3 to T + 19. -/
def openCheck (charges : List (Nat × Nat)) (s : Engine) : Engine :=
  match s.drv.last with
  | none => s
  | some l =>
    s.onlyIf (!l.openChecked && decide (l.edge + 19 ≤ s.tick) && s.mode ≠ .reset) fun s =>
      let s := { s with drv.last := some { l with openChecked := true } }
      if s.rbit Reg.drvCtl 0 then
        (l.changed.filter (isOpen s l charges)).foldl (fun s e => (suspend s 1 e).raise 16 e) s
      else s

/-- The LEAK comparison of an element is blanked: an output step of it within the last 250 TICK (R100). -/
def leakBlanked (s : Engine) (e : Nat) : Bool :=
  s.drv.stepped.any (fun p => p.1 == e && decide (s.tick < p.2 + 250)) ||
    (match s.drv.railTick with | some t => decide (s.tick < t + 250) | none => false)

/-- An element's static output current has stood `excess` (0.1 µA) over quiescent since a tick: it is LEAK where that is above LIMIT
and the dwell is complete (R100). A blanked comparison neither raises LEAK nor breaks the dwell (DESIGN CHOICE, log 87). -/
def leakDetect (e : Fin 34816) (excess since : Nat) (s : Engine) : Engine :=
  s.onlyIf (s.mode ≠ .reset && !s.drv.clamped && s.rbit Reg.drvCtl 1 && decide (e.val < s.variant.elements) &&
      decide (s.rfld Reg.drvLeakThr 0 8 < excess) && decide (since + 2500 * s.rfld Reg.drvLeakThr 16 8 ≤ s.tick) &&
      !leakBlanked s e) fun s => (suspend s 2 e.val).raise 17 e.val

/-- A write of DRV_RESUME (R101). -/
def drvResume (b : Bus) (v : Word) (s : Engine) : Engine :=
  s.access b fun s =>
    { s with drv.susp := if bit v 31 then [] else s.drv.susp.filter (· != fld v 0 16) }

/-! ### The Kennel buffer (R103 to R105, R434) -/

/-- Tiles of the Kennel buffer that mismatch. -/
def badKennelTiles (s : Engine) : List Nat :=
  (List.range s.variant.tiles).filter fun t => tileCrc s.drv.kennelBuf t != get0 s.drv.kennelCrc t

/-- The Kennel buffer loaded with the selected Kennel image and its own checksums (R103, R375). -/
def loadKennelBuffer (s : Engine) : Engine :=
  let crcs := (List.range s.variant.tiles).foldl (fun m t => put0 m t (tileCrc s.nvm.kenSel t)) []
  { s with drv.kennelBuf := s.nvm.kenSel, drv.kennelCrc := crcs }

/-- The Kennel tiles are in the staged half and the cells, verified: the Kennel Whistle is due on the next TICK. -/
def kennelVerified (s : Engine) (retried : Bool) : Engine :=
  armWhistle 1
  { s with drv.staged := s.drv.kennelBuf, drv.crcStaged := s.drv.kennelCrc, drv.cellStaged := s.drv.kennelBuf,
           drv.dirty := [], drv.loader := .kennel true retried s.tick }

/-- A second mismatch: every clamp closes until the next RESET, and no Kennel Whistle fires (R102, R105). -/
def kennelFail (s : Engine) (t : Nat) : Engine :=
  endShutdown <| endHeld
    ((noteBadTile { s with drv.loader := .idle, drv.clamped := true, drv.clampHeld := true } t false true).raise 19
      (tileLocus t false true))

/-- The Kennel pass (R103, R104): in LOAD the buffer is loaded from MRAM first. -/
def kennelApply (flips : List (Nat × Word)) (s : Engine) : Engine :=
  match s.drv.loader with
  | .kennel false retried _ =>
    let s := if s.mode = .load then loadKennelBuffer s else s
    let s := { s with drv.kennelBuf := upset s.drv.kennelBuf flips }
    match badKennelTiles s with
    | [] => kennelVerified s retried
    | t :: _ => if retried then kennelFail s t else { s with drv.loader := .kennelReload t }
  | _ => s

/-- A tile of the buffer reloaded from the selected Kennel image. -/
def reloadKennelTile (s : Engine) (t : Nat) : Engine :=
  { s with drv.kennelBuf := copyTile s.nvm.kenSel s.drv.kennelBuf t,
           drv.kennelCrc := put0 s.drv.kennelCrc t (tileCrc s.nvm.kenSel t) }

/-- Tiles of the buffer so reloaded, with the bits that their MRAM reads get wrong. -/
def reloadKennelTiles (s : Engine) (flips : List (Nat × Word)) (ts : List Nat) : Engine :=
  let s := ts.foldl reloadKennelTile s
  { s with drv.kennelBuf := upset s.drv.kennelBuf flips }

/-- The mismatching tiles are reloaded from MRAM and the pass is repeated once (R105). `ue`: the MRAM byte address of a record
that reads with an uncorrectable error (R363). -/
def kennelTileReload (flips : List (Nat × Word)) (ue : Option (Fin 16777216)) (s : Engine) : Engine :=
  match s.drv.loader with
  | .kennelReload _ =>
    let s := reloadKennelTiles s flips (badKennelTiles s)
    let s := match ue with
      | some a => s.raiseAt 104 a 6 1
      | none => s
    match badKennelTiles s with
    | [] => kennelVerified s true
    | t :: _ => kennelFail s t
  | _ => s

/-- The tile that the scrub found wrong is reloaded and checked again (R434). -/
def kennelScrubReload (flips : List (Nat × Word)) (ue : Option (Fin 16777216)) (s : Engine) : Engine :=
  match s.drv.scrubFix with
  | some t =>
    let s := reloadKennelTiles { s with drv.scrubFix := none } flips [t]
    let s := match ue with
      | some a => s.raiseAt 104 a 6 1
      | none => s
    if ue.isNone && tileCrc s.drv.kennelBuf t == get0 s.drv.kennelCrc t then s else tileErr s t false true
  | none => s

/-! ### Meanings -/

def execVerifyComplete (flips : List (Nat × Word)) (s : State) : Host.Outcome State Fault Refusal :=
  s.run (verifyComplete flips)

def execReseed (s : State) : Host.Outcome State Fault Refusal := s.run reseed

def execReseedComplete (s : State) : Host.Outcome State Fault Refusal := s.run reseedComplete

def execScrubTile (flips : List (Nat × Word)) (s : State) : Host.Outcome State Fault Refusal := s.run (scrubTile flips)

def execWhistleAckCheck (s : State) : Host.Outcome State Fault Refusal := s.run whistleAckCheck

def execOpenCheck (charges : List (Nat × Nat)) (s : State) : Host.Outcome State Fault Refusal := s.run (openCheck charges)

def execLeakDetect (e : Fin 34816) (excess since : Nat) (s : State) : Host.Outcome State Fault Refusal :=
  s.run (leakDetect e excess since)

def execKennelApply (flips : List (Nat × Word)) (s : State) : Host.Outcome State Fault Refusal := s.run (kennelApply flips)

def execKennelTileReload (flips : List (Nat × Word)) (ue : Option (Fin 16777216)) (s : State) :
    Host.Outcome State Fault Refusal := s.run (kennelTileReload flips ue)

def execKennelScrubReload (flips : List (Nat × Word)) (ue : Option (Fin 16777216)) (s : State) :
    Host.Outcome State Fault Refusal := s.run (kennelScrubReload flips ue)

end Sys2Proof.Machine
end

