-- ==== Sys2Proof/Machine/Power.lean ====
section
/-! DEFINITION. The power and thermal governor: rail reports, the thermal model, thresholds, throttling, the allotment and thermal
shutdown (chapter 12), and the temperature triggers of R201. -/

namespace Sys2Proof.Machine

open Sys2Proof

/-! ### Rail reports (R276, R277, R294) -/

/-- An event of the governor every so many TICK, from the release of the root dividers on. -/
def governorDue (s : Engine) (last : Option Nat) (period : Nat) : Bool :=
  s.mode ≠ .reset && decide (max (last.getD 0) s.divTick + period ≤ s.tick)

/-- |V|·I of a report, in units of 25 nW. -/
def reportPower (p : Int × Nat) : Nat := p.1.natAbs * p.2

/-- Energy of a report of monitors 5 and 6 above the quiescent 2.0 µA of each cell (R279), in fJ over its 10 µs. -/
def switchingEnergy (v : Variant) (hp hn : Int × Nat) : Int :=
  250 * ((reportPower hp : Int) + reportPower hn) - 5 * v.elements * (hp.1.natAbs + hn.1.natAbs)

/-- PWR_E_RATIO: the mean of the ratios, Q2.14. -/
def publishRatio (s : Engine) : Engine :=
  match s.pwr.ratios with
  | [] => s
  | r :: rs =>
    let mean := (rs.foldl (· + ·) r) / ((rs.length + 1 : Nat) : Rat)
    let (q, s) := freeRat (mean * 16384) s
    s.setReg Reg.pwrERatio (word (clampInt 0 65535 q).toNat)

/-- One Whistle's measurement after a report: the third report completes it; estimates below 100 nJ do not count. -/
def measure (e : Int) (m : Nat × Nat × Rat) : Nat × Nat × Rat := (m.1, m.2.1 + 1, m.2.2 + (e : Rat))

def measureWhistles (e : Int) (s : Engine) : Engine :=
  let ms := s.pwr.measuring.map (measure e)
  let done := ms.filter fun m => 3 ≤ m.2.1 && 100000000 ≤ m.1
  let ratios := (s.pwr.ratios ++ done.map fun m => m.2.2 / (m.1 : Rat))
  let s := { s with pwr.measuring := ms.filter fun m => m.2.1 < 3, pwr.ratios := ratios.drop (ratios.length - 64) }
  if done.isEmpty then s else publishRatio s

/-- A RAIL wait of any machine sees the report's edge (R160). -/
def LpState.railEdge (x : LpState) : LpState := if x.wait = some .rail then { x with waitHit := true } else x

/-- The reports of the eight monitors, published on the edge that ends their window. -/
def railReport (rs : Vector (Half × Half) 8) (s : Engine) : Engine :=
  s.onlyIf (governorDue s s.pwr.lastRail 2500) fun s =>
    let pairs : List (Half × Half) := rs.toList
    let s := s.setRegs ((pairs.mapIdx fun r p => [(Reg.pwrMonV r, word p.1.toNat), (Reg.pwrMonI r, word p.2.toNat)]).flatten)
    let read (p : Half × Half) : Int × Nat := (p.1.toInt, p.2.toNat)
    let reports := pairs.mapIdx fun r p => ((read p) :: s.pwr.reports.getD r []).take 10
    let hp := read (pairs.getD 5 (0, 0))
    let hn := read (pairs.getD 6 (0, 0))
    let s := { s with pwr.reports := reports, pwr.lastRail := some s.tick, lps := s.lps.map LpState.railEdge }
    (measureWhistles (switchingEnergy s.variant hp hn) s).emit 0xA5

/-! ### Under-voltage (R278) -/

/-- Whether the comparators of monitors 5 and 6 are blanked. -/
def blanked (s : Engine) : Bool := match s.pwr.blankEnd with | some t => decide (s.tick < t) | none => false

def uvTrip (r : Nat) (s : Engine) : Engine := ((s.putRbit Reg.pwrStat r true).emit 0xB1).raise 96 r

/-- The nominal magnitude of a monitor's rail in µV (R276). -/
def railNominal (r : Nat) : Nat := [750000, 750000, 1800000, 1200000, 1200000, 7000000, 7000000, 3300000].getD r 0

/-- PCT of a monitor: 50 to 99, every other value acts as 90 (R300). -/
def uvPercent (s : Engine) (r : Nat) : Nat :=
  let p := s.rfld (Reg.pwrUvThr r) 0 7
  if 50 ≤ p ∧ p ≤ 99 then p else 90

/-- Whether the largest voltage magnitude of 200 ns, in µV, lies below a monitor's threshold. -/
def underVoltage (s : Engine) (r uv : Nat) : Bool := decide (100 * uv < uvPercent s r * railNominal r)

/-- A monitor's voltage has stayed at or below a magnitude in µV for 200 ns. -/
def railUvTrip (r : Fin 8) (uv : Nat) (s : Engine) : Engine :=
  s.onlyIf (s.mode ≠ .reset && underVoltage s r.val uv && !((r.val == 5 || r.val == 6) && blanked s)) (uvTrip r.val)

/-- The blanking ends: a monitor that has been below its threshold for 200 ns, and still is, trips. The operands are the largest
magnitudes of monitors 5 and 6 in the last 200 ns. -/
def uvBlankEnd (hp hn : Nat) (s : Engine) : Engine :=
  match s.pwr.blankEnd with
  | none => s
  | some t =>
    s.onlyIf (s.mode ≠ .reset && decide (t ≤ s.tick)) fun s =>
      let s := { s with pwr.blankEnd := none }
      let s := if underVoltage s 5 hp then uvTrip 5 s else s
      if underVoltage s 6 hn then uvTrip 6 s else s

/-! ### The thermal model (R280 to R282) -/

/-- P[r] in mW: the mean over the last ten reports. -/
def railPower (s : Engine) (r : Nat) : Rat :=
  let l := s.pwr.reports.getD r []
  ((l.map reportPower).foldl (· + ·) 0 : Nat) * 25 / 1000000 / (max 1 l.length : Nat)

def totalPower (s : Engine) : Rat := ((List.range 8).map (railPower s)).foldl (· + ·) 0

/-- Share of the stages that region q holds (R200). -/
def regionShare (v : Variant) (q : Nat) : Rat :=
  let ends := regionStages v ++ [v.stages - 1]
  let first := if q = 0 then 0 else ends.getD (q - 1) 0 + 1
  ((ends.getD q 0 + 1 - first : Nat) : Rat) / (v.stages : Nat)

/-- Weight of a loop processor. -/
def lpWeight (s : Engine) (k : Nat) : Rat := 1 + 3 * ((s.lp (Fin.ofNat 33 k)).actLast : Rat) / 68000

def weights (s : Engine) (lo hi : Nat) : Rat := (((List.range 33).filter fun k => lo ≤ k && k < hi).map (lpWeight s)).foldl (· + ·) 0

/-- Q[i] in W. -/
def nodePower (s : Engine) (i : Nat) : Rat :=
  let p (r : Nat) : Rat := railPower s r / 1000
  let k1 := weights s 0 16
  let k2 := weights s 16 33
  let all := k1 + k2 + 16
  if i < 4 then 0
  else if i < 8 then (p 5 + p 6) * regionShare s.variant (i - 4) + p 3 / 4 + (if i = 4 then p 4 + p 7 else 0)
  else if i = 8 then p 1
  else if i = 9 then p 0 * k1 / all
  else if i = 10 then p 0 * k2 / all
  else p 2 + p 0 * 16 / all

def nodeT (s : Engine) (i : Nat) : Rat := s.pwr.t.getD i 0

/-- One step of 100 µs of node i. -/
def stepNode (s : Engine) (i : Nat) : Rat :=
  let m := s.pwr.model
  let bound := nodePower s i + m.gb.getD i 0 * (s.pwr.tb - nodeT s i)
  let flow := (List.range 12).foldl (fun f j => f + (m.g.getD i []).getD j 0 * (nodeT s j - nodeT s i)) bound
  nodeT s i + flow / 10000 / m.cth.getD i 0

/-- The boundary moved by a valid reading of the case diode (R282). -/
def anchorBoundary (s : Engine) : Engine :=
  match s.pwr.anchor with
  | none => s
  | some d => { s with pwr.tb := s.pwr.tb + (d - nodeT s 0) / 8, pwr.anchor := none }

/-- One node's word in 1/16 °C, which THM_NODE shows from the next TICK on. -/
def publishNode (s : Engine) (i : Nat) : Engine :=
  let (v, s) := freeTemp (nodeT s i) s
  { s with pwr.published := s.pwr.published ++ [word (twos 16 v)] }

/-- A node's latest word, published or about to be. -/
def nodeHalf (s : Engine) (i : Nat) : Half := halfLo (s.pwr.published.getD i (s.reg (Reg.thmNode i)))

def nodeWord (s : Engine) (i : Nat) : Int := (nodeHalf s i).toInt

/-- The model advanced and published. -/
def advanceModel (s : Engine) : Engine :=
  let s := anchorBoundary s
  let s := { s with pwr.t := (List.range 12).map (stepNode s), pwr.published := [] }
  let s := (List.range 12).foldl publishNode s
  let ns := (List.range 12).map (nodeWord s)
  let hi := ns.foldl max (ns.getD 0 0)
  let lo := ns.foldl min (ns.getD 0 0)
  s.setReg Reg.thmTj (putFld (word (twos 16 hi)) 16 16 (twos 16 lo))

/-! ### Thresholds (R284 to R287) -/

def tjMax (s : Engine) : Int := (halfLo (s.reg Reg.thmTj)).toInt
def tjMin (s : Engine) : Int := (halfHi (s.reg Reg.thmTj)).toInt

/-- What the hot, and the cold, thresholds are judged against, in 1/16 °C. -/
def judgedHot (s : Engine) : Rat :=
  if s.pwr.diverge && s.rbit Reg.thmCtl 0 then (s.pwr.laneTemp.map fun p => p.2 * 16).foldl max (tjMax s) else tjMax s

def judgedCold (s : Engine) : Rat :=
  if s.pwr.diverge && s.rbit Reg.thmCtl 0 then (s.pwr.laneTemp.map fun p => p.2 * 16).foldl min (tjMin s) else tjMin s

abbrev Thr.coldLimit : Fin 10 := 0
abbrev Thr.coldWarn : Fin 10 := 1
abbrev Thr.hotWarn : Fin 10 := 2
abbrev Thr.shutdown : Fin 10 := 9

def hotThrottle (w : Word) : Int := (halfHi w).toInt
def bandStep (w : Word) : Nat := fld w 24 8
def hysteresis (w : Word) : Nat := fld w 16 8

/-- The value of a threshold in 1/16 °C. -/
def threshold (s : Engine) (i : Fin 10) : Int :=
  if i.val = 0 then (halfLo (s.reg Reg.thmLimCold)).toInt
  else if i.val = 1 then (halfHi (s.reg Reg.thmLimCold)).toInt
  else if i.val = 2 then (halfLo (s.reg Reg.thmLimHot)).toInt
  else if i.val = 9 then (halfLo (s.reg Reg.thmLimSd)).toInt
  else hotThrottle (s.reg Reg.thmLimHot) + (i.val - 3) * (bandStep (s.reg Reg.thmLimSd) : Int)

/-- One update of a threshold's runs (R286). -/
def Trip.update (t : Trip) (reach clear : Bool) : Trip :=
  let on := if reach then min 8 (t.on + 1) else 0
  let off := if clear then min 8 (t.off + 1) else 0
  { on := on, off := off, tripped := if t.tripped then decide (off < 8) else decide (8 ≤ on) }

def judge (s : Engine) (i : Fin 10) : Trip :=
  let x : Rat := threshold s i
  let h : Rat := (hysteresis (s.reg Reg.thmLimSd) : Nat)
  if i.val < 2 then (s.pwr.trips[i]).update (decide (judgedCold s ≤ x)) (decide (x + h < judgedCold s))
  else (s.pwr.trips[i]).update (decide (x ≤ judgedHot s)) (decide (judgedHot s < x - h))

/-- The throttle level: the highest tripped band edge. -/
def levelOf (ts : Vector Trip 10) : Nat :=
  (List.finRange 6).foldl (fun l n => if (ts[n.val + 3]).tripped then n.val + 1 else l) 0

/-- Commit pause and sweep pause of a level (R288, R289). -/
def commitPause (v : Variant) (n : Nat) : Nat :=
  match v with
  | .pq512 => [0, 250, 750, 2250, 6750, 20250, 60750].getD n 0
  | _ => 0

def sweepPause (v : Variant) (n : Nat) : Nat :=
  match v with
  | .pq512 => [0, 0, 2000, 4000, 8500, 17000, 34000].getD n 0
  | _ => 125 * ((272 * n + (8 - n) - 1) / (8 - n))

/-- A warning that trips: its sticky bit and the event THM_WARN. -/
def warn (s : Engine) : Engine := (s.putRbit Reg.thmStat 18 true).emit 0xA6

/-- A change of the throttle level (R287). -/
def setLevel (n : Nat) (s : Engine) : Engine :=
  if n = s.pwr.level then s
  else
    let s := { s with pwr.level := n, pwr.pauseSet := sweepPause s.variant n, sch.pause := commitPause s.variant n }
    ((s.putRfld Reg.thmStat 0 3 n).putRbit Reg.thmStat 6 (decide (n ≠ 0))).emit 0xA7

/-- A pending mode request is discarded by the entry to KENNEL, unless it asks for KENNEL (R392). -/
def preemptRequest (s : Engine) : Engine :=
  match s.sys.pendMode with
  | some .kennel => s
  | some .reset => if s.mode = .kennel then s else { s with sys.pendMode := none, sys.refused := true, sys.reason := 8 }
  | some _ => { s with sys.pendMode := none, sys.refused := true, sys.reason := 8 }
  | none => s

/-- SYS_MODE as it reads (R399). -/
def sysModeWord (s : Engine) : Word :=
  let pend := match s.sys.pendMode with
    | some m => word (256 + 16 * modeCode m)
    | none => 0
  (bitIf s.sys.refused 31) ||| (putFld (putFld (word (modeCode s.mode)) 24 4 s.sys.reason.val) 10 2 s.sys.bootsel.val) |||
    (bitIf s.sys.recovery 9) ||| pend

/-- Words 0 to 14 of the shutdown record (R297), before its own effects on THM_STAT but for SHUTDOWN; word 11 is put in once this edge's
power and allotment stand. -/
def shutdownWords (s : Engine) (count : Nat) : List Word :=
  let hot := ((List.range 12).find? fun i => nodeWord s i == tjMax s).getD 0
  let sd := s.reg Reg.thmLimSd
  [word s.nowSec, word (s.nowSec / 2 ^ 32), word s.nowSubNs,
   putFld (putFld (word s.pwr.level) 8 8 hot) 16 16 (twos 16 (tjMax s))] ++
  (List.range 6).map (fun i => joinHalves (nodeHalf s (2 * i + 1)) (nodeHalf s (2 * i))) ++
  [joinHalves (halfLo (s.reg Reg.thmAnchor)) (halfHi (s.reg Reg.thmAnchor)),
   0,
   putFld (putFld (word (fld (s.reg Reg.thmStat) 0 8)) 8 8 (hysteresis sd)) 16 16 (fld sd 0 16),
   sysModeWord s, word count]

/-- HOT_SHUTDOWN trips on this edge U (R296): KENNEL is entered on the next one. -/
def tripShutdown (s : Engine) : Engine :=
  let s := (((s.putRbit Reg.thmStat 7 true).putRbit Reg.thmStat 8 false).putRbit Reg.thmStat 16 true).raise 98 0
  let s := s.setRegs [(Reg.thmSdSecLo, word s.nowSec), (Reg.thmSdSecHi, word (s.nowSec / 2 ^ 32)), (Reg.thmSdNs, word s.nowSubNs)]
  let count := s.nvm.sdCount + 1
  let ws := shutdownWords s count
  let s := preemptRequest s
  { s with nvm.sdCount := count, pwr.shutdown := true, pwr.cooled := false, pwr.cooledAt := none, pwr.recovering := false,
           pwr.sdAt := s.tick, pwr.sdRecord := some ws, pwr.sdWritten := false,
           sys.trip := if s.mode = .kennel then none else some s.tick }

/-- HOT_SHUTDOWN has cleared (R298). -/
def coolDown (s : Engine) : Engine :=
  { s with pwr.cooled := true, pwr.cooledAt := some s.tick }.putRbit Reg.thmStat 8 true

/-- The thresholds judged on an update edge. -/
def judgeAll (s : Engine) : Engine :=
  let old := s.pwr.trips
  let new := Vector.ofFn (judge s)
  let s := { s with pwr.trips := new }
  let rose (i : Fin 10) : Bool := (new[i]).tripped && !(old[i]).tripped
  let s := (s.putRbit Reg.thmStat 3 (new[Thr.coldLimit]).tripped).putRbit Reg.thmStat 4 (new[Thr.coldWarn]).tripped
  let s := s.putRbit Reg.thmStat 5 (new[Thr.hotWarn]).tripped
  let s := if rose Thr.coldLimit then s.putRbit Reg.thmStat 19 true else s
  let s := if rose Thr.coldWarn then warn s else s
  let s := if rose Thr.hotWarn then warn s else s
  let s := setLevel (levelOf new) s
  if rose Thr.shutdown then tripShutdown s
  else if (old[Thr.shutdown]).tripped && !(new[Thr.shutdown]).tripped && s.pwr.shutdown then coolDown s
  else s

/-! ### The allotment and the pause (R292, R295) -/

/-- PWR_ALLOT_EFF, PWR_TOTAL and HEADROOM of an update edge. -/
def setAllotment (s : Engine) : Engine :=
  let total := totalPower s
  let allot : Rat := (min 1000 (s.rfld Reg.pwrAllot 0 16) : Nat)
  let a : Rat := match s.variant with
    | .pq512 => allot
    | _ => allot * ((8 - s.pwr.level : Nat) : Rat) / 8
  let h : Rat := (s.rfld Reg.pwrBudget 0 16 : Nat) - (total - (s.pwr.eFired : Rat) / 100000000)
  let on := s.rbit Reg.pwrCtl 0
  let eff : Rat := if on then max 0 (min a h) else a
  let (t, s) := freeRat total s
  let s := { s with pwr.allotBefore := s.reg Reg.pwrAllotEff }
  let s := s.setRegs [(Reg.pwrAllotEff, word eff.floor.toNat), (Reg.pwrTotal, word (min 65535 t.toNat))]
  { s with pwr.eFired := 0 }.putRbit Reg.pwrStat 8 (on && decide (h < a))

/-- A shutdown record of this edge completed with its P_total, its allotment and its check (R297). -/
def sealRecord (s : Engine) : Engine :=
  match s.pwr.sdRecord with
  | some ws =>
    if ws.length = 15 then
      let ws := ws.set 11 (joinHalves (halfLo (s.reg Reg.pwrTotal)) (halfLo (s.reg Reg.pwrAllotEff)))
      { s with pwr.sdRecord := some (ws ++ [crc32c ws]) }
    else s
  | none => s

/-- COLD_LIMIT inhibits commits through SCH_PAUSE. -/
def coldInhibit (s : Engine) : Engine :=
  { s with sch.pause := if (s.pwr.trips[Thr.coldLimit]).tripped then s.tick - s.sch.wPrev + 25000 else commitPause s.variant s.pwr.level }

/-! ### Calibration's temperatures (R201, R204) -/

/-- DT of CAL_TRIG in 1/16 °C; 0: disabled. -/
def trigDt (s : Engine) : Nat :=
  let d := s.rfld Reg.calTrig 0 8
  if d = 0 then 0 else 4 * max 4 d

/-- A region's temperature summed over the window, and its trigger judged. -/
def regionTemp (s : Engine) (r : Nat) : Engine :=
  let t := nodeT s (r % 4)
  let (sum, n) := s.cal.tempSum.getD r (0, 0)
  let sums := (List.range 8).map fun i => if i = r then (sum + t, n + 1) else s.cal.tempSum.getD i (0, 0)
  let s := if s.cal.windowOpen then { s with cal.tempSum := sums } else s
  let off := nodeWord s (r % 4) - (halfLo (get0 s.cal.live.tcal r)).toInt
  let hit := decide (trigDt s ≠ 0 ∧ trigDt s ≤ off.natAbs)
  let run := if hit then min 8 (s.cal.tripRun.getD r 0 + 1) else 0
  let s := { s with cal.tripRun := listSet s.cal.tripRun r run }
  if run = 8 then addPending (2 ^ r) s else s

/-! ### Leaving shutdown (R298) -/

/-- The drive and pilot domains restored, with every clamp closed. -/
def leaveShutdown (s : Engine) : Engine :=
  if s.pwr.recovering then s
  else (enablePilot { s with drv.removed := false, pwr.recovering := true }).putRbit Reg.sysPilotStat 1 false

/-- COOLED has been 1 for 10 s and AUTO_REC is 1. -/
def autoRecover (s : Engine) : Engine :=
  match s.pwr.cooledAt with
  | none => s
  | some t => if s.rbit Reg.thmCtl 1 && s.pwr.cooled && s.drv.removed && decide (t + 2500000000 ≤ s.tick) then leaveShutdown s else s

/-- A write of THM_CTL with SD_CLEAR = 1. -/
def sdClear (b : Bus) (v : Word) (s : Engine) : Engine :=
  s.access b fun s =>
    let s := s.setReg Reg.thmCtl (v &&& 3)
    if s.pwr.cooled && s.drv.removed then leaveShutdown s else s

/-! ### The update (R281) -/

/-- An update edge of the governor. -/
def modelUpdate (s : Engine) : Engine :=
  s.onlyIf (governorDue s s.pwr.lastUpdate 25000) fun s =>
    let s := { s with pwr.lastUpdate := some s.tick }
    let s := if s.pwr.valid then
        let s := advanceModel s
        let s := judgeAll { s with sys.updatesSinceValid := s.sys.updatesSinceValid + 1 }
        let s := if s.calModes || s.mode = .kennel then (List.range 8).foldl regionTemp s else s
        autoRecover s
      else s
    coldInhibit (sealRecord (setAllotment s))

/-! ### The shutdown record and the domains (R296, R297) -/

/-- Byte address ÷ 4 of a shutdown-log record (R364, R379). -/
def sdlogWord (count : Nat) : Nat := 0x0BE0000 / 4 + 16 * ((count + 255) % 256)

/-- The record is written, once no record is in flight. -/
def shutdownRecord (s : Engine) : Engine :=
  match s.pwr.sdRecord with
  | none => s
  | some ws =>
    s.onlyIf (s.mode ≠ .reset && decide (s.pwr.sdAt + 100 ≤ s.tick) && s.nvm.op.isNone && !s.nvmHeld) fun s =>
      let a := sdlogWord s.nvm.sdCount
      { s with pwr.sdRecord := none, pwr.sdWritten := true, nvm.raw := memWrites zeroWord s.nvm.raw (ws.mapIdx fun i w => (a + i, w)) }

/-- The drive and pilot power domains are removed. -/
def domainRemoval (s : Engine) : Engine :=
  s.onlyIf (s.mode ≠ .reset && s.pwr.shutdown && s.pwr.sdWritten && !s.drv.removed && !s.pwr.recovering) fun s =>
    (disablePilot { s with drv.removed := true, drv.clamped := true, pwr.sdWritten := false }).putRbit Reg.sysPilotStat 1 true

/-! ### Limit and capacity writes (R285, R293) -/

def ebktCapWrite (b : Bus) (v : Word) (s : Engine) : Engine :=
  s.access b fun s => { s with pwr.ebkt := min s.pwr.ebkt v.toNat }.setReg Reg.pwrEbktCap v

/-- Whether the limits keep their ranges and order. -/
def limitsOk (cold hot sd : Word) : Bool :=
  let cl := (halfLo cold).toInt
  let cw := (halfHi cold).toInt
  let hw := (halfLo hot).toInt
  let ht := hotThrottle hot
  let hs := (halfLo sd).toInt
  let step : Int := bandStep sd
  let hyst : Int := hysteresis sd
  decide (-45 * 16 ≤ cl ∧ cl ≤ -30 * 16 ∧ cl < cw ∧ cw ≤ 0 ∧ cw < hw ∧ 100 * 16 ≤ hw ∧ hw < ht ∧ 120 * 16 ≤ ht ∧ ht ≤ 150 * 16 ∧
    140 * 16 ≤ hs ∧ hs ≤ 155 * 16 ∧ 8 ≤ hyst ∧ hyst ≤ 128 ∧ 8 ≤ step ∧ step ≤ 48 ∧ ht + 5 * step < hs)

/-- A write of THM_LIM_COLD, THM_LIM_HOT or THM_LIM_SD. -/
def thmLimitWrite (b : Bus) (which : Fin 3) (v : Word) (s : Engine) : Engine :=
  s.access b fun s =>
    let pick (i : Nat) (a : Nat) : Word := if which.val = i then v else s.reg a
    if limitsOk (pick 0 Reg.thmLimCold) (pick 1 Reg.thmLimHot) (pick 2 Reg.thmLimSd) then
      s.setReg (if which.val = 0 then Reg.thmLimCold else if which.val = 1 then Reg.thmLimHot else Reg.thmLimSd) v
    else s.putRbit Reg.thmStat 20 true

/-! ### Meanings -/

def execRailReport (rs : Vector (Half × Half) 8) (s : State) : Host.Outcome State Fault Refusal := s.run (railReport rs)

def execRailUvTrip (r : Fin 8) (uv : Nat) (s : State) : Host.Outcome State Fault Refusal := s.run (railUvTrip r uv)

def execUvBlankEnd (hp hn : Nat) (s : State) : Host.Outcome State Fault Refusal := s.run (uvBlankEnd hp hn)

def execModelUpdate (s : State) : Host.Outcome State Fault Refusal := s.run modelUpdate

def execShutdownRecord (s : State) : Host.Outcome State Fault Refusal := s.run shutdownRecord

def execDomainRemoval (s : State) : Host.Outcome State Fault Refusal := s.run domainRemoval

end Sys2Proof.Machine
end

