-- ==== Sys2Proof/Machine/Clock.lean ====
section
/-! DEFINITION. Reference selection, loss and lock of the root PLL (chapter 01), and the entry to LOAD (R391). -/

namespace Sys2Proof.Machine

open Sys2Proof

/-- SYS_CLK_STAT.ACTIVE_SRC: the reference the PLL is locked to, which is the selected one of R32. -/
def Engine.activeSrc (s : Engine) : Bool := s.rbit Reg.sysClkStat 1

def Engine.switching (s : Engine) : Bool := s.rbit Reg.sysClkStat 2

def Engine.locked (s : Engine) : Bool := s.rbit Reg.sysClkStat 0

def Engine.missing (s : Engine) (tin : Bool) : Bool := if tin then s.clk.tinMissing else s.clk.refclkMissing

/-- HOLDOVER is 1 while the selected reference is missing (R32). -/
def Engine.setHoldover (s : Engine) : Engine := s.putRbit Reg.sysClkStat 3 (s.missing s.activeSrc)

/-- A change of reference begins towards SYS_CLK_CTL.SRC where that differs from the reference in use (R31). -/
def startRefChange (s : Engine) : Engine :=
  if s.rbit Reg.sysClkCtl 0 = s.activeSrc then s
  else { s with clk.target := s.rbit Reg.sysClkCtl 0 }.putRbit Reg.sysClkStat 2 true

/-- A write of SYS_CLK_CTL (R31). -/
def refChange (b : Bus) (v : Word) (s : Engine) : Engine :=
  s.access b fun s =>
    let s := s.setReg Reg.sysClkCtl (v &&& 1)
    if s.switching then s else startRefChange s

/-- The change in progress completes; a value of SRC written meanwhile is then acted on (R31). -/
def refChangeComplete (s : Engine) : Engine :=
  s.onlyIf (s.mode ≠ .reset && s.switching) fun s =>
    startRefChange ((s.putRbit Reg.sysClkStat 1 s.clk.target).putRbit Reg.sysClkStat 2 false).setHoldover

/-- References that are missing as RESET is left: their sticky bits, and the holdover and report of the selected one (R32). -/
def noteMissing (s : Engine) : Engine :=
  let s := if s.missing false then s.putRbit Reg.sysClkStat 4 true else s
  let s := if s.missing true then s.putRbit Reg.sysClkStat 5 true else s
  if s.missing s.activeSrc then s.setHoldover.raise 0 0 else s

/-- RESET is left for LOAD on the first TICK edge with LOCK = 1; with BOOTSEL 0b11 the engine is in the recovery state (R391,
R398). The dividers are released together (R27), which begins Pack cycle 0 (R305), and W_prev is this edge (R232). -/
def enterLoad (s : Engine) : Engine :=
  noteMissing
    { s with mode := .load, divTick := s.tick, sys.phase := .out, sys.recovery := s.sys.bootsel == 3, pak.cycle := 0,
             pak.boundary := s.tick, sch.wPrev := s.tick }

/-- The root PLL locks (R30): to REFCLK after PORST_N is released. -/
def pllLock (s : Engine) : Engine :=
  match s.sys.phase with
  | .porHeld => s
  | .timed _ => s.onlyIf (!s.locked && !s.missing s.activeSrc) fun s => s.putRbit Reg.sysClkStat 0 true
  | .released =>
    s.onlyIf (!s.locked && !s.missing s.activeSrc) fun s => enterLoad (s.putRbit Reg.sysClkStat 0 true)
  | .out => s.onlyIf (!s.locked) fun s => s.putRbit Reg.sysClkStat 0 true

/-- A reference has been missing for four of its nominal periods (R32). In RESET the registers are held, and the loss shows as it is
left. DESIGN CHOICE (log 86): a W1C of TIN_LOSS or REF_LOSS while that reference is still missing leaves the bit 0 until the
reference has returned and is lost again. -/
def refLoss (tin : Bool) (s : Engine) : Engine :=
  s.onlyIf (!s.missing tin) fun s =>
    let s := if tin then { s with clk.tinMissing := true } else { s with clk.refclkMissing := true }
    s.unlessReset fun s =>
      let s := s.putRbit Reg.sysClkStat (if tin then 5 else 4) true
      if s.activeSrc = tin then s.setHoldover.raise 0 0 else s

/-- A reference returns (R32): the PLL relocks to the selected one hitlessly and HOLDOVER clears. -/
def refReturn (tin : Bool) (s : Engine) : Engine :=
  s.onlyIf (s.missing tin) fun s =>
    (if tin then { s with clk.tinMissing := false } else { s with clk.refclkMissing := false } : Engine).unlessReset
      Engine.setHoldover

/-- The root PLL loses lock (R33). DESIGN CHOICE (log 86): in RESET, whose registers and collector are held, only LOCK clears; UNLOCK
stays 0 and nothing is reported. -/
def pllUnlock (s : Engine) : Engine :=
  s.onlyIf s.locked fun s =>
    let s := s.putRbit Reg.sysClkStat 0 false
    s.unlessReset fun s => (s.putRbit Reg.sysClkStat 6 true).raise 1 0

def execRefChangeComplete (s : State) : Host.Outcome State Fault Refusal := s.run refChangeComplete

def execPllLock (s : State) : Host.Outcome State Fault Refusal := s.run pllLock

def execRefLoss (tin : Bool) (s : State) : Host.Outcome State Fault Refusal := s.run (refLoss tin)

def execRefReturn (tin : Bool) (s : State) : Host.Outcome State Fault Refusal := s.run (refReturn tin)

def execPllUnlock (s : State) : Host.Outcome State Fault Refusal := s.run pllUnlock

end Sys2Proof.Machine
end

