-- ==== Sys2Proof/Machine/Sched.lean ====
section
/-! DEFINITION. The reconfiguration scheduler: submissions, admission, buckets, gate lists, arming, deadlines and cancellation
(chapter 09). -/

namespace Sys2Proof.Machine

open Sys2Proof

/-! ### Stamps -/

/-- The stamp that the edge k TICK ahead will have at the rate in force, in units of 2^−48 ns. -/
def Engine.stamp (s : Engine) (k : Nat) : Nat := s.time + k * s.increment

/-- How many TICK ahead the first edge with a stamp at or after t lies. -/
def edgesTo (s : Engine) (t : Nat) : Nat := if t ≤ s.time then 0 else (t - s.time + s.increment - 1) / s.increment

/-- A TICK of time-base time. -/
def tickUnits : Nat := 4 * nsUnit

/-! ### Gate lists and windows (R226 to R231) -/

/-- Whether an entry admits a requester. -/
def admits (e : Word × Word × Word) (q : Nat) : Bool :=
  bit e.1 24 && (if q < 32 then bit e.2.1 q else if q < 64 then bit e.2.2 (q - 32) else bit e.1 25)

def entryLen (e : Word × Word × Word) : Nat := fld e.1 0 24 * tickUnits

/-- The entry that an offset within the cycle lies in, and the offset at which it ends. -/
def entryAt : List (Word × Word × Word) → Nat → Nat → Nat → Option (Nat × Nat)
  | [], _, _, _ => none
  | e :: l, i, start, pos => if pos < start + entryLen e then some (i, start + entryLen e) else entryAt l (i + 1) (start + entryLen e) pos

/-- How long a requester stays admitted from an entry on, over at most n entries; none: through all of them. -/
def admittedFor (L : GateList) (q : Nat) : Nat → Nat → Option Nat
  | 0, _ => none
  | n + 1, i =>
    let e := L.entries.getD (i % L.entries.length) (0, 0, 0)
    if admits e q then (admittedFor L q n (i + 1)).map (entryLen e + ·) else some 0

/-- The end of the window that holds time t under a list: none outside a window, `some none` a window without end. -/
def windowEnd (L : GateList) (q t : Nat) : Option (Option Nat) :=
  let cyc := L.cycle * tickUnits
  if t < L.base ∨ cyc = 0 then none
  else
    let pos := (t - L.base) % cyc
    match entryAt L.entries 0 0 pos with
    | none => none
    | some (i, fin) =>
      if admits (L.entries.getD i (0, 0, 0)) q then
        some ((admittedFor L q L.entries.length (i + 1)).map fun more => t + (fin - pos) + more)
      else none

/-- The effective start of the locked list (R229). -/
def effectiveStart (s : Engine) : Option Nat :=
  match s.sch.locked with
  | none => none
  | some (_, start, v250) =>
    let t := max start v250
    match s.sch.active with
    | none => some (s.stamp (edgesTo s t))
    | some L =>
      let cyc := L.cycle * tickUnits
      some (if t ≤ L.base then L.base else L.base + (t - L.base + cyc - 1) / cyc * cyc)

/-- The list in force at a time, and when a coming list ends it. -/
def listAt (s : Engine) (t : Nat) : Option (GateList × Option Nat) :=
  match effectiveStart s, s.sch.locked with
  | some e, some (L, _, _) =>
    if e ≤ t then some ({ L with base := e }, none) else s.sch.active.map fun A => (A, some e)
  | _, _ => s.sch.active.map fun A => (A, none)

/-- The settle allowance A (R231). -/
def settle (s : Engine) : Nat := 8 + s.rfld Reg.schGuard 0 16

/-- Whether the edge k TICK ahead fits a window of a requester: it lies in one, and the edge A later is at or before its end. -/
def fits (s : Engine) (q k : Nat) : Bool :=
  let t := s.stamp k
  match listAt s t with
  | none => false
  | some (L, until_) =>
    match windowEnd L q t with
    | none => false
    | some fin =>
      let last := s.stamp (k + settle s - 1)
      (match fin with | some e => decide (last < e) | none => true) &&
      (match until_ with | some e => decide (last < e) | none => true)

/-- Entry starts of a list's cycles from the present one on. -/
def entryStarts (L : GateList) (now : Nat) : List Nat :=
  let cyc := L.cycle * tickUnits
  let k := if cyc = 0 then 0 else (now - L.base) / cyc
  let offs := (L.entries.foldl (fun (acc : List Nat × Nat) e => (acc.1 ++ [acc.2], acc.2 + entryLen e)) ([], 0)).1
  (List.range 4).flatMap fun i => offs.map fun o => L.base + (k + i) * cyc + o

/-- The earliest fitting edge at or after k0, within the search span of R219. -/
def earliestFit (s : Engine) (q k0 : Nat) : Option Nat :=
  match s.sch.active with
  | none => none
  | some A =>
    let cyc := A.cycle * tickUnits
    let spanEnd := if cyc = 0 then 0 else A.base + ((s.time - A.base) / cyc + 2) * cyc
    let pend : List Nat := match effectiveStart s, s.sch.locked with
      | some e, some (L, _, _) =>
        let c := L.cycle * tickUnits
        let n := if c = 0 ∨ spanEnd < e then 0 else (spanEnd - e) / c + 1
        let offs := (L.entries.foldl (fun (acc : List Nat × Nat) w => (acc.1 ++ [acc.2], acc.2 + entryLen w)) ([], 0)).1
        (List.range n).flatMap fun i => offs.map fun o => e + i * c + o
      | _, _ => []
    let starts := ((entryStarts A s.time ++ pend).map (edgesTo s)).filter fun k => k0 < k
    let ok := ((k0 :: starts).filter fun k => decide (s.stamp k < spanEnd) && fits s q k)
    ok.foldl (fun m k => match m with | none => some k | some j => some (min j k)) none

/-! ### Submissions (R216 to R218) -/

def queueOf (s : Engine) (q : Nat) : List SchReq := s.sch.queue.filter fun r => r.requester == q

def qlim (s : Engine) (q : Nat) : Nat := s.rfld (if q < 64 then Reg.schTbQueue q else Reg.schOprQ) 0 6

/-- SCH_STAT.PERMUTE_Q: a PERMUTE is queued, routing or building. -/
def permuteBusy (s : Engine) : Bool :=
  (s.sch.queue.any fun r => r.op == 3) || (s.sch.issued.any fun i => i.req.op == 3) ||
  (s.sch.commit.any fun c => c.req.op == 3 && c.stage == .building)

/-- The rows of R218 that its own words decide: the outcome that refuses a submission at once. -/
def refusal (s : Engine) (r : SchReq) (dlNs : Nat) : Option Nat :=
  if 64 < r.requester then some 9
  else if s.mode = .load ∨ s.mode = .calibrate ∨ s.mode = .kennel then some 9
  else if 999999999 < dlNs then some 0xC
  else none

/-- The rows that the queues decide. -/
def queueRefusal (s : Engine) (r : SchReq) : Option Nat :=
  if qlim s r.requester ≤ (queueOf s r.requester).length then some 3
  else if 2048 ≤ s.sch.queue.length then some 3
  else if r.op = 3 ∧ permuteBusy s = true then some 0xB
  else none

/-- The last row: the deadline lies less than 50 TICK ahead. -/
def deadlinePast (s : Engine) (r : SchReq) : Bool :=
  match r.deadline with
  | some d => decide (d * nsUnit < s.stamp 50)
  | none => false

/-- A submission that no row before the last refuses. -/
def enqueue (r : SchReq) (ns : Word) (late : Bool) (s : Engine) : Engine :=
  if late then reportAt ns s 4 0 r else { s with sch.queue := s.sch.queue ++ [r] }

/-- A submission that the queues of its TICK would have refused, judged once that TICK's removals are counted. -/
def submitLate (r : SchReq) (ns : Word) (late : Bool) (s : Engine) : Engine :=
  match queueRefusal s r with
  | some o => reportAt ns s o 0 r
  | none => enqueue r ns late s

/-- A submission at the scheduler: a duplicate is discarded; an accepted one is refused or queued. One that finds no room waits for the
removals of its TICK. -/
def submitRequest (cmd : Word) (requester dlNs : Nat) (dlSec : Word) (seq : Nat) (s : Engine) : Engine :=
  let last := (s.reg Reg.schLastSeqHi).toNat * 2 ^ 32 + (s.reg Reg.schLastSeqLo).toNat
  if s.sch.accepted ∧ seq ≤ last then s.putRbit Reg.schStat 8 true
  else
    let sec := s.nowSec / 2 ^ 32 * 2 ^ 32 + dlSec.toNat
    let r : SchReq :=
      { cmd := cmd, requester := requester, seq := seq, submitted := s.tick, direct := false,
        deadline := if dlNs = 0 ∧ dlSec = 0 then none else some (sec * 1000000000 + dlNs) }
    let s := s.setRegs [(Reg.schLastSeqLo, word seq), (Reg.schLastSeqHi, word (seq / 2 ^ 32))]
    let s := { s with sch.accepted := true }
    match refusal s r dlNs with
    | some o => report s o 0 r
    | none =>
      if (queueRefusal s r).isSome then s.later (.submit r (word s.nowSubNs) (deadlinePast s r))
      else enqueue r (word s.nowSubNs) (deadlinePast s r) s

/-- A member's staged words submitted by its write of SCH_REQ5 (R216, R304). -/
def submitStaged (m : Bool) (seqHi : Word) (s : Engine) : Engine :=
  let w (i : Nat) : Word := get0 s.sch.stage (stageKey m i)
  submitRequest (w 0) (fld (w 1) 0 7) (fld (w 2) 0 30) (w 3) (seqHi.toNat * 2 ^ 32 + (w 4).toNat) s

/-- The six writes of a submission. -/
def submit (b : Bus) (cmd : Word) (q : SubmitWords) (s : Engine) : Engine :=
  s.accessGuarded b fun m s =>
    let ws := [(0, cmd), (1, word q.requester.val), (2, word q.dlNs.toNat), (3, q.dlSec), (4, q.seqLo)]
    submitStaged m q.seqHi { s with sch.stage := memWrites zeroWord s.sch.stage (ws.map fun p => (stageKey m p.1, p.2)) }

/-! ### Admission (R219 to R221) -/

/-- The estimated Whistle edge of an eligible head, in TICK ahead. -/
def eligible (s : Engine) (r : SchReq) : Option Nat :=
  let lead := s.rfld Reg.schLead (if r.op = 3 then 16 else 0) 16
  if r.isPin then some 0
  else if r.requester < 64 ∧ creditOf s r.requester < 1 then none
  else if 1 ≤ r.op ∧ r.op ≤ 3 then earliestFit s r.requester lead
  else some 0

/-- Whether a request comes before another under the keys of R220. -/
def comesFirst (a b : Nat × SchReq) : Bool :=
  let dl (r : SchReq) : Nat × Nat := match r.deadline with | some d => (0, d) | none => (1, 0)
  let who (r : SchReq) : Nat := if r.requester = 64 then 0 else r.requester + 1
  let key (x : Nat × SchReq) : List Nat := [x.1, (dl x.2).1, (dl x.2).2, x.2.submitted, who x.2]
  decide (key a < key b)

/-- The chosen head. -/
def chosenHead (s : Engine) : Option SchReq :=
  let heads := (List.range 65).filterMap fun q => (queueOf s q).head?
  let cands := heads.filterMap fun r => (eligible s r).map fun k => (k, r)
  (cands.foldl (fun m c => match m with | none => some c | some b => some (if comesFirst c b then c else b)) none).map Prod.snd

/-- A direct commit or command still under way after EN has been set again (R221). -/
def directUnderWay (s : Engine) : Bool :=
  (s.sch.issued.any fun i => i.req.direct) || (s.sch.commit.any fun c => c.req.direct)

/-- The scheduler issues a head to the route engine; one that it discards as a duplicate ends ROUTE with DETAIL 0xF, and the next issue
is on a later TICK. The first issue follows the TICK on which EN = 1 took effect (R221). -/
def schIssue (s : Engine) : Engine :=
  s.onlyIf (s.rbit Reg.schCtl 0 && s.sch.enAt != some s.tick && s.sch.dupAt != some s.tick && (s.mode = .hold || s.mode = .run) && !s.routeBusy && s.sch.issued.isNone &&
      !directUnderWay s) fun s =>
    match chosenHead s with
    | none => s
    | some r =>
      let s := { s with sch.queue := s.sch.queue.filter fun o => o.seq != r.seq }
      let dup := routeDuplicate s r.seq
      let s := routeCommand r s
      if dup then report { s with sch.dupAt := some s.tick } 5 0xF r else s

/-- EN written: 1 takes effect on the next TICK (R221). -/
def setSchEn (en : Bool) (s : Engine) : Engine :=
  if !en then { s.putRbit Reg.schCtl 0 false with due := s.due.filter fun d => d != .schEn }
  else if s.rbit Reg.schCtl 0 then s
  else s.later .schEn

/-- EN = 1 takes effect. -/
def startIssuing (s : Engine) : Engine := { s with sch.enAt := some s.tick }.putRbit Reg.schCtl 0 true

def schEnWrite (b : Bus) (en : Bool) (s : Engine) : Engine := s.access b (setSchEn en)

/-! ### Buckets (R223, R224, R293) -/

/-- The old values kept for a refill on the same TICK. -/
def noteTbWrite (t : Nat) (s : Engine) : Engine :=
  let kept := s.sch.tbWrites.filter fun w => w.2.1 == s.tick
  if kept.any (fun w => w.1 == t) then { s with sch.tbWrites := kept }
  else { s with sch.tbWrites := kept ++ [(t, s.tick, s.rfld (Reg.schTbRate t) 0 24, s.rfld (Reg.schTbBurst t) 0 24)] }

def tbRateWrite (b : Bus) (t : Fin 64) (v : Word) (s : Engine) : Engine :=
  s.access b fun s => (noteTbWrite t.val s).setReg (Reg.schTbRate t.val) (v &&& 0xFFFFFF)

def tbBurstWrite (b : Bus) (t : Fin 64) (v : Word) (s : Engine) : Engine :=
  s.access b fun s =>
    let s := (noteTbWrite t.val s).setReg (Reg.schTbBurst t.val) (v &&& 0xFFFFFF)
    let burst := burstOf s t.val
    if 0 < creditOf s t.val ∧ burst < creditOf s t.val then setCredit s t.val burst else s

/-! ### Gate-list commands (R227 to R229) -/

/-- The pending window's list. -/
def pendingList (s : Engine) : GateList :=
  { base := 0, cycle := (s.reg Reg.schGlPendCycle).toNat,
    entries := (List.range (min 256 (s.reg Reg.schGlPendLen).toNat)).map fun i =>
      (get0 s.sch.pend (4 * i), get0 s.sch.pend (4 * i + 1), get0 s.sch.pend (4 * i + 2)) }

def discardList (s : Engine) : Engine := { s with sch.locked := none }

/-- A write of SCH_GL_CMD: nothing while a validation runs; DISCARD, then COMMIT unless a list is locked. -/
def glCommand (b : Bus) (discard commit : Bool) (s : Engine) : Engine :=
  s.access b fun s =>
    if s.sch.validating.isSome then s
    else
      let s := if discard then discardList s else s
      if commit && s.sch.locked.isNone then { s with sch.validating := some s.tick } else s

/-- Why a gate list of a length, a cycle and some durations is refused. -/
def gateFault (len cycle : Nat) (durs : List Nat) : Option Nat :=
  if len = 0 ∨ 256 < len then some 1
  else if durs.any (· == 0) then some 2
  else if durs.foldl (· + ·) 0 ≠ cycle ∨ cycle < 250 then some 3
  else none

/-- Why a pending list is refused. -/
def listFault (s : Engine) : Option Nat :=
  let L := pendingList s
  gateFault (s.reg Reg.schGlPendLen).toNat L.cycle (L.entries.map fun e => fld e.1 0 24)

/-- START of the pending list as a stamp. -/
def pendStart (s : Engine) : Nat :=
  (((s.reg Reg.schGlPendStartSecHi).toNat * 2 ^ 32 + (s.reg Reg.schGlPendStartSecLo).toNat) * 1000000000 +
    (s.reg Reg.schGlPendStartNs).toNat) * nsUnit

/-- The validation ends on this edge V. -/
def glValidationEnd (s : Engine) : Engine :=
  s.onlyIf (s.mode ≠ .reset && s.sch.validating.isSome) fun s =>
    let s := { s with sch.validating := none }
    match listFault s with
    | some reason => (s.putRbit Reg.schGlStat 3 true).putRfld Reg.schGlStat 6 2 reason
    | none =>
      let v250 := s.stamp 250
      let s := if pendStart s < v250 then s.putRbit Reg.schGlStat 4 true else s
      { s with sch.locked := some (pendingList s, pendStart s, v250) }

/-- A stamp's seconds and nanoseconds. -/
def stampSec (t : Nat) : Nat := t / nsUnit / 1000000000
def stampNs (t : Nat) : Nat := t / nsUnit % 1000000000

/-- The replaced list moved to the pending half, unlocked. -/
def toPending (L : GateList) (s : Engine) : Engine :=
  let ws := L.entries.mapIdx fun i e => [(4 * i, e.1), (4 * i + 1, e.2.1), (4 * i + 2, e.2.2)]
  let s := { s with sch.pend := memWrites zeroWord [] ws.flatten }
  s.setRegs [
    (Reg.schGlPendCycle, word L.cycle), (Reg.schGlPendLen, word L.entries.length), (Reg.schGlPendStartNs, word (stampNs L.base)),
    (Reg.schGlPendStartSecLo, word (stampSec L.base)), (Reg.schGlPendStartSecHi, word (stampSec L.base / 2 ^ 32))]

/-- Writes of the pending half on the TICK of an activation go into the half that is pending after it, one TICK later (R23). -/
def holdPendWrites (s : Engine) : Engine :=
  { s with due := s.due ++ (s.halfWrites.reverse.filter fun w => match w with
      | .pend _ _ => true
      | _ => false).map Due.half }

/-- Whether the locked list's effective start has come. -/
def lockedDue (s : Engine) : Bool :=
  match effectiveStart s with
  | some e => decide (e ≤ s.time)
  | none => false

/-- The locked list becomes active at its effective start; at most one list does so on any edge. -/
def glActivate (s : Engine) : Engine :=
  match effectiveStart s, s.sch.locked with
  | some e, some (L, _, _) =>
    s.onlyIf (s.mode ≠ .reset && decide (e ≤ s.time) && s.sch.listAt != some s.tick) fun s =>
      let old := s.sch.active
      let s := { s with sch.active := some { L with base := e }, sch.locked := none, sch.listAt := some s.tick }
      let s := match old with
        | some A => toPending A s
        | none => s
      (holdPendWrites s).putRbit Reg.schGlStat 5 true
  | _, _ => s

/-- The default list becomes active at its base, unless a committed list already is. On the edge of a committed list's effective start
that list does. -/
def glDefaultActivate (s : Engine) : Engine :=
  match s.sch.default with
  | none => s
  | some L =>
    s.onlyIf (s.mode ≠ .reset && decide (L.base ≤ s.time)) fun s =>
      if s.sch.active.isSome then { s with sch.default := none }
      else s.onlyIf (!lockedDue s) fun s =>
        { s with sch.default := none, sch.active := some L, sch.listAt := some s.tick }

/-- Whether the pending window and its registers take writes. -/
def Engine.pendOpen (s : Engine) : Bool := s.sch.validating.isNone && s.sch.locked.isNone

/-- The bits of a word of the pending window that an entry gives a meaning; its other bits read 0 (R14, R226). -/
def entryMask (i : Nat) : Word := if i % 4 = 0 then 0x03FFFFFF else if i % 4 = 3 then 0 else 0xFFFFFFFF

/-- A word of the pending half: its entries, and CYCLE, LEN and START (R226, R229, R433). -/
def pendStore (a : Nat) (v : Word) (s : Engine) : Engine :=
  if a = Reg.schGlPendStartNs then (if 999999999 < v.toNat then s.putRbit Reg.schGlStat 8 true else s.setReg a v)
  else if a = Reg.schGlPendStartSecLo then s.holdLow a v
  else if a = Reg.schGlPendStartSecHi then s.applyPair Reg.schGlPendStartSecLo a v
  else if Reg.schGlPend 0 ≤ a then
    let i := (a - Reg.schGlPend 0) / 4
    { s with sch.pend := put0 s.sch.pend i (v &&& entryMask i) }
  else s.setReg a v

/-- A write of the pending half: ignored while it is locked or validated, but that its last beat may fall in the TICK of its activation
(R23). -/
def pendWrite (a : Nat) (v : Word) (s : Engine) : Engine := if s.pendOpen then pendStore a v s else s.noteHalf (.pend a v)

/-- A write of SCH_GL_PEND_START_NS (R433). -/
def glStartNsWrite (b : Bus) (v : Word) (s : Engine) : Engine := s.access b (pendWrite Reg.schGlPendStartNs v)

/-! ### Arming (R232, R233) -/

/-- The comparator armed for edge W, the estimate reserved (R233, R253). -/
def armCommit (c : Commit) (s : Engine) : Engine :=
  let w := s.stamp 50
  let s := { s with sch.commit := some { c with stage := .armed (s.tick + 50) }, pwr.ebkt := s.pwr.ebkt - c.result.energy,
                    sch.eResv := c.result.energy }
  armWhistle 50 (s.setRegs [(Reg.schArm, putBit (word c.req.requester) 31 true), (Reg.schArmNs, word (stampNs w))])

/-- Whether the decision on this edge arms. -/
def mayArm (s : Engine) (c : Commit) : Bool :=
  s.mode = .run && fits s c.req.requester 50 &&
  (match c.req.deadline with | some d => decide (s.stamp 50 ≤ d * nsUnit) | none => true) &&
  decide (s.sch.wPrev + 250 + s.sch.pause ≤ s.tick + 50) && decide (c.result.energy ≤ s.pwr.ebkt)

/-- An arming decision, from 10 TICK after verification on; the first one cancels what the capacity cannot cover (R233). -/
def armDecision (s : Engine) : Engine :=
  match s.sch.commit with
  | none => s
  | some c =>
    match c.stage with
    | .waiting v decided =>
      s.onlyIf (decide (v + 10 ≤ s.tick)) fun s =>
        if !decided && decide (ebktCap s < c.result.energy) then cancelCommit s 0xA 0
        else if mayArm s c then armCommit c s
        else { s with sch.commit := some { c with stage := .waiting v true } }
    | _ => s

/-! ### Deadlines and cancellation (R234, R235) -/

/-- Whether a request's deadline edge lies at most 50 TICK ahead. -/
def overdue (s : Engine) (r : SchReq) : Bool :=
  match r.deadline with
  | some d => decide (d * nsUnit ≤ s.stamp 50)
  | none => false

def Commit.isArmed (c : Commit) : Bool := match c.stage with | .armed _ => true | _ => false

/-- Whether the decision on this edge will arm a commit: it prevents MISSED (R234). -/
def willArm (s : Engine) (c : Commit) : Bool :=
  match c.stage with
  | .waiting v decided => decide (v + 10 ≤ s.tick) && (decided || decide (c.result.energy ≤ ebktCap s)) && mayArm s c
  | _ => false

/-- Every request and commit due is cancelled with MISSED, whatever its stage. -/
def deadlineMissed (s : Engine) : Engine :=
  s.unlessReset fun s =>
    let due := s.sch.queue.filter (overdue s)
    let s := { s with sch.queue := s.sch.queue.filter fun r => !overdue s r }
    let s := due.foldl (fun s r => report s 4 0 r) s
    let s := if s.sch.issued.any (fun i => overdue s i.req) then cancelIssued s 4 true else s
    if s.sch.commit.any (fun c => overdue s c.req && !c.isArmed && !willArm s c) then cancelCommit s 4 0 else s

/-- The issued request, else the commit, is cancelled. -/
def cancelPresent (s : Engine) : Engine :=
  if s.sch.issued.isSome then cancelIssued s 7 false
  else match s.sch.commit with
    | none => s
    | some c =>
      match c.stage with
      | .armed w => if w < s.tick + 4 then s.putRbit Reg.schStat 12 true else cancelCommit s 7 0
      | _ => cancelCommit s 7 0

/-- A write of SCH_CTL.CANCEL. -/
def schCancel (b : Bus) (s : Engine) : Engine := s.access b cancelPresent

/-! ### Meanings -/

def execSchIssue (s : State) : Host.Outcome State Fault Refusal := s.run schIssue

def execRefillEdge (s : State) : Host.Outcome State Fault Refusal := s.run refillEdge

def execGlValidationEnd (s : State) : Host.Outcome State Fault Refusal := s.run glValidationEnd

def execGlActivate (s : State) : Host.Outcome State Fault Refusal := s.run glActivate

def execGlDefaultActivate (s : State) : Host.Outcome State Fault Refusal := s.run glDefaultActivate

def execArmDecision (s : State) : Host.Outcome State Fault Refusal := s.run armDecision

def execDeadlineMissed (s : State) : Host.Outcome State Fault Refusal := s.run deadlineMissed

end Sys2Proof.Machine
end

