-- ==== Sys2Proof/Machine/ImageCheck.lean ====
section
/-! DEFINITION. The checks of a structure image that the engine makes on what its sections give the blocks (R26, R264, R270, R273,
R373). -/

namespace Sys2Proof

open Sys2Proof.Machine

/-! ### ELEMENT_MAP and SCAN_ORDER (R26, R183) -/

/-- The lane slot of an element as 72·lane + slot, and its drive cell. -/
def Image.slotNo (img : Image) (e : Nat) : Nat := (get0 img.laneSlot e).toNat - 1
def Image.cellNo (img : Image) (v : Variant) (e : Nat) : Nat := if v = .pq512 then e else (get0 img.driveCell e).toNat

/-- Every element has one lane slot and one drive cell of its own, and nothing else has a slot. -/
def Image.placedOk (v : Variant) (img : Image) : Bool :=
  let es := List.range v.elements
  es.all (fun e => get0 img.laneSlot e != 0 && decide (img.slotNo e / 72 < 512 ∧ img.slotNo e % 72 < 68 ∧ img.cellNo v e < 34816)) &&
    distinct (es.map img.slotNo) && distinct (es.map (img.cellNo v)) && img.laneSlot.all fun p => decide (p.1 < v.elements)

/-- The slots of a lane in scan order. -/
def Image.scanOf (img : Image) (lane : Nat) : List Nat := (List.range 68).map fun i => (get0 img.scanOrder (128 * lane + i)).toNat

/-- Every lane's order is a permutation of its slots. -/
def Image.scanOk (img : Image) : Bool :=
  (List.range 512).all fun l => distinct (img.scanOf l) && (img.scanOf l).all fun x => decide (x < 68)

/-- The four elements of a cell stand one after the other in the scan of one lane. -/
def Image.cellOk (img : Image) (cell : Nat) : Bool :=
  let slots := (cellElements cell).map img.slotNo
  let lane := slots.headD 0 / 72
  let order := img.scanOf lane
  let i := order.findIdx (· == slots.headD 0 % 72)
  slots == ((order.drop i).take 4).map fun x => 72 * lane + x

/-! ### EVENT_ROUTES (R264, R270, R273) -/

/-- Whether a machine's program holds an instruction of a CTRL operation, with a WAIT's condition (R153). -/
def Image.hasCtrl (img : Image) (k op : Nat) (cond : Option Nat) : Bool :=
  img.program.any fun p => p.1 / 8192 == k && fld p.2 24 8 == op && (cond.isNone || cond == some (fld p.2 16 4))

/-- The producer as which a consumer emits again. -/
def Image.reEmits (img : Image) (c : Nat) : Option Nat :=
  let lp (k cond : Nat) : Option Nat := if img.hasCtrl k 7 (some cond) && img.hasCtrl k 9 none then some (0x70 + k) else none
  if c = 1 then some 0xA0
  else if c = 2 then some 0xA1
  else if 0x10 ≤ c ∧ c ≤ 0x30 then lp (c - 0x10) 4
  else if 0x40 ≤ c ∧ c ≤ 0x60 then lp (c - 0x40) 5
  else none

/-- Whether an event on channel a can lead to one on channel b. -/
def Image.leadsTo (img : Image) (a b : Nat) : Bool := img.reEmits (chConsumer (get0 img.routes a)) == some (chProducer (get0 img.routes b))

/-- Channels of a list that lead to none of it are taken out. -/
def Image.pruneRoutes (img : Image) (l : List Nat) : List Nat := l.filter fun a => l.any (img.leadsTo a)

/-- The routes have no closed path: what is left of the enabled channels after 64 prunings is empty. -/
def Image.acyclic (img : Image) : Bool :=
  (iterate img.pruneRoutes 64 ((List.range 64).filter fun n => chEn (get0 img.routes n))).isEmpty

/-- Every channel word passes the checks of R273 that a request of the supervisor meets; a word of 0 names nothing (DEDUCED, log 91). -/
def Image.routesOk (img : Image) : Bool :=
  (List.range 64).all fun n => get0 img.routes n == 0 || (wordRefusal (get0 img.routes) n (get0 img.routes n)).isNone

/-! ### KENNEL_REF -/

/-- The Kennel map is the permutation that its cells give, with no connection. -/
def Image.kennelOk (v : Variant) (img : Image) : Bool :=
  (List.range v.ports).map (fun i => mapOut (get0 img.kennelMap i)) == permOfCells v.logPorts img.kennelCells &&
    img.kennelMap.all fun p => !mapConn p.2

/-! ### The whole image -/

/-- The checks on the sections as the blocks read them. That no port is owned by two tenants lies in the form of the ownership
lists. -/
def Image.checked (v : Variant) (img : Image) : Bool :=
  img.placedOk v && img.scanOk && (List.range (2 * v.planeCells)).all img.cellOk && img.routesOk && img.acyclic &&
    (gateFault img.gateEntries.length img.gateCycle (img.gateEntries.map fun e => fld e.1 0 24)).isNone && img.kennelOk v &&
    limitsOk img.limCold img.limHot img.limSd

end Sys2Proof
end

