-- ==== Sys2Proof/Machine/Store.lean ====
section
/-! DEFINITION. Operations of the MRAM store: selection and choice of slots (R366, R367), checks of a structure image (R369,
R370, R373), single records (R378, R379), keys and ownership (R380), and what firmware rebuilds from the store (R312, R377). -/

namespace Sys2Proof.Machine

open Sys2Proof

/-- The selected checkpoint, calibration and Kennel slots. -/
def pickCkpt (s : Engine) : Option (Bool × Bool) :=
  pickSlot s.nvm.ckpt.1.commit s.nvm.ckpt.2.commit (s.nvm.ckpt.1.data == s.nvm.ckpt.2.data)

def pickCal (s : Engine) : Option (Bool × Bool) :=
  pickSlot s.nvm.cal.1.commit s.nvm.cal.2.commit (s.nvm.cal.1.set == s.nvm.cal.2.set)

def sameKennel (a b : KennelSlot) : Bool := a.calGen == b.calGen && a.imgGen == b.imgGen && a.words == b.words

def pickKen (s : Engine) : Option (Bool × Bool) :=
  pickSlot s.nvm.ken.1.commit s.nvm.ken.2.commit (sameKennel s.nvm.ken.1 s.nvm.ken.2)

/-! ### Structure image (R369, R370, R373) -/

/-- The words of a tile. -/
def imageTile (ws : List Word) (t : Nat) : List Word := (ws.drop (1024 * t)).take 1024

/-- A header's directory: kind, instance, first tile and tile count of each section. -/
def imageSections (ws : List Word) : List (Nat × Nat × Nat × Nat) :=
  (List.range (ws.getD 23 0).toNat).map fun i =>
    let a := ws.getD (24 + 2 * i) 0
    (fld a 0 8, fld a 8 8, fld a 16 16, fld (ws.getD (25 + 2 * i) 0) 0 16)

/-- A tile is correct: its CRC matches, and its TILE_ID names its position and its section. -/
def tileOk (ws : List Word) (t : Nat) : Bool :=
  let tile := imageTile ws t
  let id := tile.getD 0 0
  tile.length == 1024 && crc32c (tile.take 1023) == tile.getD 1023 0 && fld id 0 16 == t &&
    (t == 0 || (imageSections ws).any fun d => d.1 == fld id 16 8 && d.2.1 == fld id 24 8 &&
      decide (d.2.2.1 ≤ t ∧ t < d.2.2.1 + d.2.2.2))

/-- Byte address of the first record of a tile: after the slot's header record (R364, R365). -/
def tileAddress (slot : Bool) (t : Nat) : Nat := (if slot then 0x400000 else 0) + 64 + 4096 * t

/-- TILES of the header. -/
def imageTiles (ws : List Word) : Nat := (ws.getD 4 0).toNat

def variantCode (v : Variant) : Nat := match v with | .pq512 => 0 | .pq256 => 1 | .pq128 => 2

/-- Every required section once, LP_PROGRAM and LP_COEFF once for each machine, no other kind, every later tile in one section. -/
def sectionsOk (ws : List Word) : Bool :=
  let ds := imageSections ws
  let count (k : Nat) : Nat := (ds.filter fun d => d.1 == k).length
  let each (k : Nat) : Bool := (List.range 33).all fun i => (ds.filter fun d => d.1 == k && d.2.1 == i).length == 1
  decide (1 ≤ ds.length ∧ ds.length ≤ 255) && (ds.all fun d => decide (1 ≤ d.1 ∧ d.1 ≤ 12)) &&
    ([1, 2, 3, 6, 7, 8, 9, 10, 11, 12].all fun k => count k == 1) && count 4 == 33 && count 5 == 33 && each 4 && each 5 &&
    (List.range (imageTiles ws - 1)).all fun t =>
      (ds.filter fun d => decide (d.2.2.1 ≤ t + 1 ∧ t + 1 < d.2.2.1 + d.2.2.2)).length == 1

/-- The words that the signature covers: every tile, with the signature and the header tile's CRC taken as 0. -/
def signedWords (ws : List Word) : List Word :=
  ws.mapIdx fun i w => if (7 ≤ i ∧ i ≤ 22) ∨ i = 1023 then 0 else w

/-- The signature verifies against the vendor key or the enrolled operator key, as SIGNER says. -/
def signatureGood (s : Engine) (ws : List Word) : Bool :=
  let sig := (ws.drop 7).take 16
  match (ws.getD 5 0).toNat with
  | 0 => Config.signatureOk Config.vendorKey (signedWords ws) sig
  | 1 =>
    match s.nvm.keys[(0 : Fin 66)] with
    | some k => Config.signatureOk k.key (signedWords ws) sig
    | none => false
  | _ => false

/-- The header and the sections are those of an image of this engine. -/
def headerOk (s : Engine) (ws : List Word) : Bool :=
  (ws.getD 1 0).toNat == 0x5051494D && (ws.getD 2 0).toNat == 1 && (ws.getD 3 0).toNat == variantCode s.variant &&
    decide (2 ≤ imageTiles ws ∧ imageTiles ws ≤ 1023) && ws.length == 1024 * imageTiles ws && sectionsOk ws

/-- Every tile is correct and the signature verifies. -/
def authentic (s : Engine) (ws : List Word) : Bool :=
  (List.range (imageTiles ws)).all (tileOk ws) && signatureGood s ws

/-- An image is valid: it is authentic and passes every check that the engine makes, on its bytes and on what they mean. -/
def imageValid (s : Engine) (ws : List Word) : Bool :=
  headerOk s ws && authentic s ws && Config.checksOk ws && Image.checked s.variant (Config.imageOf ws)

/-- A slot's commit record, if its image is valid. -/
def imageCommit (s : Engine) (x : ImageSlot) : Option CommitRec := if imageValid s x.tiles then x.commit else none

def pickImg (s : Engine) : Option (Bool × Bool) :=
  pickSlot (imageCommit s s.nvm.img.1) (imageCommit s s.nvm.img.2) (s.nvm.img.1.tiles == s.nvm.img.2.tiles)

/-! ### Single records (R378, R379) -/

/-- Word address (byte address ÷ 4) of a record of SESS and of FLOG. -/
def sessWord (n : Nat) : Nat := 0x0BA0000 / 4 + 16 * n
def flogWord (pos : Nat) : Nat := 0x0BC0000 / 4 + 16 * pos
def sdlogBase (pos : Nat) : Nat := 0x0BE0000 / 4 + 16 * pos

def recordWords (m : Mem) (a : Nat) : List Word := (List.range 16).map fun i => get0 m (a + i)

/-- A single record carries its own check. -/
def recordOk (ws : List Word) : Bool := crc32c (ws.take 15) == ws.getD 15 0

def writeRecord (a : Nat) (ws : List Word) (s : Engine) : Engine :=
  { s with nvm.raw := memWrites zeroWord s.nvm.raw (ws.mapIdx fun i w => (a + i, w)) }

/-- The session record written with a number and the next write count. -/
def writeSess (n seq : Nat) (s : Engine) : Engine :=
  let ws := [word seq, word (seq / 2 ^ 32), get0 s.nvm.raw (sessWord n + 2) + 1] ++ List.replicate 12 0
  writeRecord (sessWord n) (ws ++ [crc32c ws]) s

/-- The number that a session's record gives; 0 where it fails its check. -/
def readSess (s : Engine) (n : Nat) : Nat :=
  let ws := recordWords s.nvm.raw (sessWord n)
  if recordOk ws then (ws.getD 1 0).toNat * 2 ^ 32 + (ws.getD 0 0).toNat else 0

/-- The highest count of the valid records of a log, a record of zeros apart. -/
def highestCount (m : Mem) (base n : Nat) (count : List Word → Nat) : Nat :=
  (List.range n).foldl (fun top i =>
    let ws := recordWords m (base + 16 * i)
    if recordOk ws then max top (count ws) else top) 0

/-! ### Keys and ownership (R380) -/

def putKey (n : Fin 66) (k : KeySlot) (s : Engine) : Engine := { s with nvm.keys := s.nvm.keys.set n (some k) }

/-- The key slot of a tenant. -/
def tenantSlot (t : Fin 64) : Fin 66 := ⟨t.val + 1, by omega⟩

def keyOf (s : Engine) (n : Fin 66) : List Word := match s.nvm.keys[n] with | some k => k.key | none => []

/-- The tenant that owns a port: by its key slot, or, with an empty slot, by the image's initial ownership. -/
def ownerOf (s : Engine) (img : Option Image) (isOut : Bool) (p : Nat) : Option (Fin 64) :=
  let owns (t : Fin 64) : Bool :=
    match s.nvm.keys[tenantSlot t] with
    | some k => (if isOut then k.outputs else k.inputs).contains p
    | none => false
  match (List.finRange 64).find? owns with
  | some t => some t
  | none =>
    match img with
    | none => none
    | some i =>
      match (if isOut then i.ownOut else i.ownIn).getD p none with
      | some t => if (s.nvm.keys[tenantSlot t]).isNone then some t else none
      | none => none

/-- Firmware's table of port owners formed again. -/
def rebuildOwners (img : Option Image) (s : Engine) : Engine :=
  { s with fw.ownIn := Vector.ofFn fun p : Fin 512 => ownerOf s img false p.val,
           fw.ownOut := Vector.ofFn fun p : Fin 512 => ownerOf s img true p.val }

/-! ### What the store gives (R374, R376) -/

/-- The calibration set that the store gives: the selected slot's, or the factory set (R374). -/
def storedSet (s : Engine) : CalSet :=
  match pickCal s with
  | some (sel, _) => (slotOf s.nvm.cal sel).set
  | none => s.nvm.factory

/-- The image of the selected slot, and its GEN. -/
def storedImage (s : Engine) : Option (Image × Nat) :=
  match pickImg s with
  | some (sel, _) =>
    let x := slotOf s.nvm.img sel
    some (Config.imageOf x.tiles, genOf x.commit)
  | none => none

/-- Whether the selected Kennel slot was built from the selected calibration and image. -/
def kennelCurrent (s : Engine) (imgGen : Nat) : Bool :=
  match pickKen s with
  | some (sel, _) => (slotOf s.nvm.ken sel).calGen == (storedSet s).gen && (slotOf s.nvm.ken sel).imgGen == imgGen
  | none => false

/-! ### Sets under way (R366) -/

/-- The Kennel image is to be built again and stored (R376). -/
def rebuildDue (s : Engine) : Bool :=
  match storedImage s with
  | some (_, gen) => s.mode ≠ .reset && s.activeMember.isSome && s.nvm.selected && !s.nvmHeld && !kennelCurrent s gen
  | none => false

/-- The checkpoint of a minute is to be stored (R377). -/
def ckptDue (s : Engine) : Bool := s.fw.ckptDue.isSome && s.mode ≠ .reset && s.activeMember.isSome && !s.nvmHeld

def kenTarget (s : Engine) : Bool × Nat := nextSlot s.nvm.ken.1.commit s.nvm.ken.2.commit (sameKennel s.nvm.ken.1 s.nvm.ken.2)

def ckptTarget (s : Engine) : Bool × Nat :=
  nextSlot s.nvm.ckpt.1.commit s.nvm.ckpt.2.commit (s.nvm.ckpt.1.data == s.nvm.ckpt.2.data)

/-- The slots into which firmware may be writing a set now. -/
def setsUnderWay (s : Engine) : List (Fin 8) :=
  (if calStoreDue s then [if (calTarget s).1 then 3 else 2] else []) ++ (if rebuildDue s then [if (kenTarget s).1 then 5 else 4] else []) ++
    (if ckptDue s then [if (ckptTarget s).1 then 7 else 6] else [])

/-- A set that is interrupted leaves its slot invalid: its commit record was overwritten first. Whether its writing had begun is a free
value. -/
def tearSets (s : Engine) : Engine :=
  (setsUnderWay s).foldl (fun s i => let (w, s) := s.freeWord; if bit w 0 then invalidate i s else s) s

/-! ### What firmware rebuilds (R261, R312, R377, R378) -/

/-- Sessions with the numbers of SESS, and nothing else open. -/
def rebuildSessions (s : Engine) : Engine :=
  { s with fw.sessions := Vector.ofFn fun n : Fin 65 => { Session.reset with lastSeq := readSess s n.val } }

/-- The ledger pointers and accumulators from the selected checkpoint, and the ring with a GAP record for each tenant that held a connection then. -/
def rebuildRing (s : Engine) : Engine :=
  match pickCkpt s with
  | some (sel, _) =>
    let c := (slotOf s.nvm.ckpt sel).data
    c.tenants.foldl (fun s t => ringGap t c.minute (s.time / minuteUnits - c.minute) s)
      { s with fw.ring := [], fw.ringNext := c.next, fw.ckptAcc := c.acc }
  | none => (List.range 64).foldl (fun s t => ringGap t 0 65535 s) { s with fw.ring := [], fw.ringNext := 0, fw.ckptAcc := [] }

end Sys2Proof.Machine
end

