-- ==== Sys2Proof/Machine/TimeBase.lean ====
section
/-! DEFINITION. The time base: rate, steps, sources, the PTP and PPS servos, comparators and TOUT outputs (chapter 10). -/

namespace Sys2Proof.Machine

open Sys2Proof

/-! ### Rate (R242) -/

/-- A RATE put in force, held within ±2^39; RATE_CLIP where it is beyond. -/
def applyRate (r : Int) (s : Engine) : Engine :=
  let c := clampInt (-(2 ^ 39)) (2 ^ 39) r
  (if c = r then s else s.putRbit Reg.timStat 6 true : Engine) |> fun s => { s with tim.rate := c }

/-- A servo's RATE: the registers show it. -/
def steerRate (r : Int) (s : Engine) : Engine :=
  let s := applyRate r s
  let v := twos 48 s.tim.rate
  s.setRegs [(Reg.timRateLo, word v), (Reg.timRateHi, word (v / 2 ^ 32))]

/-- RATE of its two registers, signed in 48 bits. -/
def rateOf (hi lo : Word) : Int :=
  let v : Nat := fld hi 0 16 * 2 ^ 32 + lo.toNat
  if v < 2 ^ 47 then (v : Int) else (v : Int) - 2 ^ 48

/-- A write of TIM_RATE_HI. -/
def timRateWrite (b : Bus) (v : Word) (s : Engine) : Engine :=
  s.access b fun s =>
    let s := s.applyPair Reg.timRateLo Reg.timRateHi (v &&& 0xFFFF)
    applyRate (rateOf v (s.reg Reg.timRateLo)) { s with tim.linkRate := 0 }

/-! ### Steps (R243, R244) -/

/-- A step requested: refused where the Whistle comparator is armed on this edge, else due on the second edge from it. -/
def requestStep (abs : Option Nat) (offset : Int) (link : Bool) (s : Engine) : Engine :=
  if s.whistleArmed then s.putRbit Reg.timStat 5 true
  else { s with tim.steps := s.tim.steps ++ [{ edge := s.tick + 2, abs := abs, offset := offset, link := link }] }

/-- A write of TIM_ADJ_NS: the offset of NS and the held FRAC, which returns to 0. -/
def timAdjust (b : Bus) (v : Word) (s : Engine) : Engine :=
  s.access b fun s =>
    requestStep none (v.toInt * 2 ^ 16 + (s.rfld Reg.timAdjFrac 0 16 : Nat)) false (s.setReg Reg.timAdjFrac 0)

/-- A write of TIM_SET_NS: a set to the written second. -/
def timSet (b : Bus) (v : Word) (s : Engine) : Engine :=
  s.access b fun s =>
    if 999999999 < v.toNat then s.putRbit Reg.timStat 5 true
    else
      let sec := (s.reg Reg.timSetSecHi).toNat * 2 ^ 32 + (s.reg Reg.timSetSecLo).toNat
      requestStep (some (sec * 1000000000 + v.toNat)) 0 false (s.setReg Reg.timSetNs v)

/-- A comparator's target (R252), in units of 2^−48 ns: its registers give whole nanoseconds, a periodic one goes on from it. -/
def cmpTarget (s : Engine) (c : Nat) : Nat :=
  let sec := (s.reg (Reg.timCmpSecHi c)).toNat * 2 ^ 32 + (s.reg (Reg.timCmpSecLo c)).toNat
  (sec * 1000000000 + (s.reg (Reg.timCmpNs c)).toNat) * nsUnit

/-- General comparators whose target a forward step skips match late. -/
def skipTargets (old : Nat) (s : Engine) : Engine :=
  let mark (c : Fin 64) (x : Cmp) : Cmp :=
    if c.val ≠ 0 ∧ x.armed.isSome = true ∧ old < cmpTarget s c ∧ cmpTarget s c < s.time then { x with past := true } else x
  { s with tim.cmps := (List.finRange 64).foldl (fun v (c : Fin 64) => v.set c (mark c v[c])) s.tim.cmps }

/-- One step applied. -/
def applyStep (t : TimeStep) (s : Engine) : Engine :=
  let old := s.time
  let new := match t.abs with
    | some ns => ns * nsUnit % timeModulus
    | none => (((s.time : Int) + t.offset * 2 ^ 32) % (timeModulus : Int)).toNat
  let s := { s with time := new, tim.linkStep := s.tim.linkStep && !t.link }
  ledgerStep (skipTargets old (s.putRbit Reg.timStat 4 true))

/-- The steps due on this edge apply, or are refused where the Whistle comparator has become armed. -/
def timeStep (s : Engine) : Engine :=
  s.unlessReset fun s =>
    let s := rejectSteps s
    let due := s.tim.steps.filter fun t => t.edge ≤ s.tick
    due.foldl (fun s t => applyStep t s) { s with tim.steps := s.tim.steps.filter fun t => s.tick < t.edge }

/-! ### Time read and sources (R241, R245) -/

/-- Key of a master's latch of an address (R341). -/
def latchKey (m : Master) (a : Nat) : Nat :=
  (match m with | .memberA => 0 | .memberB => 1 | .flp => 2) * 2 ^ 32 + a

def timSrc (s : Engine) : Nat := s.rfld Reg.timCtl 0 2

/-- A source selected: LOCKED clears, RATE stays. -/
def selectSrc (v : Fin 4) (s : Engine) : Engine :=
  s.onlyIf (decide (v.val ≠ timSrc s)) fun s =>
    let s := (s.putRfld Reg.timCtl 0 2 v.val).putRbit Reg.timStat 0 false
    { s with tim.inRun := 0, tim.outRun := 0, tim.lastPps := none, tim.badRun := 0, tim.lastSync := none, tim.linkStep := false,
             tim.linkRate := 0, tim.ppsSince := if v.val = 2 then some s.elapsed else none }

/-- A write of TIM_CTL.SRC takes effect on the next TICK edge; a write of 3 changes nothing. -/
def timSrcWrite (b : Bus) (v : Fin 4) (s : Engine) : Engine :=
  s.access b fun s => s.onlyIf (decide (v.val ≠ 3)) fun s => s.later (.timSrc v)

/-! ### Locking (R247, R248) -/

/-- Runs of measurements within the lock band and outside the loss band; LOCKED after as many as each asks for. -/
def judgeLock (inBand outBand : Bool) (toLock toLose : Nat) (s : Engine) : Engine :=
  let i := if inBand then s.tim.inRun + 1 else 0
  let o := if outBand then s.tim.outRun + 1 else 0
  let s := { s with tim.inRun := min i toLock, tim.outRun := min o toLose }
  let s := if toLock ≤ i then s.putRbit Reg.timStat 0 true else s
  if toLose ≤ o then s.putRbit Reg.timStat 0 false else s

/-- Signed 32 bits, saturating. -/
def sat32 (i : Int) : Word := wordOfInt (clampInt (-(2 ^ 31)) (2 ^ 31 - 1) i)

/-! ### PTP (R247) -/

/-- The PTP servo's work on one measurement: t1 to t4, and the correctionFields of its Sync (with its Follow_Up) and its Delay_Resp, in
units of 2^−16 ns (R246, R247). -/
def ptpServoUpdate (t1 t2 t3 t4 sync resp : Int) (s : Engine) : Engine :=
  s.onlyIf (s.mode ≠ .reset && timSrc s == 1 && s.activeMember.isSome) fun s =>
    let d := (t2 - t1 - sync) - (t4 - t3 - resp)
    let us := 2 * 1000 * 65536
    let (published, s) := freeQuot d 512 s
    let s := s.setReg Reg.timPtpOffset (sat32 published)
    let s := judgeLock (decide (d.natAbs ≤ 2 * 10 * 65536)) (decide (2 * 50 * 65536 < d.natAbs)) 8 8 s
    if us < d.natAbs ∧ (s.mode = .load ∨ s.mode = .calibrate ∨ s.mode = .hold) then
      let (offset, s) := freeQuot (-d) 2 s
      requestStep none offset false s
    else steerRate (Config.ptpRate s.tim.rate published s.freeCtr) { s with freeCtr := s.freeCtr + 1 }

/-- No Sync from the selected master within three of its intervals. -/
def ptpLoss (s : Engine) : Engine :=
  match s.tim.lastSync with
  | none => s
  | some (t, interval) =>
    s.onlyIf (s.mode ≠ .reset && timSrc s == 1 && decide (t + 3 * interval ≤ s.elapsed)) fun s =>
      (({ s with tim.lastSync := none, tim.inRun := 0 }.putRbit Reg.timStat 0 false).putRbit Reg.timStat 2 true).raise 80 0

/-! ### The time link (R240, R248 to R250) -/

/-- A stamp of an asynchronous input in units of 2^−8 ns: the counter truncated, and the interpolator's count of 15.625 ps. -/
def asyncStamp (s : Engine) (k : Fin 256) : Nat := s.time / 2 ^ 40 + 4 * k.val

/-- A signed constant of R250. -/
def asym (s : Engine) (a : Nat) : Int := (s.reg a).toInt

/-- A second, and a nanosecond, in units of 2^−8 ns. -/
def secUnits8 : Nat := 256 * 1000000000

/-- Phase error of a stamp against the whole second nearest to it. -/
def phaseError (stamp : Int) : Int := stamp - roundHalfUp stamp secUnits8 * secUnits8

/-- An edge is valid within 1 s ± 1 µs of the previous valid one, in counter time; the first always is. -/
def ppsValid (s : Engine) (arrival : Nat) : Bool :=
  match s.tim.lastPps with
  | none => true
  | some t => decide (999999000 * nsUnit ≤ arrival - t ∧ arrival - t ≤ 1000001000 * nsUnit)

/-- Loss of the time link: the next valid edge is treated as the first. -/
def losePps (s : Engine) : Engine :=
  ({ s with tim.lastPps := none, tim.badRun := 0, tim.linkStep := false, tim.linkRate := 0, tim.ppsSince := none }.putRbit
    Reg.timStat 3 true).raise 81 0

/-- The link servo's change of RATE, which holds until the next edge: that of the edge before ends (R248). -/
def linkSteer (change : Int) (s : Engine) : Engine :=
  let base := s.tim.rate - s.tim.linkRate
  let s := steerRate (base + change) s
  { s with tim.linkRate := s.tim.rate - base }

/-- What the servo does at a valid edge; a step that was refused is made at the next. -/
def servePps (arrival : Nat) (eps : Int) (s : Engine) : Engine :=
  let first := s.tim.lastPps.isNone || s.tim.linkStep
  let s := { s with tim.lastPps := some arrival, tim.badRun := 0, tim.ppsSince := some s.elapsed }.setReg Reg.timPpsErr (sat32 eps)
  let s := judgeLock (decide (eps.natAbs ≤ 256)) (decide (512 < eps.natAbs)) 16 4 s
  if first ∨ 256000 ≤ eps.natAbs then requestStep none (-eps * 2 ^ 8) true (linkSteer 0 { s with tim.linkStep := true })
  else linkSteer (roundHalfUp (-eps * 2 ^ 40) 250000000) s

/-- An invalid edge, counted. -/
def badPps (s : Engine) : Engine :=
  let s := Engine.countHold { s with tim.badRun := s.tim.badRun + 1 } Reg.timStat 16 16
  if 3 ≤ s.tim.badRun then losePps s else s

/-- Elapsed counter time of an arrival in this TICK. -/
def arrivalTime (s : Engine) (k : Fin 256) : Nat := s.elapsed + k.val * 2 ^ 42

/-- Stamp of an edge on TIN_PPS in this TICK (R240, R250). -/
def ppsStamp (s : Engine) (k : Fin 256) : Int := (asyncStamp s k : Int) - asym s Reg.timAsymPpsIn

/-- A rising edge on TIN_PPS in this TICK, at the interpolator's count. -/
def ppsEdge (k : Fin 256) (s : Engine) : Engine :=
  s.unlessReset fun s =>
    let s := s.emit 0xA8
    s.onlyIf (timSrc s == 2) fun s =>
      if ppsValid s (arrivalTime s k) then servePps (arrivalTime s k) (phaseError (ppsStamp s k)) s else badPps s

/-- No valid edge for 1.5 s. -/
def ppsLoss (s : Engine) : Engine :=
  match s.tim.ppsSince with
  | none => s
  | some t => s.onlyIf (s.mode ≠ .reset && timSrc s == 2 && decide (t + 1500000000 * nsUnit ≤ s.elapsed)) losePps

/-! ### Comparators (R252, R253, R433) -/

def Engine.cmp (s : Engine) (c : Fin 64) : Cmp := s.tim.cmps[c]

def Engine.setCmp (s : Engine) (c : Fin 64) (x : Cmp) : Engine := { s with tim.cmps := s.tim.cmps.set c x }

/-- A comparator is armed from the edge after ARM = 1, until the edge after ARM = 0. -/
def Engine.cmpArmed (s : Engine) (c : Fin 64) : Bool :=
  (match (s.cmp c).armed with | some t => decide (t ≤ s.tick) | none => false) &&
  (match (s.cmp c).disarm with | some t => decide (s.tick < t) | none => true)

/-- Whether its target, PERIOD and COUNT are locked: it is armed, or will be on the next edge. -/
def Engine.cmpLocked (s : Engine) (c : Fin 64) : Bool :=
  (s.cmp c).armed.isSome && (match (s.cmp c).disarm with | some t => decide (s.tick < t) | none => true)

/-- A write of a general comparator; comparator 0 has none of the supervisor's writes (R253). -/
def cmpAccess (b : Bus) (c : Fin 64) (f : Engine → Engine) (s : Engine) : Engine :=
  s.access b fun s => if c = 0 then s.putRbit Reg.timStat 7 true else f s

/-- A write of CTL.ARM = 1 with a PERIODIC bit: refused for a periodic comparator with PERIOD 0. -/
def cmpArm (b : Bus) (c : Fin 64) (periodic : Bool) (s : Engine) : Engine :=
  cmpAccess b c (fun s =>
    if periodic && s.reg (Reg.timCmpPeriod c) == 0 then s.putRbit (Reg.timCmpStat c) 3 true
    else
      let s := (s.putRbit (Reg.timCmpCtl c) 1 periodic).putRbit (Reg.timCmpCtl c) 0 true
      if s.cmpLocked c then s.setCmp c { s.cmp c with disarm := none }
      else s.setCmp c { armed := some (s.tick + 1), disarm := none, past := decide (cmpTarget s c ≤ s.time), hits := 0 }) s

/-- A write of CTL.ARM = 0 with a PERIODIC bit. -/
def cmpDisarm (b : Bus) (c : Fin 64) (periodic : Bool) (s : Engine) : Engine :=
  cmpAccess b c (fun s =>
    let s := (s.putRbit (Reg.timCmpCtl c) 1 periodic).putRbit (Reg.timCmpCtl c) 0 false
    if s.cmpLocked c then s.setCmp c { s.cmp c with disarm := some (s.tick + 1) } else s) s

/-- A write of TIM_CMP_NS. -/
def cmpNsWrite (b : Bus) (c : Fin 64) (v : Word) (s : Engine) : Engine :=
  cmpAccess b c (fun s =>
    if s.cmpLocked c then s.putRbit (Reg.timCmpStat c) 2 true
    else if 999999999 < v.toNat then s.putRbit (Reg.timCmpStat c) 4 true
    else s.setReg (Reg.timCmpNs c) v) s

/-- The target of a periodic comparator moved on by PERIOD × 4 ns. -/
def nextTarget (c : Fin 64) (s : Engine) : Engine :=
  let ns := cmpTarget s c / nsUnit + 4 * (s.reg (Reg.timCmpPeriod c)).toNat
  s.setRegs [(Reg.timCmpNs c, word (ns % 1000000000)), (Reg.timCmpSecLo c, word (ns / 1000000000)),
    (Reg.timCmpSecHi c, word (ns / 1000000000 / 2 ^ 32))]

/-- A general comparator's match. -/
def cmpMatchGeneral (c : Fin 64) (s : Engine) : Engine :=
  s.onlyIf (s.mode ≠ .reset && s.cmpArmed c && decide (cmpTarget s c ≤ s.time)) fun s =>
    let x := s.cmp c
    let s := s.putRbit (Reg.timCmpStat c) 0 true
    let s := (if x.past then s.putRbit (Reg.timCmpStat c) 1 true else s).emit c.val
    let count := (s.reg (Reg.timCmpCount c)).toNat
    if s.rbit (Reg.timCmpCtl c) 1 && (count == 0 || decide (x.hits + 1 < count)) then
      (nextTarget c s).setCmp c { x with armed := some (s.tick + 1), past := false, hits := x.hits + 1 }
    else (s.putRbit (Reg.timCmpCtl c) 0 false).setCmp c { armed := none, disarm := none, past := false, hits := x.hits + 1 }

/-! ### TOUT outputs (R254, R255, R433) -/

/-- Whether an access is the secure owner's (R254): firmware in the secure state, never the FLP window. -/
def secureBus (b : Bus) : Bool := b.secure && b.master != .flp

/-- A write of a register of the secure owner in the TIM window. -/
def toutAccess (b : Bus) (f : Engine → Engine) (s : Engine) : Engine :=
  s.access b fun s => if secureBus b then f s else s.putRbit Reg.timStat 7 true

def Engine.setTout (s : Engine) (k : Fin 4) (x : Tout) : Engine := { s with tim.touts := s.tim.touts.set k x }

/-- START in nanoseconds. -/
def toutStart (s : Engine) (k : Nat) : Nat :=
  ((s.reg (Reg.timToutSecHi k)).toNat * 2 ^ 32 + (s.reg (Reg.timToutSecLo k)).toNat) * 1000000000 + (s.reg (Reg.timToutNs k)).toNat

/-- An enabled output begins: a START already past is advanced by whole PERIODs to at least 2 TICK ahead, or, in single mode, is
not pulsed. -/
def toutBegin (k : Fin 4) (periodic : Bool) (s : Engine) : Engine :=
  let start := toutStart s k
  let period := (s.reg (Reg.timToutPeriod k)).toNat
  if s.time < start * nsUnit then s.setTout k { running := true, pulse := false, next := start, made := 0 }
  else
    let s := s.putRbit (Reg.timToutCtl k) 5 true
    if periodic then
      let from_ := s.time + 2 * s.increment
      let n := (from_ - start * nsUnit + period * nsUnit - 1) / (period * nsUnit)
      s.setTout k { running := true, pulse := false, next := start + n * period, made := 0 }
    else s.setTout k { running := false, pulse := false, next := start, made := 0 }

/-- EN = 1 with POL and PERIODIC: refused where the timing is out of its limits. -/
def toutOn (k : Fin 4) (pol periodic : Bool) (s : Engine) : Engine :=
  let s := (s.putRbit (Reg.timToutCtl k) 2 pol).putRbit (Reg.timToutCtl k) 1 periodic
  let width := (s.reg (Reg.timToutWidth k)).toNat
  let period := (s.reg (Reg.timToutPeriod k)).toNat
  if s.rbit (Reg.timToutCtl k) 0 then s
  else if period < 16 ∨ width < 8 ∨ period < width + 8 then s.putRbit (Reg.timToutCtl k) 4 true
  else toutBegin k periodic (s.putRbit (Reg.timToutCtl k) 0 true)

/-- EN = 0: the output returns to idle. -/
def toutOff (k : Fin 4) (pol periodic : Bool) (s : Engine) : Engine :=
  let s := (s.putRbit (Reg.timToutCtl k) 2 pol).putRbit (Reg.timToutCtl k) 1 periodic
  (s.putRbit (Reg.timToutCtl k) 0 false).setTout k { s.tim.touts[k] with running := false, pulse := false }

/-- A write of TIM_TOUT_CTL[k] with EN = 1. -/
def toutEnable (b : Bus) (k : Fin 4) (pol periodic : Bool) (s : Engine) : Engine := toutAccess b (toutOn k pol periodic) s

/-- A write of TIM_TOUT_NS[k]. -/
def toutNsWrite (b : Bus) (k : Fin 4) (v : Word) (s : Engine) : Engine :=
  toutAccess b (fun s =>
    if 999999999 < v.toNat then s.putRbit (Reg.timToutCtl k) 4 true else s.setReg (Reg.timToutNs k) v) s

/-- Whether an edge at a programmed nanosecond, launched early by the asymmetry constant (R250), falls before the next TICK edge. -/
def toutDue (s : Engine) (k : Fin 4) (ns : Nat) : Bool :=
  decide (((ns : Int) * 256 - asym s (Reg.timAsymTout k)) * 2 ^ 40 < (s.time + s.increment : Nat))

/-- The next edge of a TOUT output: leading, or trailing WIDTH later. -/
def toutEdge (k : Fin 4) (s : Engine) : Engine :=
  let x := s.tim.touts[k]
  let width := (s.reg (Reg.timToutWidth k)).toNat
  s.onlyIf (s.mode ≠ .reset && x.running && toutDue s k (if x.pulse then x.next + width else x.next)) fun s =>
    if !x.pulse then s.setTout k { x with pulse := true }
    else
      let count := (s.reg (Reg.timToutCount k)).toNat
      let more := s.rbit (Reg.timToutCtl k) 1 && (count == 0 || decide (x.made + 1 < count))
      s.setTout k { running := more, pulse := false, next := x.next + (s.reg (Reg.timToutPeriod k)).toNat, made := x.made + 1 }

/-- The level of a TOUT ball: idle low, or idle high where POL is 1. -/
def toutLevel (s : Engine) (k : Fin 4) : Bool := (s.tim.touts[k]).pulse != s.rbit (Reg.timToutCtl k) 2

/-! ### Meanings -/

def execTimeStep (s : State) : Host.Outcome State Fault Refusal := s.run timeStep

def execPtpServoUpdate (t1 t2 t3 t4 sync resp : Int) (s : State) : Host.Outcome State Fault Refusal :=
  s.run (ptpServoUpdate t1 t2 t3 t4 sync resp)

def execPtpLoss (s : State) : Host.Outcome State Fault Refusal := s.run ptpLoss

def execPpsEdge (k : Fin 256) (s : State) : Host.Outcome State Fault Refusal := s.run (ppsEdge k)

def execPpsLoss (s : State) : Host.Outcome State Fault Refusal := s.run ppsLoss

def execToutEdge (k : Fin 4) (s : State) : Host.Outcome State Fault Refusal := s.run (toutEdge k)

end Sys2Proof.Machine
end

