-- ==== Sys2Proof/Machine/Pack.lean ====
section
/-! DEFINITION. The Pack: cycles, deltas, release, takeover, cold claims, sequence numbers and swaps (chapter 13). -/

namespace Sys2Proof.Machine

open Sys2Proof

/-! ### Members (R301, R302) -/

/-- The member that is STANDBY, if there is one. -/
def Engine.standbyMember (s : Engine) : Option Bool :=
  if s.pak.a.role = .standby then some false else if s.pak.b.role = .standby then some true else none

/-- Since when the ACTIVE member has no STANDBY (R310). -/
def watchStandby (s : Engine) : Engine :=
  if s.activeMember.isSome && s.standbyMember.isNone then
    { s with pak.noStandbySince := some (s.pak.noStandbySince.getD s.tick) }
  else { s with pak.noStandbySince := none, pak.noStandbyReported := false }

def setRole (b : Bool) (r : Role) (s : Engine) : Engine := watchStandby (s.setMember b { s.member b with role := r })

/-- The mirrored part of an SRAM: the first 6 MiB. -/
def mirrored (m : Mem) : Mem := m.filter fun p => p.1 < 0x10600000

/-- A member's SRAM with its mirrored region replaced. -/
def withMirror (m : Mem) (region : Mem) : Mem := region ++ m.filter fun p => !decide (p.1 < 0x10600000)

def setMirror (b : Bool) (region : Mem) (s : Engine) : Engine :=
  s.setMember b { s.member b with sram := withMirror (s.member b).sram region }

/-- PAK_STAT.LINK_UP: a member mirrors another. -/
def Engine.linkUp (s : Engine) : Bool :=
  match s.activeMember with
  | none => false
  | some m => decide (s.role (!m) = .standby ∨ s.role (!m) = .syncing)

/-! ### The cycle (R305, R306) -/

/-- The swap in progress is abandoned (R319); what the follower waits for is given up. -/
def abandonSwap (s : Engine) : Engine :=
  if s.pak.overlap then
    (({ s with pak.overlap := false, pak.swapDue := none, pak.followHeld := [] }.putRbit Reg.pakStat 1 false).putRbit Reg.pakStat 9 true).putRbit
      Reg.pakCtl 1 false
  else s

/-- The STANDBY member returns to SYNCING. -/
def dropStandby (s : Engine) : Engine :=
  match s.standbyMember with
  | some b => abandonSwap (setRole b .syncing s)
  | none => s

/-- PAK_LINK (R308, R309). Between a release and its takeover the STANDBY stays, for R314 has it take over with an incomplete log
(DEDUCED, log 68). -/
def linkFault (s : Engine) : Engine :=
  let s := (s.putRbit Reg.pakStat 11 true).raise 12 0
  if s.pak.takeover.isSome then s else dropStandby s

/-- PAK_DIVERGE (R319, R321): the mirrored state of the ACTIVE member wins. -/
def diverge (b : Bool) (s : Engine) : Engine :=
  dropStandby ((s.putRbit Reg.pakStat 10 true).raise 15 (if b then 1 else 0))

/-- The delta of the cycle before the last is not acknowledged at this boundary (R308). -/
def ackTimeout (s : Engine) : Engine :=
  let k := s.pak.cycle - 2
  s.onlyIf (s.standbyMember.isSome && decide (2 ≤ s.pak.cycle) && (s.pak.posted.any fun d => d.cycle == k) &&
    (match s.pak.applied with | some j => decide (j < k) | none => true)) linkFault

/-- Corrected SRAM errors of a member added, saturating (R309). -/
def countSramCe (b : Bool) (n : Nat) (s : Engine) : Engine :=
  let a := Reg.pakEcc (if b then 1 else 0)
  s.putRfld a 0 16 (min 65535 (s.rfld a 0 16 + n))

/-- Firmware has been loaded, so that another member may resynchronize from the ACTIVE one (R322). -/
def firmwareLoaded (s : Engine) : Bool := s.mode != .load || s.nvm.selected

/-- A pass of a SYNCING member: it copies the mirrored region as it stands (R320). DESIGN CHOICE (log 67): a pass is taken on every
boundary. -/
def takePass (s : Engine) : Engine :=
  match s.activeMember with
  | none => { s with pak.pass := none }
  | some a =>
    if s.role (!a) = .syncing ∧ firmwareLoaded s = true then
      let region := mirrored (s.member a).sram
      setMirror (!a) region { s with pak.pass := some region }
    else { s with pak.pass := none }

/-- The log of the ended cycle is closed: LAST and PEAK count its entries, and those beyond 4,096 belong to the next cycle (R306). The
logs and inputs of the last three cycles are kept (R308). -/
def closeLog (s : Engine) : Engine :=
  let c := s.pak.cycle
  let es := s.log
  let n := min 4096 es.length
  let s := (s.putRfld Reg.pakLog 0 16 n).putRfld Reg.pakLog 16 16 (max n (s.rfld Reg.pakLog 16 16))
  let s := if 4096 < es.length then s.putRbit Reg.pakStat 15 true else s
  let older := s.pak.logs.filter fun p => decide (p.1 < c ∧ c < p.1 + 3)
  { s with pak.logs := (c + 1, es.drop 4096) :: (c, es.take 4096) :: older,
           pak.inputs := s.pak.inputs.filter fun i => decide (c < i.cycle + 3) }

/-- A boundary: its time-stamp is latched and the log is closed. `ceA`, `ceB`: corrected SRAM errors of the ended cycle. -/
def pakCycleBoundary (ceA ceB : Nat) (s : Engine) : Engine :=
  s.onlyIf (s.mode ≠ .reset && decide (s.pak.boundary + 25000 ≤ s.tick)) fun s =>
    let stamp := s.pak.stamps.headD s.time
    let sec := stamp / nsUnit / 1000000000
    let s := closeLog s
    let s := { s with pak.cycle := s.pak.cycle + 1, pak.boundary := s.pak.boundary + 25000, pak.stamps := s.pak.stamps.drop 1,
                      pak.posted := s.pak.posted.drop (s.pak.posted.length - 3),
                      pak.replay := if s.pak.replayEnd ≤ s.pak.cycle + 1 then none else s.pak.replay }
    let s := s.setRegs [
      (Reg.pakCycle, word s.pak.cycle), (Reg.pakCycSecLo, word sec), (Reg.pakCycSecHi, word (sec / 2 ^ 32)),
      (Reg.pakCycNs, word (stamp / nsUnit % 1000000000))]
    takePass (ackTimeout (countSramCe true ceB (countSramCe false ceA s)))

/-! ### Deltas (R307, R308, R320, R321) -/

/-- The page of an address of the mirrored region. -/
def pageOf (a : Nat) : Nat := (a - 0x10000000) / 4096

/-- CRC-32C of a page of a region. -/
def pageCrc (m : Mem) (p : Nat) : Word := crc32c ((List.range 1024).map fun i => get0 m (0x10000000 + 4096 * p + 4 * i))

/-- The 16 audit pages of a cycle: every page comes round in 96 cycles. DESIGN CHOICE (log 67): in rising order. -/
def auditPages (c : Nat) : List Nat := (List.range 16).map fun i => (16 * c + i) % 1536

/-- The words in which a region differs from an earlier one, with their new values. -/
def wordChanges (old new : Mem) : List (Nat × Word) :=
  (new.filter fun p => get0 old p.1 != p.2) ++ ((old.filter fun p => get0 new p.1 == 0).map fun p => (p.1, (0 : Word)))

/-- The pages of a list of changed words. -/
def changedPages (l : List (Nat × Word)) : List Nat := l.foldl (fun ps p => addTo (pageOf p.1) ps) []

/-- The delta of the present cycle of a member, and the region that it leaves: at most 40 KiB of changes, the rest deferred. -/
def formDelta (s : Engine) (b : Bool) : Delta × Mem :=
  let changes := (wordChanges s.pak.sent (mirrored (s.member b).sram)).take 10240
  let sent := memWrites zeroWord s.pak.sent changes
  let pages := (auditPages s.pak.cycle).foldl (fun ps p => addTo p ps) (changedPages changes)
  ({ cycle := s.pak.cycle, changes := changes, crcs := pages.map fun p => (p, pageCrc sent p) }, sent)

/-- The ACTIVE member posts the delta of the present cycle. -/
def deltaPost (s : Engine) : Engine :=
  match s.activeMember with
  | none => s
  | some b =>
    if s.pak.posted.any fun d => d.cycle == s.pak.cycle then s
    else { s with pak.posted := s.pak.posted ++ [(formDelta s b).1], pak.sent := (formDelta s b).2 }

/-- Whether a delta is not yet applied. -/
def unapplied (s : Engine) (d : Delta) : Bool := match s.pak.applied with | some j => decide (j < d.cycle) | none => true

/-- The oldest posted delta of an ended cycle that the other member has not applied. -/
def nextDelta (s : Engine) : Option Delta := s.pak.posted.find? fun d => unapplied s d && decide (d.cycle < s.pak.cycle)

/-- Whether the pages of a region have the CRCs of a trailer. -/
def trailerAgrees (d : Delta) (m : Mem) : Bool := d.crcs.all fun p => pageCrc m p.1 == p.2

/-- A member takes a complete delta: acknowledged where every page of the trailer agrees, else the divergence discards it. -/
def applyDelta (b : Bool) (d : Delta) (s : Engine) : Engine :=
  let region := memWrites zeroWord (mirrored (s.member b).sram) d.changes
  if trailerAgrees d region then setMirror b region { s with pak.applied := some d.cycle } else diverge b s

/-- The STANDBY applies the next delta that has arrived complete. -/
def deltaApply (s : Engine) : Engine :=
  match s.standbyMember, nextDelta s with
  | some b, some d => applyDelta b d s
  | _, _ => s

/-- A SYNCING member applies its last pass as the delta of the present cycle, which needs 40 KiB or less, and becomes STANDBY. -/
def resyncComplete (s : Engine) : Engine :=
  match s.activeMember, s.pak.pass with
  | some a, some taken =>
    let s' := deltaPost s
    s.onlyIf (s.mode ≠ .reset && s.role (!a) == .syncing && decide ((changedPages (wordChanges taken s'.pak.sent)).length ≤ 10))
      fun _ => setRole (!a) .standby (setMirror (!a) s'.pak.sent { s' with pak.applied := some s.pak.cycle, pak.pass := none })
  | _, _ => s

/-! ### Release (R309 to R311, R319) -/

/-- A fence: the member leaves its role on this edge. Its accesses that wait never leave it; work of its firmware waits for the next
ACTIVE member. -/
def fence (b : Bool) (cause : Nat) (s : Engine) : Engine :=
  let was := s.role b
  let s := watchStandby (s.setMember b { s.member b with role := .fenced, released := some (s.tick, cause) })
  if was = .active then
    { s with pak.takeover := some (b, cause, if s.tick = s.pak.boundary then s.pak.cycle - 1 else s.pak.cycle), pak.replay := none }
  else if was = .standby then abandonSwap s
  else s

/-- A member releases, whatever its role: its source is raised, and it is fenced with the cause that PAK_LAST_SW will give. One that is
fenced already stays so until its reset. -/
def release (b : Bool) (source : Fin 128) (cause : Nat) (s : Engine) : Engine :=
  s.unlessReset fun s =>
    let s := s.raise source (if b then 1 else 0)
    if s.role b = .fenced then s else fence b cause s

/-- An uncorrectable SRAM error. `tainted`: the latest delta was posted after it, and is discarded (R307). -/
def pakSramUe (b tainted : Bool) (s : Engine) : Engine :=
  let s := s.onlyIf (tainted && s.role b == .active) fun s => { s with pak.posted := s.pak.posted.dropLast }
  release b 9 2 s

/-- No delta of the last two cycles is posted at the second of their boundaries. -/
def pakHeartbeat (s : Engine) : Engine :=
  match s.activeMember with
  | none => s
  | some b =>
    let c := s.pak.cycle
    s.onlyIf (decide (2 ≤ c ∧ s.pak.activeFrom + 2 ≤ c) &&
      s.pak.posted.all (fun d => d.cycle != c - 1 && d.cycle != c - 2)) (release b 11 4)

/-- The link's frame check has failed three times in this cycle. -/
def pakLink (s : Engine) : Engine :=
  s.unlessReset fun s => linkFault { s with pak.gapCycles := addTo s.pak.cycle s.pak.gapCycles }

/-- A fenced member is reset 1 ms after its release. -/
def memberReset (b : Bool) (s : Engine) : Engine :=
  match (s.member b).released with
  | none => s
  | some (t, _) =>
    s.onlyIf (s.role b == .fenced && decide (t + 250000 ≤ s.tick)) fun s =>
      s.setMember b { s.member b with role := .off, released := none, tested := none }

/-- The ACTIVE member has been without a STANDBY for 1 s. -/
def noStandbyTimeout (s : Engine) : Engine :=
  match s.pak.noStandbySince with
  | none => s
  | some t =>
    s.onlyIf (s.mode ≠ .reset && !s.pak.noStandbyReported && decide (t + 250000000 ≤ s.tick)) fun s =>
      { s with pak.noStandbyReported := true }.raise 13 0

/-! ### Switchovers (R213, R311 to R315) -/

/-- Every switchover is recorded, and an interrupt held for the next ACTIVE member reaches it (R315, R353). -/
def recordSwitch (b : Bool) (cause replayed : Nat) (s : Engine) : Engine :=
  let s := s.setRegs [
    (Reg.pakLastSw, putFld (putBit (putFld 0 24 8 cause) 16 b) 0 2 replayed), (Reg.pakSwSecLo, s.reg Reg.pakCycSecLo),
    (Reg.pakSwSecHi, s.reg Reg.pakCycSecHi), (Reg.pakSwNs, s.reg Reg.pakCycNs)]
  let s := (s.countHold Reg.pakSwCnt 0 32).putRbit Reg.pakStat 8 true
  recopyShadow { s with
    flt.captureEnd := some (s.pak.boundary + 2500000), pak.lastSwitch := s.elapsed, pak.activeFrom := s.pak.cycle,
    flt.nmiCount := if s.flt.nmiWaiting then s.flt.nmiCount + 1 else s.flt.nmiCount, flt.nmiWaiting := false }

/-- What is left of the log that a follower has to match, when its rehearsal ends (R319). -/
def restOfFollow (s : Engine) : Option (List LogEntry) :=
  let rest := ((s.logOf s.pak.overlapFrom).filter (· != .firmware)).drop s.pak.followed
  if rest.isEmpty then none else some rest

/-- Deltas of the cycles before k that are on their way are applied: the link completes their transfer (R307). -/
def catchUp (b : Bool) (k : Nat) (s : Engine) : Engine :=
  (s.pak.posted.filter fun d => unapplied s d && decide (d.cycle < k)).foldl (fun s d => applyDelta b d s) s

/-- The logs of the cycles after j up to k. -/
def replayLog (s : Engine) (j k : Nat) : List LogEntry :=
  ((List.range (k - j)).flatMap fun i => s.logOf (j + 1 + i)).filter (· != .firmware)

/-- The STANDBY is ACTIVE with its own state from cycle j on, and with what it has still to match of the logs up to cycle k. -/
def claimRole (b : Bool) (cause j k : Nat) (s : Engine) : Engine :=
  let rest := if s.pak.overlap then restOfFollow s else some (replayLog s j k)
  let replayed := if s.pak.overlap then 0 else min 2 (k - j)
  let s := { s with pak.takeover := none, pak.overlap := false, pak.applied := none, pak.gapCycles := [], pak.replay := rest,
                    pak.replayEnd := k + 4, pak.sent := mirrored (s.member b).sram,
                    pak.swapDue := if s.pak.overlap then none else s.pak.swapDue }
  let s := if s.rbit Reg.pakStat 1 then (s.putRbit Reg.pakStat 1 false).putRbit Reg.pakCtl 1 false else s
  recordSwitch b cause replayed (setRole b .active s)

/-- The STANDBY takes over at a boundary after the release: it has S(j) and replays the cycles up to k (R311, R313, R314); a follower's
rehearsal counts as its replay (R319). -/
def takeOver (b : Bool) (cause k : Nat) (s : Engine) : Engine :=
  let s := if s.pak.overlap then s else catchUp b k s
  if s.role b ≠ .standby then { s with pak.takeover := none }.raise 14 0
  else
    let j := if s.pak.overlap then k else s.pak.applied.getD (k - 1)
    let gap := s.pak.gapCycles.any fun c => decide (j < c ∧ c ≤ k)
    claimRole b cause j k (if gap then s.putRbit Reg.pakStat 12 true else s)

/-- The first boundary after a release. -/
def takeover (s : Engine) : Engine :=
  match s.pak.takeover with
  | none => s
  | some (_, cause, k) =>
    s.onlyIf (s.mode ≠ .reset && decide (k < s.pak.cycle)) fun s =>
      match s.standbyMember with
      | some b => takeOver b cause k s
      | none => ({ s with pak.takeover := none, pak.overlap := false }.putRbit Reg.pakStat 1 false).raise 14 0

/-! ### Self-test and claims (R310, R312, R322) -/

/-- A member becomes ACTIVE with state rebuilt from the blocks and the MRAM. -/
def rebuildState (s : Engine) : Engine := rebuildRing (rebuildSessions (rebuildOwners s.nvm.image s))

/-- The first claim since RESET: the boot of the Pack (R322, R388). -/
def bootClaim (b : Bool) (s : Engine) : Engine :=
  setRole b .active { s with pak.booted := true, pak.lastSwitch := s.elapsed, pak.activeFrom := s.pak.cycle, pak.applied := none }

/-- A member that has passed its self-test: at boot A claims, or B if A has failed. -/
def afterSelfTest (b : Bool) (s : Engine) : Engine :=
  if !s.pak.booted then
    if !b then
      let s := bootClaim false s
      if s.pak.b.tested = some true ∧ s.rbit Reg.pakCtl 2 = true then setRole true .syncing s else s
    else if s.pak.a.tested = some false then bootClaim true s
    else s
  else if !s.rbit Reg.pakCtl 2 then s
  else if s.activeMember.isSome then setRole b .syncing s
  else { s with pak.claims := s.pak.claims ++ [(b, s.pak.cycle)] }

/-- A member's self-test ends. -/
def selfTestComplete (b pass : Bool) (s : Engine) : Engine :=
  s.onlyIf (s.mode ≠ .reset && s.role b == .off && (s.member b).tested.isNone) fun s =>
    let s := s.setMember b { s.member b with tested := some pass }
    if pass then afterSelfTest b s
    else if !s.pak.booted && !b && s.pak.b.tested == some true then bootClaim true s
    else s

/-- Every FLP connection is closed with close_notify. -/
def closeSessions (s : Engine) : Engine :=
  let opened := (List.finRange 65).filter fun n => (s.fw.sessions[n]).tls || (s.fw.sessions[n]).dtls
  { s with mgt.replies := s.mgt.replies ++ opened.map fun n => .closeNotify n.val }

/-- SUP_FIRMWARE is loaded from the image in use: a tile of it that fails in MRAM is reported (R312, R371). -/
def loadFirmware (b : Bool) (s : Engine) : Engine :=
  let ws := (slotOf s.nvm.img s.nvm.imageSlot).tiles
  let tiles := (imageSections ws).flatMap fun d => if d.1 = 12 then (List.range d.2.2.2).map (d.2.2.1 + ·) else []
  (tiles.filter fun t => s.nvm.image.isSome && !tileOk ws t).foldl
    (fun s t => s.raiseAt 104 (tileAddress s.nvm.imageSlot t) (if b then 2 else 1) 1 (if b then 1 else 0)) s

/-- The members that claim at this boundary, A first; the other resynchronizes from it. The mirrored region is lost, and formed again from
the blocks and the MRAM. -/
def coldClaim (s : Engine) : Engine :=
  let due := s.pak.claims.filter fun p => decide (p.2 < s.pak.cycle)
  s.onlyIf (s.mode ≠ .reset && s.activeMember.isNone && s.pak.takeover.isNone && !due.isEmpty) fun s =>
    let b := !(due.any fun p => !p.1)
    let s := { closeSessions s with pak.claims := [], pak.applied := none, pak.inputs := [], pak.sent := [], fw.submitted := [], fw.calAsks := [] }
    let s := recordSwitch b 7 0 (rebuildState (loadFirmware b (setRole b .active (setMirror b [] s))))
    if due.any (fun p => p.1 != b) then setRole (!b) .syncing s else s

/-! ### Sequence numbers (R316) -/

/-- The next number, and the engine with the counter advanced. -/
def drawSeq (s : Engine) : Nat × Engine := (s.pak.seq, { s with pak.seq := (s.pak.seq + 1) % 2 ^ 64 })

/-- A write of PAK_SEQ_BASE_HI loads the counter, once. -/
def seqBaseLoad (b : Bus) (v : Word) (s : Engine) : Engine :=
  s.accessPak b fun s =>
    if s.pak.baseLoaded || s.follows b then s
    else
      { s with pak.baseLoaded := true, pak.seq := v.toNat * 2 ^ 32 + (s.reg Reg.pakSeqBaseLo).toNat }.setReg Reg.pakSeqBaseHi v

/-! ### Swaps (R317 to R319) -/

/-- Why a swap cannot start now. -/
def swapBlocked (s : Engine) : Bool :=
  s.mode == .load || s.pak.replay.isSome || s.standbyMember.isNone || s.activeMember.isNone

/-- A swap falls due with a cause; one that cannot start is deferred. -/
def swapFallsDue (cause : Nat) (s : Engine) : Engine :=
  if s.pak.overlap then s
  else
    let s := if swapBlocked s then s.putRbit Reg.pakStat 14 true else s
    { s with pak.swapDue := some (s.pak.swapDue.getD cause) }

/-- A write of PAK_CTL.SWAP_REQ = 1. -/
def swapReq (b : Bus) (s : Engine) : Engine :=
  s.accessPak b fun s => if s.follows b || s.pak.overlap then s else swapFallsDue 6 (s.putRbit Reg.pakCtl 1 true)

/-- PAK_SWAP_PERIOD has passed since the last switchover. -/
def swapDue (s : Engine) : Engine :=
  let period := max 60 (s.reg Reg.pakSwapPeriod).toNat
  s.onlyIf (s.mode ≠ .reset && s.rbit Reg.pakCtl 0 && s.pak.swapDue.isNone && !s.pak.overlap && s.pak.booted &&
    decide (s.pak.lastSwitch + period * 1000000000 * nsUnit ≤ s.elapsed)) (swapFallsDue 5)

/-- A due swap starts at a boundary: the rehearsal cycle. -/
def rehearsalStart (s : Engine) : Engine :=
  s.onlyIf (s.mode ≠ .reset && s.pak.swapDue.isSome && !s.pak.overlap && !swapBlocked s && s.tick == s.pak.boundary) fun s =>
    { s with pak.overlap := true, pak.overlapFrom := s.pak.cycle, pak.followed := 0, pak.followHeld := [] }.putRbit Reg.pakStat 1 true

/-- The trailer that the outgoing member sends for the rehearsal cycle: that of its delta, or of the delta that it would post. -/
def outgoingTrailer (a : Bool) (s : Engine) : Delta :=
  (s.pak.posted.find? fun d => d.cycle == s.pak.overlapFrom).getD (formDelta s a).1

/-- The end of a rehearsal cycle: the roles exchange, each member with its own state, and the new ACTIVE member compares the trailer with
its own pages (R318, R319). -/
def roleExchange (s : Engine) : Engine :=
  match s.activeMember, s.standbyMember with
  | some a, some b =>
    s.onlyIf (s.mode ≠ .reset && s.pak.overlap && decide (s.pak.overlapFrom < s.pak.cycle)) fun s =>
      let agrees := trailerAgrees (outgoingTrailer a s) (mirrored (s.member b).sram)
      let cause := s.pak.swapDue.getD 5
      let s := { s with pak.overlap := false, pak.swapDue := none, pak.applied := some (s.pak.cycle - 1), pak.replay := restOfFollow s,
                        pak.replayEnd := s.pak.cycle + 3, pak.sent := mirrored (s.member b).sram }
      let s := (s.putRbit Reg.pakStat 1 false).putRbit Reg.pakCtl 1 false
      let s := recordSwitch b cause 0 (setRole a .standby (setRole b .active s))
      if agrees then s else diverge a s
  | _, _ => s

/-! ### Meanings -/

def execDeltaPost (s : State) : Host.Outcome State Fault Refusal := s.run deltaPost

def execDeltaApply (s : State) : Host.Outcome State Fault Refusal := s.run deltaApply

def execPakLockstep (m : Bool) (s : State) : Host.Outcome State Fault Refusal := s.run (release m 8 1)

def execPakSramUe (m tainted : Bool) (s : State) : Host.Outcome State Fault Refusal := s.run (pakSramUe m tainted)

def execPakCfsig (m : Bool) (s : State) : Host.Outcome State Fault Refusal := s.run (release m 10 3)

def execPakHeartbeat (s : State) : Host.Outcome State Fault Refusal := s.run pakHeartbeat

def execPakLink (s : State) : Host.Outcome State Fault Refusal := s.run pakLink

def execMemberReset (m : Bool) (s : State) : Host.Outcome State Fault Refusal := s.run (memberReset m)

def execSelfTestComplete (m pass : Bool) (s : State) : Host.Outcome State Fault Refusal := s.run (selfTestComplete m pass)

def execNoStandbyTimeout (s : State) : Host.Outcome State Fault Refusal := s.run noStandbyTimeout

def execColdClaim (s : State) : Host.Outcome State Fault Refusal := s.run coldClaim

def execSwapDue (s : State) : Host.Outcome State Fault Refusal := s.run swapDue

def execRehearsalStart (s : State) : Host.Outcome State Fault Refusal := s.run rehearsalStart

def execResyncComplete (s : State) : Host.Outcome State Fault Refusal := s.run resyncComplete

end Sys2Proof.Machine
end

