-- ==== Sys2Proof/Machine/Fault.lean ====
section
/-! DEFINITION. The fault collector: sampling, capture, reactions, block resets, shadows, escalation and injection (chapter 15). -/

namespace Sys2Proof.Machine

open Sys2Proof

/-! ### Sources (R345, R351) -/

/-- A source of the table; every other identifier is reserved. -/
def sourceDefined (i : Nat) : Bool :=
  decide (i ≤ 4 ∨ (8 ≤ i ∧ i ≤ 19) ∨ (32 ≤ i ∧ i ≤ 34) ∨ (48 ≤ i ∧ i ≤ 52) ∨ (56 ≤ i ∧ i ≤ 60) ∨ (64 ≤ i ∧ i ≤ 66) ∨
    (80 ≤ i ∧ i ≤ 83) ∨ (96 ≤ i ∧ i ≤ 98) ∨ (104 ≤ i ∧ i ≤ 106) ∨ (112 ≤ i ∧ i ≤ 115) ∨ i = 126 ∨ i = 127)

/-- Whether a source has a pair. -/
def hasPair (i : Nat) : Bool := sourceDefined i && decide (i < 126)

/-- Whether BLOCK is permitted to a source. -/
def blockPermitted (i : Nat) : Bool :=
  decide ((32 ≤ i ∧ i ≤ 34) ∨ (48 ≤ i ∧ i ≤ 52) ∨ (104 ≤ i ∧ i ≤ 106) ∨ (112 ≤ i ∧ i ≤ 115))

/-- The block that a report's BLOCK reaction resets. -/
def blockOf (r : Report) : Block :=
  if r.source.val < 48 then .sns
  else if r.source.val < 64 then .lp (Fin.ofNat 33 (fld r.locus 24 8))
  else if r.source.val < 112 then .nvm
  else .mgt

def reactOf (s : Engine) (i : Nat) : Word := s.reg (Reg.fltReact i)

def actionOf (s : Engine) (i : Nat) : Nat := fld (reactOf s i) 0 3

def stickyWord (i : Nat) : Nat := Reg.fltSticky (i / 32)

def noSticky (s : Engine) : Bool := (List.range 4).all fun w => s.reg (Reg.fltSticky w) == 0

def wireBroken (s : Engine) (i : Nat) : Bool := s.rbit (Reg.fltWireMap (i / 32)) (i % 32)

/-- CAPTURING (R349). -/
def capturing (s : Engine) : Bool :=
  s.mode == .load || s.mode == .calibrate || s.mode == .kennel || s.rbit Reg.fltCtl 0 ||
  (match s.flt.captureEnd with | some t => decide (s.tick < t) | none => false)

/-! ### Shadows (R357) -/

def shadowLength (b : Block) : Nat :=
  match b with
  | .lp _ => 100000
  | .sns => 75000
  | .nvm => 250000
  | .mgt => 1250000000

/-- Whether a block's shadow holds the present edge. -/
def shadowOpen (s : Engine) (b : Block) : Bool :=
  s.flt.shadows.any fun p => p.1 == b && decide (p.2 - shadowLength b ≤ s.tick ∧ s.tick < p.2)

/-- Whether a report depends on a block. -/
def dependsOn (r : Report) (b : Block) : Bool :=
  let i := r.source.val
  match b with
  | .lp k => ((i == 51 || i == 52) && fld r.locus 24 8 == k.val) || i == 58 || (i == 97 && k.val == 32)
  | .sns => decide (32 ≤ i ∧ i ≤ 34) || i == 51 || i == 52 || i == 58 || i == 97
  | .nvm => i == 105 || i == 106 || i == 82
  | .mgt => i == 112 || i == 113 || i == 80

def consequential (s : Engine) (r : Report) : Bool := s.flt.shadows.any fun p => dependsOn r p.1 && shadowOpen s p.1

/-! ### What a block reset does (R166, R357) -/

/-- The first tile of a machine's sections that fails in the slot in use. -/
def badProgramTile (s : Engine) (k : Nat) : Option Nat :=
  let ws := (slotOf s.nvm.img s.nvm.imageSlot).tiles
  let ds := (imageSections ws).filter fun d => (d.1 == 4 || d.1 == 5) && d.2.1 == k
  (ds.flatMap fun d => (List.range d.2.2.2).map fun i => d.2.2.1 + i).find? fun t => !tileOk ws t

/-- Entries of one machine cut out of a section of all machines. -/
def cutOut (m : Mem) (base n : Nat) : Mem :=
  (m.filter fun p => decide (base ≤ p.1 ∧ p.1 < base + n)).map fun p => (p.1 - base, p.2)

/-- A machine's words of a section of 16-bit words: a location's bits [31:16] read 0 (R170). -/
def cutHalves (m : Mem) (base n : Nat) : Mem := (cutOut m base n).filterMap fun p =>
  if p.2 &&& 0xFFFF#32 = 0 then none else some (p.1, p.2 &&& 0xFFFF#32)

/-- PM and the two coefficient banks of a machine as an image has them. -/
def LpState.placeCode (x : LpState) (k : Fin 33) (img : Image) : LpState :=
  { x with pm := cutOut img.program (8192 * k.val) 8192, bankA := cutHalves img.coeffA (4096 * k.val) 4096,
           bankB := cutHalves img.coeffB (4096 * k.val) 4096 }

/-- The watchdog limit of a machine as an image has it (R170). -/
def wdogOf (img : Option Image) (k : Nat) : Word :=
  match img with
  | some i => i.wdog.getD k 128 &&& 0xFF#32
  | none => 128

/-- PM and YM of a machine taken from the image in use, unless a tile of them fails. DESIGN CHOICE (log 90): the read that finds the
tile is the machine's own, MASTER 4. -/
def reloadProgram (k : Fin 33) (s : Engine) : Engine :=
  match badProgramTile s k.val, s.nvm.image with
  | some t, _ => s.raiseAt 104 (tileAddress s.nvm.imageSlot t) 4 1 k.val
  | none, some img => s.onLp k fun x => x.placeCode k img
  | none, none => s

/-- What outlasts the start of a standard program: the ROUND in force and the rest of its window (R191). -/
def StdProgram.kept (p : StdProgram) : StdProgram :=
  { StdProgram.reset with roundSeen := p.roundSeen, winLeft := p.winLeft, sweepNo := p.sweepNo, monSum := p.monSum, monScans := p.monScans,
                          lowPlane := p.lowPlane, scanJudged := p.scanJudged }

/-- Whether a write that waits for the next edge is of machine k's own queue or list. -/
def Due.ofLp (k : Fin 33) (d : Due) : Bool :=
  match d with
  | .promo j _ _ => j == k
  | .trim j _ _ _ => j == k
  | _ => false

/-- Block reset of a loop processor. -/
def resetLp (k : Fin 33) (s : Engine) : Engine :=
  let s := (reloadProgram k { s with due := s.due.filter fun d => !d.ofLp k }).setReg (Reg.lpWdog k.val) (wdogOf s.nvm.image k.val)
  let s := s.setRegs [(Reg.lpXrec k.val, 0), (Reg.lpYrec k.val, 0)]
  let en := s.lpEn k
  s.onLp k fun x =>
    { LpState.reset with
        pm := x.pm, bankA := x.bankA, bankB := x.bankB, bankActive := x.bankActive, standard := x.standard,
        latest := x.latest, visible := x.visible, chg := x.chg, completed := x.completed,
        evPend := x.evPend, evHop := x.evHop, std := x.std.kept, wdogFrom := s.tick, startIn := if en then some 2 else none }

/-- A lane that stops. -/
def Lane.stopped (l : Lane) : Lane := { l with todo := [], convs := [], visited := none }

/-- Block reset of the sense lanes: sequencers and converters stop. -/
def resetSns (s : Engine) : Engine := { s with sns.lanes := s.sns.lanes.map Lane.stopped }

/-- The words of a block's registers at their reset values (R13): the addresses from lo up to hi. -/
def Engine.resetRegs (s : Engine) (lo hi : Nat) : Engine := { s with regs := s.regs.filter fun p => !decide (lo ≤ p.1 ∧ p.1 < hi) }

/-- Block reset of the MRAM controller: the operation in flight, a set under way and a scrub pass are abandoned, and its registers
return to their reset values (R13). -/
def resetNvm (s : Engine) : Engine :=
  { tearSets s with nvm.op := none, nvm.load := none, nvm.scrub := none }.resetRegs 0x40070000 0x40080000

def Session.closed (x : Session) : Session := { x with tls := false, dtls := false, streams := 0 }

/-- Block reset of the management port: the link goes down, every connection closes without an alert and the registers return to
their reset values (R13); session sequence state is kept. -/
def resetMgt (s : Engine) : Engine :=
  { s with mgt.link := false, mgt.downSince := if s.mgt.link then some s.tick else s.mgt.downSince, mgt.mdio := none,
           mgt.handshakes := 0, mgt.tx := [], mgt.txLast := none, mgt.replies := [],
           fw.sessions := s.fw.sessions.map Session.closed }.resetRegs 0x40080000 0x40090000

def resetBlock (b : Block) (s : Engine) : Engine :=
  match b with
  | .lp k => resetLp k s
  | .sns => resetSns s
  | .nvm => resetNvm s
  | .mgt => resetMgt s

/-! ### Sticky bits and capture (R348 to R350, R356) -/

/-- A source of locus A: the bus address of the failing access (R345, R350). -/
def accessLocus (i : Nat) : Bool := i == 3 || i == 65 || i == 66 || i == 104 || i == 105

/-- The bits of FLT_CAP_ADDR that a source's locus has, by its letter in R345 (R350). -/
def locusMask (i : Nat) : Word :=
  if accessLocus i then 0xFFFFFFFF
  else if (8 ≤ i ∧ i ≤ 11) ∨ i = 15 then 1
  else if i = 18 ∨ i = 82 ∨ i = 83 then 0x3F
  else if i = 19 ∨ i = 64 then 0x3FF
  else if i = 16 ∨ i = 17 ∨ i = 56 ∨ i = 57 ∨ i = 59 ∨ (32 ≤ i ∧ i ≤ 34) ∨ i = 97 then 0xFFFF
  else if 48 ≤ i ∧ i ≤ 52 then 0xFF001FFF
  else if i = 96 then 7
  else if i = 126 ∨ i = 127 then 0x7F
  else 0

/-- FLT_CAP_INFO of a report: MASTER and ACCESS with locus A alone, INDEX with masters 1, 2 and 4 (R350, R362). -/
def infoOf (r : Report) : Word :=
  if !accessLocus r.source.val then 0
  else
    putFld (putFld (word r.access.val) 4 4 r.master.val) 8 8
      (if r.master.val = 1 ∨ r.master.val = 2 ∨ r.master.val = 4 then r.index.toNat else 0)

/-- The capture record of a report, at an edge's stamp. -/
def captureReport (r : Report) (t : Nat) (s : Engine) : Engine :=
  let stat := putBit (word r.source.val) 31 true
  let rec_ : LogRecord :=
    { sec := t / nsUnit / 1000000000, ns := t / nsUnit % 1000000000, stat := stat, info := infoOf r,
      addr := r.locus &&& locusMask r.source.val }
  { s with flt.log := s.flt.log ++ [rec_] }.setRegs [
    (Reg.fltCapStat, stat), (Reg.fltCapInfo, rec_.info), (Reg.fltCapAddr, rec_.addr), (Reg.fltCapSecLo, word rec_.sec),
    (Reg.fltCapSecHi, word (rec_.sec / 2 ^ 32)), (Reg.fltCapNs, word rec_.ns)]

/-- Capture, or merge into the record held. -/
def captureOrMerge (r : Report) (t : Nat) (s : Engine) : Engine :=
  if s.rbit Reg.fltCapStat 31 then s.countHold Reg.fltCapStat 16 8
  else if capturing s then captureReport r t s
  else s

/-- A sticky bit set; one that was clear is notified (R338). -/
def setSticky (i : Nat) (t : Nat) (s : Engine) : Engine :=
  if s.rbit (stickyWord i) (i % 32) then s
  else
    (s.putRbit (stickyWord i) (i % 32) true).noteTo 0 1 0x42
      (leBytes 1 i ++ leBytes 3 0 ++ timeBytes (t / nsUnit / 1000000000) (t / nsUnit % 1000000000))

/-- A report that counts: sticky bit and capture. -/
def recordReport (r : Report) (t : Nat) (s : Engine) : Engine := captureOrMerge r t (setSticky r.source.val t s)

/-! ### Reactions (R351 to R355, R358, R359) -/

/-- An NMI (R353, R354). -/
def raiseNmi (s : Engine) : Engine :=
  if s.rbit Reg.fltStat 1 then s.putRbit Reg.fltStat 8 true
  else
    let s := s.putRbit Reg.fltStat 1 true
    if s.activeMember.isSome then { s with flt.nmiCount := s.flt.nmiCount + 1 } else { s with flt.nmiWaiting := true }

def historyOf (s : Engine) (b : Block) : List Nat :=
  match s.flt.history.find? (fun p => p.1 == b) with
  | some p => p.2
  | none => []

/-- Whether the next block reset of a block is replaced: three of them lie less than 1 s before this edge's. -/
def escalates (s : Engine) (b : Block) : Bool :=
  let h := historyOf s b
  s.rbit Reg.fltCtl 1 && h.length == 3 && h.all fun t => decide (s.tick - t < 250000000)

/-- A block reset asserted on the present edge, with its shadow. -/
def blockReset (b : Block) (s : Engine) : Engine :=
  resetBlock b { s with
    flt.resets := (s.flt.resets.filter fun x => x.block != b) ++ [{ block := b, release := s.tick + 15 }],
    flt.shadows := (s.flt.shadows.filter fun p => p.1 != b) ++ [(b, s.tick + shadowLength b)],
    flt.history := (s.flt.history.filter fun p => p.1 != b) ++ [(b, (s.tick :: historyOf s b).take 3)] }

def chipAsked (i : Fin 128) (s : Engine) : Engine :=
  if s.flt.chip.isSome then s else { s with flt.chip := some { source := i, asked := s.tick, recorded := none } }

/-- FLT_ANY, on the edge of a new report, where every sticky bit was clear on the edge before (R348). -/
def emitAny (s : Engine) : Engine := s.onlyIf s.flt.quiet fun s => s.emit 0xB0

/-- The reactions to the new reports of one edge, taken on the next one: a chip reset alone, if any of them asks for it (R352, R355,
R359). -/
def reactLater (rs : List Report) (s : Engine) : Engine :=
  match rs.find? fun r => actionOf s r.source.val == 4 with
  | some c => s.later (.chip c.source)
  | none => { s with due := s.due ++ (rs.filter fun r => actionOf s r.source.val == 2 || actionOf s r.source.val == 3).map Due.react }

/-- The reaction to one report, on its edge. Two reports of one edge reset their block once. FLT_ESCALATE in place of a block reset is a
report of the collector's own, sampled on this edge with the others (R358, R359). -/
def react (r : Report) (s : Engine) : Engine :=
  if s.flt.chip.isSome then s
  else if actionOf s r.source.val = 3 then
    let b := blockOf r
    if (historyOf s b).head? = some s.tick then s
    else if escalates s b then s.raise 127 r.source.val
    else blockReset b s
  else if actionOf s r.source.val = 2 then raiseNmi s
  else s

/-! ### Sampling (R346, R348, R357, R359) -/

/-- What the detectors without a command of their own do besides reporting: a machine halts on an uncorrectable error (R165),
and a request in a failing queue entry ends ROUTE (R345). The entry that fails is a free value: the spec gives queue entries no bus
address. -/
def detectorEffect (s : Engine) (r : Report) : Engine :=
  if r.source = 50 then
    let k : Fin 33 := Fin.ofNat 33 (fld r.locus 24 8)
    s.onLp k fun x => { x with halted := true, cause := 4, wait := none }
  else if r.source = 66 then
    let (w, s) := s.freeWord
    let i := w.toNat % max 1 s.sch.queue.length
    match s.sch.queue[i]? with
    | some q => report { s with sch.queue := s.sch.queue.eraseIdx i } 5 0 q
    | none => s
  else s

/-- A consequential report. -/
def noteConsequential (counted : Bool) (i : Fin 128) (s : Engine) : Engine :=
  let s := s.putRbit (Reg.fltConseq (i.val / 32)) (i.val % 32) true
  if counted then { s with flt.conseqHeld := i :: s.flt.conseqHeld }.countHold Reg.fltConseqCnt 0 16 else s

/-- Whether the collector hears a report: its source exists and its pair is whole. -/
def heard (s : Engine) (r : Report) : Bool := sourceDefined r.source.val && !wireBroken s r.source.val

/-- The first report of each source, in rising order of source: a pair reports once on an edge (R346, R359). -/
def bySource (l : List Report) : List Report := (List.finRange 128).filterMap fun i => l.find? fun r => r.source == i

/-- Sources whose pair was in the report state on the edge before (R346). -/
def reportBefore (s : Engine) : List (Fin 128) :=
  if s.flt.sampled + 1 = s.tick then s.flt.inReport.filter fun i => hasPair i.val else []

/-- Continued reports that count as new: their shadow has closed. -/
def becomesNew (s : Engine) (r : Report) : Bool := s.flt.conseqHeld.contains r.source && !consequential s r

/-- A continued report. -/
def continueReport (s : Engine) (r : Report) : Engine :=
  if s.flt.conseqHeld.contains r.source then noteConsequential false r.source s else setSticky r.source.val s.time s

/-- The collector samples every pair on an edge: the reports that stand, those of detectors without a command of their own, and the
pairs still in report from the edge before. A report is new where its pair was idle on the edge before. A pair that goes into a break
in report has not been idle when it is whole again, so what it then carries is no new report (R346, R347). Reactions follow on the
next edge. -/
def sampleReports (found held : List Report) (s : Engine) : Engine :=
  let before := reportBefore s
  let raised := s.flt.waiting ++ found
  let standing := (held ++ raised).filter fun r => before.contains r.source
  let going := bySource (standing.filter (heard s))
  let fresh := raised.filter fun r => heard s r && !before.contains r.source
  let news := bySource (fresh ++ going.filter (becomesNew s))
  let conseq := news.filter (consequential s)
  let real := news.filter fun r => !consequential s r
  let s := { s with flt.waiting := [] }
  let s := (going.filter fun r => !becomesNew s r).foldl continueReport s
  let s := { s with
    flt.conseqHeld := s.flt.conseqHeld.filter fun i => standing.any fun r => r.source == i && !(heard s r && becomesNew s r),
    flt.inReport := (raised ++ standing).map (·.source), flt.sampled := s.tick }
  let s := conseq.foldl (fun s r => noteConsequential true r.source s) s
  let s := real.foldl (fun s r => recordReport r s.time s) s
  reactLater real (if real.isEmpty then s else emitAny s)

/-- An edge is sampled once; what a detector reports after that stands on its pair for the next edge (R346). -/
def faultReport (found held : List Report) (s : Engine) : Engine :=
  s.unlessReset fun s =>
    let s := found.foldl detectorEffect s
    if s.flt.sampled = s.tick then { s with flt.waiting := s.flt.waiting ++ found } else sampleReports found held s

/-! ### The collector's other events -/

def blockResetRelease (s : Engine) : Engine :=
  { s with flt.resets := s.flt.resets.filter fun x => s.tick < x.release }

def shadowClose (s : Engine) : Engine := { s with flt.shadows := s.flt.shadows.filter fun p => s.tick < p.2 }

def captureWindowEnd (s : Engine) : Engine :=
  match s.flt.captureEnd with
  | some t => s.onlyIf (decide (t ≤ s.tick)) fun s => { s with flt.captureEnd := none }
  | none => s

/-- The fault-log record written in its position (R379): the one of a chip reset first (R368). -/
def writeFlog (type : Nat) (l : LogRecord) (conseq : Bool) (s : Engine) : Engine :=
  let count := (s.nvm.flogCount + 1) % 2 ^ 24
  let map (f : Nat → Nat) : List Word := (List.range 4).map fun w => s.reg (f w)
  let ws := [putFld (word count) 24 8 type, word l.sec, word (l.sec / 2 ^ 32), word l.ns, l.stat, l.info, l.addr] ++
    map Reg.fltSticky ++ (if conseq then map Reg.fltConseq else List.replicate 4 0)
  writeRecord (flogWord ((count + 2047) % 2048)) (ws ++ [crc32c ws]) { s with nvm.flogCount := count }

/-- The shutdown record goes before every fault-log record (R368). -/
def shutdownWaits (s : Engine) : Bool := s.pwr.sdRecord.isSome && decide (s.pwr.sdAt + 100 ≤ s.tick)

/-- The capture record as the registers hold it. -/
def heldCapture (s : Engine) : LogRecord :=
  { sec := (s.reg Reg.fltCapSecHi).toNat * 2 ^ 32 + (s.reg Reg.fltCapSecLo).toNat, ns := (s.reg Reg.fltCapNs).toNat,
    stat := s.reg Reg.fltCapStat, info := s.reg Reg.fltCapInfo, addr := s.reg Reg.fltCapAddr }

/-- A fault-log record, once no record is in flight. -/
def faultLogRecord (s : Engine) : Engine :=
  s.onlyIf (s.mode ≠ .reset && s.nvm.op.isNone && !shutdownWaits s) fun s =>
    match s.flt.chip with
    | some c =>
      if c.recorded.isSome then s
      else writeFlog 1 (heldCapture s) true { s with flt.chip := some { c with recorded := some s.tick } }
    | none =>
      match s.flt.log with
      | [] => s
      | l :: rest => s.onlyIf (!(s.flt.resets.any fun x => x.block == .nvm)) fun s =>
          writeFlog 0 l false { s with flt.log := rest }

/-- A pair's rails have been equal on two consecutive edges (R347). -/
def pairBroken (i : Fin 128) (s : Engine) : Engine :=
  s.onlyIf (s.mode ≠ .reset && hasPair i.val && !wireBroken s i.val) fun s =>
    let s := s.putRbit (Reg.fltWireMap (i.val / 32)) (i.val % 32) true
    s.raise 126 (((List.range 126).find? fun j => wireBroken s j).getD 0)

/-- A broken pair's rails have been opposite on 16 consecutive edges (R347). -/
def pairRestored (i : Fin 128) (s : Engine) : Engine := s.putRbit (Reg.fltWireMap (i.val / 32)) (i.val % 32) false

def rejectCfg (s : Engine) : Engine := s.putRbit Reg.fltStat 9 true

/-- A write of FLT_INJECT: the report stands on the next edge (R360). -/
def faultInject (b : Bus) (i : Fin 128) (s : Engine) : Engine :=
  s.access b fun s =>
    let open_ := s.mode == .load || s.mode == .calibrate || s.mode == .kennel || s.rbit Reg.fltCtl 0
    if open_ && sourceDefined i.val then s.later (.inject i) else rejectCfg s

/-- A write of FLT_CTL: TEST and ESC_EN stored; NMI_DONE and ERR_RELEASE act (R353); a pending NMI is raised on the next edge (R354). -/
def fltCtlWrite (b : Bus) (v : Word) (s : Engine) : Engine :=
  s.access b fun s =>
    let s := s.setReg Reg.fltCtl (v &&& 3)
    let s := if bit v 2 then { s with flt.errHold := false } else s
    if !bit v 3 then s
    else
      let pend := s.rbit Reg.fltStat 8
      let s := (s.putRbit Reg.fltStat 8 false).putRbit Reg.fltStat 1 false
      if pend then s.later .nmi else s

/-- A write of FLT_REACT[i] (R351). -/
def reactWrite (b : Bus) (i : Fin 128) (v : Word) (s : Engine) : Engine :=
  s.access b fun s =>
    let action := fld v 0 3
    if !secureBus b || decide (5 ≤ action) || (action == 3 && !blockPermitted i.val) then rejectCfg s
    else if sourceDefined i.val then s.setReg (Reg.fltReact i.val) (v &&& 0x17)
    else s

/-- W1C of FLT_CAP_STAT.VALID (R356). -/
def captureClear (b : Bus) (s : Engine) : Engine := s.access b fun s => s.putRbit Reg.fltCapStat 31 false

/-! ### Outputs (R353) -/

/-- INT_N is to be asserted: a sticky bit of a source with INT or BLOCK. -/
def intAsserted (s : Engine) : Bool :=
  (List.range 128).any fun i => s.rbit (stickyWord i) (i % 32) && (actionOf s i == 1 || actionOf s i == 3)

/-- ERR_N is to be asserted: the hold after a fault reset, or a sticky bit of a source with ERR. -/
def errAsserted (s : Engine) : Bool :=
  s.flt.errHold || (List.range 128).any fun i => s.rbit (stickyWord i) (i % 32) && bit (reactOf s i) 4

/-- The pins as a TICK edge drives them, from the state that the edge before left (R352), and what FLT_ANY is judged by (R348). -/
def drivePins (s : Engine) : Engine :=
  { s with flt.quiet := noSticky s, flt.intOn := intAsserted s, flt.errOn := errAsserted s }

/-! ### Meanings -/

def execFaultReport (found held : List Report) (s : State) : Host.Outcome State Fault Refusal := s.run (faultReport found held)

def execBlockResetRelease (s : State) : Host.Outcome State Fault Refusal := s.run blockResetRelease

def execFaultLogRecord (s : State) : Host.Outcome State Fault Refusal := s.run faultLogRecord

def execPairBroken (i : Fin 128) (s : State) : Host.Outcome State Fault Refusal := s.run (pairBroken i)

def execPairRestored (i : Fin 128) (s : State) : Host.Outcome State Fault Refusal := s.run (pairRestored i)

def execShadowClose (s : State) : Host.Outcome State Fault Refusal := s.run shadowClose

def execCaptureWindowEnd (s : State) : Host.Outcome State Fault Refusal := s.run captureWindowEnd

end Sys2Proof.Machine
end

