-- ==== Sys2Proof/Machine/Nvm.lean ====
section
/-! DEFINITION. The MRAM controller, its scrubs, the boot selection, the Kennel image and the checkpoint (chapter 16). -/

namespace Sys2Proof.Machine

open Sys2Proof

/-! ### Records (R363, R364, R368) -/

/-- Sixteen free words. -/
def freeWords (s : Engine) : List Word × Engine :=
  ((List.range 16).map fun i => Config.freeWord (s.freeCtr + i), { s with freeCtr := s.freeCtr + 16 })

/-- The words of a set's commit record (R365). -/
def commitWords (kind : Nat) (c : CommitRec) (records : Nat) (crc : Word) : List Word :=
  let ws := [0x4E4D4331, word (kind + 0x100), word c.gen, word records, word c.sec, word (c.sec / 2 ^ 32), word c.ns, crc] ++ List.replicate 7 0
  ws ++ [crc32c ws]

/-- A record of an image slot, numbered from the slot's first: the payload is the tiles, and the commit record follows it. SET_CRC also
covers the header record, which the spec lays out for no image: a free value, as is the header itself. -/
def readImage (x : ImageSlot) (n : Nat) (s : Engine) : List Word × Engine :=
  let payload := x.tiles.length / 16
  if 1 ≤ n ∧ n ≤ payload then ((x.tiles.drop (16 * (n - 1))).take 16, s)
  else match (if n = payload + 1 then x.commit else none) with
    | some c => let (crc, s) := s.freeWord; (commitWords 1 c (payload + 1) crc, s)
    | none => freeWords s

/-- The words that a record reads as. -/
def readMram (record : Nat) (s : Engine) : List Word × Engine :=
  match areaOf record with
  | .slot 0 => readImage s.nvm.img.1 record s
  | .slot 1 => readImage s.nvm.img.2 (record - 65536) s
  | .reserved => (List.replicate 16 0, s)
  | .single => (recordWords s.nvm.raw (16 * record), s)
  | _ => freeWords s

/-- A record of the shutdown or fault log is queued (R297, R350, R355, R368). -/
def logQueued (s : Engine) : Bool :=
  !s.flt.log.isEmpty || shutdownWaits s || (match s.flt.chip with | some c => c.recorded.isNone | none => false)

/-- NVM_STAT.BUSY: a record operation is in flight or queued (R384). -/
def nvmBusy (s : Engine) : Bool := s.nvm.op.isSome || logQueued s

/-- A write of NVM_REC_CMD with OP 1 or 2. -/
def recordCommand (b : Bus) (write : Bool) (s : Engine) : Engine :=
  s.access b fun s =>
    if nvmBusy s then s.putRbit Reg.nvmStat 11 true
    else
      let record := s.rfld Reg.nvmRecAddr 6 18
      let refused := write && (match areaOf record with | .keys => true | .prod => true | .reserved => true | _ => false)
      if refused then s.raiseBy b 105 (64 * record) 2
      else
        let data := (List.range 16).map fun i => s.reg (Reg.nvmRecBuf i)
        { s with nvm.op := some { by_ := b, write := write, record := record, data := data, start := s.tick, late := false } }

/-- A corrected read counted (R363). -/
def countCorrected (s : Engine) : Engine := (s.putRbit Reg.nvmStat 8 true).countHold Reg.nvmCnt 16 16

/-- A read completes: its words are in NVM_REC_BUF; those of an uncorrectable record are open. -/
def completeRead (b : Bus) (record : Nat) (corrected ue : Bool) (s : Engine) : Engine :=
  let s := if corrected then countCorrected s else s
  let s := if ue then s.raiseBy b 104 (64 * record) 1 else s
  let (ws, s) := if ue then freeWords s else readMram record s
  s.setRegs (ws.mapIdx fun i w => (Reg.nvmRecBuf i, w))

/-- A record written into an image slot: one that changes nothing leaves the set valid, any other leaves it without its commit record. -/
def writeImage (slot : Bool) (n : Nat) (ws : List Word) (s : Engine) : Engine :=
  let x := slotOf s.nvm.img slot
  let at_ (i : Nat) : Nat := i / 16 + 1
  let tiles := x.tiles.mapIdx fun i w => if at_ i = n then ws.getD (i % 16) 0 else w
  let kept := decide (1 ≤ n ∧ n ≤ x.tiles.length / 16) && tiles == x.tiles
  { s with nvm.img := putSlot s.nvm.img slot { tiles := tiles, commit := if kept then x.commit else none } }

/-- The words of a record stored: a set keeps its commit record only where nothing of it changes (R365). -/
def storeMram (record : Nat) (ws : List Word) (s : Engine) : Engine :=
  match areaOf record with
  | .slot 0 => writeImage false record ws s
  | .slot 1 => writeImage true (record - 65536) ws s
  | .slot i => invalidate i s
  | .single => writeRecord (16 * record) ws s
  | _ => s

/-- A write completes; the words of one that fails its verify read are open. -/
def completeWrite (b : Bus) (record : Nat) (data : List Word) (bad : Bool) (s : Engine) : Engine :=
  let s := if bad then s.raiseBy b 105 (64 * record) 2 else s
  let (ws, s) := if bad then freeWords s else (data, s)
  storeMram record ws s

/-- The operation in flight completes. `ue`: uncorrectable on a read, or a write that differs on its verify read. -/
def nvmRecordComplete (corrected ue : Bool) (s : Engine) : Engine :=
  match s.nvm.op with
  | none => s
  | some o =>
    s.onlyIf (s.mode ≠ .reset && !s.nvmHeld) fun s =>
      let s := { s with nvm.op := none }
      if o.write then completeWrite o.by_ o.record o.data ue s else completeRead o.by_ o.record corrected ue s

/-- An operation has not completed within 1 ms (R345). -/
def nvmTimeout (s : Engine) : Engine :=
  match s.nvm.op with
  | none => s
  | some o =>
    s.onlyIf (s.mode ≠ .reset && !o.late && decide (o.start + 250000 ≤ s.tick)) fun s =>
      { s with nvm.op := some { o with late := true } }.raise 106 0

/-! ### Scrubs (R371, R383) -/

/-- Upsets of the stored words of the image slot in use. -/
def upsetTiles (flips : List (Nat × Word)) (s : Engine) : Engine :=
  let x := slotOf s.nvm.img s.nvm.imageSlot
  let ws := x.tiles.mapIdx fun i w => flips.foldl (fun w p => if p.1 = i then w ^^^ p.2 else w) w
  { s with nvm.img := putSlot s.nvm.img s.nvm.imageSlot { x with tiles := ws } }

/-- The loader's scrub every 10 s. `flips`: upsets of the stored tiles since they were written; `held`: tiles of which a block's
held copy differs. -/
def imageScrub (flips : List (Nat × Word)) (held : List (Fin 1024)) (s : Engine) : Engine :=
  s.onlyIf (s.mode ≠ .reset && s.nvm.image.isSome && decide (s.nvm.imgScrubTick + 2500000000 ≤ s.tick)) fun s =>
    let s := upsetTiles flips { s with nvm.imgScrubTick := s.tick }
    let ws := (slotOf s.nvm.img s.nvm.imageSlot).tiles
    let bad := (List.range (ws.length / 1024)).filter fun t => !tileOk ws t
    let s := bad.foldl (fun s t => s.raiseAt 104 (tileAddress s.nvm.imageSlot t) 0 1) s
    let repaired := held.filter fun t => !bad.contains t.val
    repaired.foldl (fun s _ => ({ s with nvm.repair := true }.putRbit Reg.nvmStat 10 true).countHold Reg.nvmCnt 0 16) s

/-- A scrub pass starts, unless one runs. -/
def startScrub (s : Engine) : Engine :=
  if s.nvm.scrub.isSome then s
  else { s with nvm.scrub := some 0, nvm.scrubTick := s.tick }.putRbit Reg.nvmCtl 0 true

def mramScrubStart (b : Bus) (s : Engine) : Engine := s.access b startScrub

/-- Records outside the reserved area. -/
def scrubRecords : Nat := 196608

/-- Whether any other operation waits for the controller (R368, R383). -/
def nvmWaits (s : Engine) : Bool :=
  s.nvm.op.isSome || !s.flt.log.isEmpty || s.flt.chip.isSome || s.pwr.sdRecord.isSome || s.nvmHeld

/-- The pass reads its next record. -/
def scrubRecord (corrected ue : Bool) (s : Engine) : Engine :=
  match s.nvm.scrub with
  | none => s
  | some n =>
    s.onlyIf (s.mode ≠ .reset && decide (n < scrubRecords) && !nvmWaits s && decide (s.nvm.scrubTick + 2500 ≤ s.tick)) fun s =>
      let s := { s with nvm.scrub := some (n + 1), nvm.scrubTick := s.tick }
      let s := if corrected then countCorrected s else s
      if ue then s.raiseAt 104 (64 * n) 0 1 else s

/-- The pass completes, and its time is latched. -/
def scrubComplete (s : Engine) : Engine :=
  match s.nvm.scrub with
  | none => s
  | some n =>
    s.onlyIf (s.mode ≠ .reset && decide (scrubRecords ≤ n)) fun s =>
      ({ s with nvm.scrub := none }.putRbit Reg.nvmCtl 0 false).setRegs [
        (Reg.nvmScrubSecLo, word s.nowSec), (Reg.nvmScrubSecHi, word (s.nowSec / 2 ^ 32))]

/-- Thirty days after the last completed pass the firmware starts one. -/
def scrubDue (s : Engine) : Engine :=
  let last := (s.reg Reg.nvmScrubSecHi).toNat * 2 ^ 32 + (s.reg Reg.nvmScrubSecLo).toNat
  s.onlyIf (s.mode ≠ .reset && s.activeMember.isSome && decide (last + 2592000 ≤ s.nowSec)) startScrub

/-! ### The Kennel image (R375, R376) -/

/-- The Kennel entries: STATE of the Kennel cells, TABLE and RANGE of the calibration set. -/
def kennelEntries (v : Variant) (img : Image) (words : Mem) : Mem :=
  (List.range v.elements).foldl (fun m e => put0 m e (entryFor words e (img.kennelCells.contains (cellOf v e)))) []

/-- The Kennel image is built again and stored; in LOAD it is the one applied. -/
def kennelRebuild (s : Engine) : Engine :=
  match storedImage s with
  | none => s
  | some (img, gen) =>
    s.onlyIf (rebuildDue s) fun s =>
      let set := storedSet s
      let words := kennelEntries s.variant img set.words
      let (slot, n) := kenTarget s
      let x : KennelSlot := { calGen := set.gen, imgGen := gen, words := words, commit := some (commitNow s n) }
      let s := { s with nvm.ken := putSlot s.nvm.ken slot x }
      if s.mode = .load then { s with nvm.kenSel := words }.putRfld Reg.nvmBoot 4 2 2 else s

/-! ### Boot (R366, R367, R372, R374, R377 to R382) -/

/-- A record that reads with an uncorrectable error: reported; its set exists no longer, or it fails its own check. -/
def spoil (s : Engine) (record : Nat) : Engine :=
  let s := s.raiseAt 104 (64 * record) 0 1
  match areaOf record with
  | .slot i => invalidate i s
  | .single => { s with nvm.raw := put0 s.nvm.raw (16 * record + 15) (~~~(get0 s.nvm.raw (16 * record + 15))) }
  | _ => s

def noteTie (tie : Bool) (s : Engine) : Engine := if tie then s.putRbit Reg.nvmStat 9 true else s

/-- The image slot: an invalid one is reported; with none the engine is in the recovery state (R398). -/
def selectImage (s : Engine) : Engine :=
  let bad (x : ImageSlot) : Bool := (imageCommit s x).isNone
  let pick := pickImg s
  let s' := if bad s.nvm.img.1 then s.raise 114 0 else s
  let s' := if bad s.nvm.img.2 then s'.raise 114 0 else s'
  match pick with
  | some (sel, tie) =>
    let s' := noteTie tie ((s'.putRbit Reg.nvmBoot 1 true).putRbit Reg.nvmBoot 0 sel)
    { s' with nvm.imageSlot := sel }.setReg Reg.nvmImgGen (word (genOf (slotOf s.nvm.img sel).commit))
  | none => { s' with sys.recovery := true }

/-- The calibration slot, with CAL_DIVERGE on a tie. -/
def selectCal (s : Engine) : Engine :=
  match pickCal s with
  | some (sel, tie) =>
    let s := noteTie tie (s.putRfld Reg.nvmBoot 2 2 (if sel then 1 else 0))
    if tie then s.raise 60 0 else s
  | none => s.putRfld Reg.nvmBoot 2 2 2

/-- The Kennel slot, where it was built from what is selected; else it is to be rebuilt. -/
def selectKennel (s : Engine) : Engine :=
  match storedImage s, pickKen s with
  | some (_, gen), some (sel, tie) =>
    let s' := noteTie tie s
    if kennelCurrent s gen then
      { s' with nvm.kenSel := (slotOf s.nvm.ken sel).words }.putRfld Reg.nvmBoot 4 2 (if sel then 1 else 0)
    else s'
  | _, _ => s

def selectCkpt (s : Engine) : Engine :=
  match pickCkpt s with
  | some (sel, tie) => noteTie tie ((s.putRbit Reg.nvmBoot 7 true).putRbit Reg.nvmBoot 6 sel)
  | none => s

/-- A key for an empty engine slot, and the image's operator key for an empty operator slot (R380). -/
def bootKeys (s : Engine) : Engine :=
  let s := match s.nvm.keys[(65 : Fin 66)] with
    | some _ => s
    | none =>
      putKey 65 { key := Config.freeKey s.freeCtr, inputs := [], outputs := [] } { s with freeCtr := s.freeCtr + 1 }
  match s.nvm.keys[(0 : Fin 66)], storedImage s with
  | none, some (img, _) =>
    match img.operatorKey with
    | some k => writeSess 0 0 (putKey 0 { key := k, inputs := [], outputs := [] } s)
    | none => s
  | _, _ => s

/-- The next positions of the logs, by the highest valid counts (R379). -/
def bootLogs (s : Engine) : Engine :=
  { s with nvm.sdCount := highestCount s.nvm.raw (sdlogBase 0) 256 fun ws => (ws.getD 14 0).toNat,
           nvm.flogCount := highestCount s.nvm.raw (flogWord 0) 2048 fun ws => fld (ws.getD 0 0) 0 24 }

/-- In LOAD every slot and area is read and selected. `ue`: records that read with an uncorrectable error. -/
def bootSlotSelect (ue : List (Fin 262144)) (s : Engine) : Engine :=
  s.onlyIf (s.mode == .load && !s.sys.recovery && s.activeMember.isSome && !s.nvm.selected) fun s =>
    let s := (ue.map Fin.val).foldl spoil s
    let s := selectCkpt (selectKennel (selectCal (selectImage s)))
    let s := bootLogs (bootKeys { s with nvm.selected := true })
    rebuildRing (rebuildSessions (rebuildOwners ((storedImage s).map Prod.fst) s))

/-- Every section of the selected image is placed in the shadow halves, and the stored calibration set is made live. -/
def imageDistribute (s : Engine) : Engine :=
  match storedImage s with
  | none => s
  | some (img, _) =>
    s.onlyIf (s.mode == .load && s.nvm.selected && !s.sys.recovery && s.nvm.shadow.isNone && s.nvm.image.isNone) fun s =>
      let set := storedSet s
      { s with nvm.shadow := some img, cal.live := set, cal.shadow := set }

/-! ### The checkpoint (R377) -/

/-- The checkpoint of the last minute boundary, written by the firmware of the ACTIVE member. -/
def checkpoint (s : Engine) : Engine :=
  match s.fw.ckptDue with
  | none => s
  | some (minute, tenants) =>
    s.onlyIf (ckptDue s) fun s =>
      let data : Checkpoint :=
        { minute := minute, oldest := (s.fw.ringNext + 2 ^ 32 - s.fw.ring.length) % 2 ^ 32, next := s.fw.ringNext,
          acc := s.led.acc.toList, tenants := tenants, seq := s.pak.seq }
      let (slot, n) := ckptTarget s
      { s with fw.ckptDue := none, fw.ckptAcc := data.acc, nvm.ckpt := putSlot s.nvm.ckpt slot { data := data, commit := some (commitNow s n) } }

/-! ### Meanings -/

def execCheckpoint (s : State) : Host.Outcome State Fault Refusal := s.run checkpoint

def execNvmRecordComplete (corrected ue : Bool) (s : State) : Host.Outcome State Fault Refusal :=
  s.run (nvmRecordComplete corrected ue)

def execNvmTimeout (s : State) : Host.Outcome State Fault Refusal := s.run nvmTimeout

def execImageScrub (flips : List (Nat × Word)) (held : List (Fin 1024)) (s : State) : Host.Outcome State Fault Refusal :=
  s.run (imageScrub flips held)

def execScrubRecord (corrected ue : Bool) (s : State) : Host.Outcome State Fault Refusal := s.run (scrubRecord corrected ue)

def execScrubComplete (s : State) : Host.Outcome State Fault Refusal := s.run scrubComplete

def execScrubDue (s : State) : Host.Outcome State Fault Refusal := s.run scrubDue

def execKennelRebuild (s : State) : Host.Outcome State Fault Refusal := s.run kennelRebuild

def execBootSlotSelect (ue : List (Fin 262144)) (s : State) : Host.Outcome State Fault Refusal := s.run (bootSlotSelect ue)

def execImageDistribute (s : State) : Host.Outcome State Fault Refusal := s.run imageDistribute

end Sys2Proof.Machine
end

