-- ==== Sys2Proof/Machine/Modes.lean ====
section
/-! DEFINITION. Reset, mode requests and mode transitions (chapter 17): what a reset leaves standing, how a request is judged,
and what each transition does. -/

namespace Sys2Proof.Machine

open Sys2Proof

/-! ### Codes (R390) -/

def modeOfCode (n : Nat) : Option Mode :=
  match n with
  | 0 => some .reset | 1 => some .load | 2 => some .calibrate | 3 => some .hold | 4 => some .run | 5 => some .kennel
  | _ => none

/-! ### Reset (R386) -/

/-- What MRAM, and the production values, keep over a reset. -/
def NvmState.kept (n : NvmState) : NvmState :=
  { NvmState.reset with
    img := n.img, cal := n.cal, ken := n.ken, ckpt := n.ckpt, keys := n.keys, raw := n.raw, sdCount := n.sdCount,
    flogCount := n.flogCount, factory := n.factory, prod := n.prod }

/-- Balls and test port are no part of a reset (R413, R418). -/
def SysState.kept (x : SysState) (phase : ResetPhase) : SysState :=
  { SysState.reset with
    phase := phase, bootsel := x.bootsel, pgood := x.pgood, railsGood := x.railsGood, railLowAt := x.railLowAt, jtag := x.jtag, bsr := x.bsr,
    jtagOut := x.jtagOut, smbusOut := x.smbusOut }

/-- The engine enters RESET: SYS_RESET_CAUSE takes the cause, and everything but MRAM, the balls and the references returns to
its reset value. `hold`: ERR_N stays held (R353). -/
def enterReset (cause : Word) (phase : ResetPhase) (hold : Bool) (s : Engine) : Engine :=
  let s := tearSets s
  { Engine.reset with
    variant := s.variant, tick := s.tick, freeCtr := s.freeCtr, regs := memWrite Reg.resetWord [] Reg.sysResetCause cause,
    clk := { s.clk with target := false }, sys := s.sys.kept phase, flt.errHold := hold, flt.errOn := hold, nvm := s.nvm.kept }

/-- A record whose write PORST_N interrupts may be torn (R386): free values decide whether and with what. -/
def tearRecord (s : Engine) : Engine :=
  match s.nvm.op with
  | some o =>
    let (w, s) := s.freeWord
    if o.write && bit w 0 then
      let (ws, s) := freeWords s
      storeMram o.record ws s
    else s
  | none => s

/-- PORST_N low for 1 µs (R386, R417): cause POR, at once, and ERR_N is released. -/
def porstAssert (s : Engine) : Engine := enterReset 1 .porHeld false (tearRecord s)

/-- PORST_N high for 1 µs: RESET is released and BOOTSEL sampled (R387, R388, R417). -/
def porstRelease (pins : Fin 4) (s : Engine) : Engine :=
  match s.sys.phase with
  | .porHeld => { s with sys.phase := .released, sys.bootsel := pins }
  | _ => s

/-- RESET by FAULT or REQUEST is left 25,000 TICK after its entry; LOAD begins on the first edge with LOCK = 1. -/
def resetRelease (pins : Fin 4) (s : Engine) : Engine :=
  match s.sys.phase with
  | .timed entered =>
    s.onlyIf (decide (entered + 25000 ≤ s.tick)) fun s =>
      let s := { s with sys.phase := .released, sys.bootsel := pins }
      if s.locked then enterLoad s else s
  | _ => s

/-- A chip reset taken. -/
def enterChipReset (c : ChipReset) (s : Engine) : Engine := enterReset (word (2 + c.source.val * 2 ^ 16)) (.timed s.tick) true s

/-- The chip reset that the collector asked for takes effect once its fault-log record is complete (R355). -/
def chipResetEntry (s : Engine) : Engine :=
  match s.flt.chip with
  | some c =>
    match c.recorded with
    | some t => if t < s.tick then enterChipReset c s else s
    | none => s
  | none => s

/-- It takes effect no later than 1,024 edges after its reaction (R355). -/
def chipDeadline (s : Engine) : Engine :=
  match s.flt.chip with
  | some c => if c.asked + 1024 ≤ s.tick then enterChipReset c s else s
  | none => s

/-! ### Requests (R391 to R393) -/

/-- KENNEL is ready (R393). -/
def kennelReady (s : Engine) : Bool :=
  !s.drv.clamped && s.rbit Reg.sysPilotStat 0 &&
    match s.sys.sweepsSinceKennel with
    | some n => decide (3 ≤ n)
    | none => false

def holdsConnection (s : Engine) : Bool :=
  (List.range s.variant.ports).any fun i => mapConn (get0 s.rte.cur i) || mapConn (get0 s.rte.base i)

/-- The ledger ring holds an unacknowledged record, or an overflow accumulator is set. -/
def ledgerWaits (s : Engine) : Bool := !s.fw.ring.isEmpty || s.led.acc.toList.any Option.isSome

/-- The mode a request is judged against: KENNEL from the edge of a trip on (R392). -/
def judgedMode (s : Engine) : Mode := if s.sys.trip.isSome then .kennel else s.mode

/-- The reason for which a request is refused, by the table of R391. -/
def modeRefusal (s : Engine) (m : Mode) : Option Nat :=
  let fromKennel : Option Nat :=
    if s.rbit Reg.thmStat 7 then some 5 else if kennelReady s then none else some 4
  let ledger : Option Nat := if ledgerWaits s then some 6 else none
  match judgedMode s, m with
  | .kennel, .reset => ledger
  | .calibrate, .reset => ledger
  | .load, .reset => if s.sys.recovery then ledger else some 1
  | .calibrate, .kennel => none
  | .hold, .kennel => none
  | .run, .kennel => none
  | .hold, .run => none
  | .run, .hold => none
  | .hold, .calibrate => if holdsConnection s then some 3 else none
  | .kennel, .calibrate => fromKennel
  | .kennel, .hold => fromKennel
  | .calibrate, .hold => if s.cal.phase = 4 then some 7 else none
  | _, _ => some 1

def refuseMode (reason : Fin 16) (s : Engine) : Engine := { s with sys.refused := true, sys.reason := reason }

/-- A request of a mode; `none`: a reserved code. BUSY comes first, then ILLEGAL for LOAD, then the present mode. -/
def requestMode (m : Option Mode) (s : Engine) : Engine :=
  if s.sys.pendMode.isSome then refuseMode 2 s
  else match m with
    | none => refuseMode 1 s
    | some .load => refuseMode 1 s
    | some m =>
      if m = judgedMode s then s
      else match modeRefusal s m with
        | some r => refuseMode (Fin.ofNat 16 r) s
        | none => { s with sys.pendMode := some m, sys.pendFrom := if m = .reset then s.pak.boundary + 25000 else s.tick + 1 }

/-- A write of SYS_MODE_REQ. -/
def modeRequest (b : Bus) (m : Option Mode) (s : Engine) : Engine := s.access b (requestMode m)

/-! ### Transitions (R394) -/

/-- The MODE notification (R338). -/
def noteMode (s : Engine) : Engine :=
  let payload := leBytes 4 (modeCode s.mode) ++ timeBytes s.nowSec s.nowSubNs
  (List.finRange 65).foldl (fun (s : Engine) n => s.noteTo n 3 0x44 payload) s

def setMode (m : Mode) (s : Engine) : Engine := noteMode { s with mode := m }

/-- Queued requests, the issued request and the commit end with outcomes (R237, R394). -/
def endWork (queued under : Nat) (s : Engine) : Engine :=
  let s := s.sch.queue.foldl (fun s r => report s queued 0 r) { s with sch.queue := [] }
  cancelLater (cancelCommit (cancelIssued s under false) under 0)

/-- The Kennel permutation reference of the image in use: map words of idle routes, and the CROSS cells of a plane (R77). -/
def kennelRef (s : Engine) : Mem × List Nat :=
  match s.nvm.image with
  | some img =>
    ((List.range s.variant.ports).foldl (fun m i => put0 m i (mapWord (mapOut (get0 img.kennelMap i)) none false)) [],
      img.kennelCells)
  | none => ([], [])

/-- Both maps hold the Kennel permutation, every route idle (R77). A request in computation has lost its base: it completes and is
reported BASE_CANCELLED (R75, R104). -/
def loadKennelRef (s : Engine) : Engine :=
  let (m, cells) := kennelRef s
  { s with rte.cur := m, rte.base := m, rte.cellsCur := cells, rte.cellsBase := cells, rte.job := s.rte.job.map cancelJob,
           rte.held := none }

/-- The result KENNEL_APPLIED, formed against the map and cells before entry (R78). -/
def kennelResult (old : Mem) (oldCells : List Nat) (s : Engine) : Engine :=
  let n := s.variant.logPorts
  let changed := changedCells n oldCells s.rte.cellsCur
  let crossed := blinkInputs n oldCells s.rte.cellsCur changed
  let listed := (List.range s.variant.ports).filter fun i => crossed.contains i || mapConn (get0 old i)
  { postResult s 9 changed.length listed.length 0 0 0 with
    rte.blink := listed.map fun i => blinkWord i (get0 old i) (get0 s.rte.cur i),
    rte.cellmap := s.rte.cellsCur, rte.changed := changed }

/-- The Kennel pass begins without a re-seed, and the lock is abandoned (R104): it belongs to a commit (R22); after DRV_KENNEL_FAIL no Kennel Whistle will end the connections (R105). -/
def startKennelPass (s : Engine) : Engine :=
  let s := { s with drv.reseedDue := false, drv.waiting := [], drv.lock := .free }
  if s.drv.clampHeld then endHeld { s with drv.loader := .idle }
  else { s with drv.loader := .kennel false false s.tick }

/-- The first whole second at or after the present edge (R227). -/
def nextSecond (s : Engine) : Nat :=
  let sec := 1000000000 * nsUnit
  (s.time + sec - 1) / sec * sec

/-- On the edge on which LOAD is left the default gate list of the image takes its base (R227). DESIGN CHOICE where HOT_SHUTDOWN
leaves LOAD before it completes. -/
def baseDefaultList (s : Engine) : Engine :=
  match s.nvm.image with
  | some img => { s with sch.default := some { base := nextSecond s, cycle := img.gateCycle,
                                                  entries := img.gateEntries.map fun e => (e.1 &&& entryMask 0, e.2) } }
  | none => s

/-- Entry to KENNEL (R78, R104, R211, R214, R237). -/
def enterKennel (s : Engine) : Engine :=
  let s := if s.mode = .load then baseDefaultList s else s
  let s := endWork 8 8 (abandonAll s)
  let old := s.rte.cur
  let oldCells := s.rte.cellsCur
  let s := kennelResult old oldCells (loadKennelRef s)
  let s := { s with sys.trip := none, sys.pendMode := if s.sys.pendMode = some .kennel then none else s.sys.pendMode }
  startKennelPass (setMode .kennel s)

/-- A requested transition takes effect. -/
def enterMode (m : Mode) (s : Engine) : Engine :=
  match s.mode, m with
  | _, .reset => enterReset 4 (.timed s.tick) s.flt.errHold s
  | _, .kennel => enterKennel s
  | .hold, .calibrate => setMode .calibrate (endWork 9 7 s)
  | .calibrate, .hold => setMode .hold s
  | .hold, .run =>
    let s := setMode .run s
    match s.sch.commit with
    | some c => if c.stage = .built then askVerify s else s
    | none => s
  | _, m => setMode m s

/-- Whether the present edge is a sweep boundary that has been taken. -/
def atSweepBoundary (s : Engine) : Bool := s.sns.sweepRun && s.sns.sweepStart == s.tick

def commitArmed (s : Engine) : Bool :=
  match s.sch.commit with
  | some c => c.isArmed
  | none => false

/-- Whether an accepted request takes effect on this edge (R386, R391). A RESET waits for an MRAM record in flight. -/
def modeDue (s : Engine) (m : Mode) : Bool :=
  decide (s.sys.pendFrom ≤ s.tick) &&
    match s.mode, m with
    | _, .reset => s.nvm.op.isNone
    | .hold, .calibrate => atSweepBoundary s && !commitArmed s
    | .kennel, .calibrate => atSweepBoundary s
    | .calibrate, .hold => atSweepBoundary s
    | _, _ => true

/-- A transition takes effect: the trip of HOT_SHUTDOWN first (R392). -/
def modeTransition (s : Engine) : Engine :=
  if s.mode = .reset then s
  else match s.sys.trip with
    | some u => if u + 1 ≤ s.tick then enterKennel s else s
    | none => match s.sys.pendMode with
      | none => s
      | some m => if modeDue s m then enterMode m { s with sys.pendMode := none } else s

/-! ### LOAD completes (R387, R389) -/

def loadDone (s : Engine) : Bool :=
  s.mode == .load && !s.sys.recovery && s.sys.trip.isNone && atSweepBoundary s && s.nvm.image.isSome && !s.drv.clamped &&
    s.rbit Reg.sysPilotStat 0 && (match s.sys.sweepsSincePt with | some n => decide (3 ≤ n) | none => false) &&
    s.rbit Reg.thmStat 10 && decide (8 ≤ s.sys.updatesSinceValid) && s.activeMember.isSome

/-- LOAD completes: the mode that BOOTSEL selects is entered, and the default gate list takes its base. -/
def loadComplete (s : Engine) : Engine :=
  s.onlyIf (loadDone s) fun s =>
    if s.sys.bootsel = 0 then setMode .hold (baseDefaultList s)
    else if s.sys.bootsel = 1 then setMode .calibrate (baseDefaultList s)
    else enterKennel s

/-! ### Meanings -/

def execChipReset (s : State) : Host.Outcome State Fault Refusal := s.run chipResetEntry

def execPorstAssert (s : State) : Host.Outcome State Fault Refusal := s.run porstAssert

def execPorstRelease (pins : Fin 4) (s : State) : Host.Outcome State Fault Refusal := s.run (porstRelease pins)

def execResetRelease (pins : Fin 4) (s : State) : Host.Outcome State Fault Refusal := s.run (resetRelease pins)

def execLoadComplete (s : State) : Host.Outcome State Fault Refusal := s.run loadComplete

def execModeTransition (s : State) : Host.Outcome State Fault Refusal := s.run modeTransition

end Sys2Proof.Machine
end

