-- ==== Sys2Proof/Machine/Result.lean ====
section
/-! DEFINITION. Result words (R122, R123) and what follows one: the lane's own checks (R125, R128), its temperature (R115, R282,
R284), the standard port program's work (R109, R175, R176) and the visit record of a loop processor (R158, R159). -/

namespace Sys2Proof.Machine

open Sys2Proof

/-! ### The word (R122) -/

def bitNat (b : Bool) : Nat := if b then 1 else 0

def resultWord (c : Conv) (code : Nat) : Word :=
  word (2 ^ 24 * c.seq + 2 ^ 17 * c.slot + 2 ^ 16 * bitNat c.leash + 2 ^ 15 * bitNat c.stale + 2 ^ 12 * c.range + code)

/-- The word replaces the one of its slot's entry (R123, R405), and whether it began before its element changed is kept (R159). -/
def storeResult (c : Conv) (w : Word) (s : Engine) : Engine :=
  { s with sns.results := put0 s.sns.results c.addr w,
           sns.pre := if c.pre then insertNat c.addr s.sns.pre else s.sns.pre.filter (· != c.addr) }

/-! ### Checks (R125, R128) -/

/-- 4,095 in the fourth consecutive sweep or scan at RANGE = 0. -/
def checkOver (l : Fin 544) (code : Nat) (s : Engine) : Engine :=
  if code ≠ 4095 then s
  else
    let x := s.lane l
    let s := s.putRbit (Reg.snsLaneStat l) 9 true
    if x.range ≠ 0 ∨ x.overRange = true then s
    else
      let s := s.setLane l { x with overRange := true }
      if 3 ≤ x.overRun then s.raise 34 l.val else s

/-- A TDAC result off its ideal code by more than 10 % of (ideal − 64). -/
def checkTdac (l : Fin 544) (c : Conv) (code : Nat) (s : Engine) : Engine :=
  let off := (32 * ((code : Int) - 64) - 125 * (c.tdac : Int)).natAbs
  if c.slot = 71 ∧ c.stale = false ∧ 25 * c.tdac < 2 * off then (s.putRbit (Reg.snsLaneStat l) 10 true).raise 32 l.val else s

def checkRef (l : Fin 544) (c : Conv) (code : Nat) (s : Engine) : Engine :=
  if c.slot = 68 ∧ (code < 2007 ∨ 2089 < code) then (s.putRbit (Reg.snsLaneStat l) 11 true).raise 33 l.val else s

/-- What the auto-range decision keeps of a valid current-channel result but TDAC, at the range in use. -/
def noteRange (l : Fin 544) (c : Conv) (code : Nat) (s : Engine) : Engine :=
  let x := s.lane l
  if c.slot < 68 ∧ c.stale = false ∧ c.range = x.range then
    s.setLane l { x with up := x.up || decide (3664 ≤ code), high := x.high || decide (384 < code) }
  else s

/-! ### Temperatures (R115, R282, R284) -/

/-- Diode temperature of a TEMP code, °C. -/
def tempOf (s : Engine) (l code : Nat) : Rat :=
  25 + (((fld (get0 s.nvm.prod (Reg.snsTempCal l)) 0 12 : Nat) : Rat) - (code : Rat)) * 1465 / 10000

/-- THM_DIV.LIMIT in °C. -/
def divLimit (s : Engine) : Rat := ((max 8 (s.rfld Reg.thmDiv 0 8) : Nat) : Rat) / 4

def beyond (a b limit : Rat) : Bool := decide (limit < a - b ∨ limit < b - a)

/-- The node that a lane's diode is compared with. -/
def laneNode (s : Engine) (l : Nat) : Option Nat :=
  if l < 512 then (elementAt s l 0).map fun e => 4 + regionOf s.variant e % 4
  else if l < 528 then some 4
  else some 7

/-- A divergence, with its lane or 0xFFFF. -/
def divergence (source : Nat) (s : Engine) : Engine :=
  let s := { s with pwr.diverge := true }.putRfld Reg.thmDiv 16 16 source
  ((s.putRbit Reg.thmStat 9 true).putRbit Reg.thmStat 17 true).raise 97 source

/-- DIVERGE clears when every lane and the anchor lie within the limit. -/
def settleDivergence (s : Engine) : Engine :=
  if s.pwr.laneOff.isEmpty && !s.pwr.anchorOff then { s with pwr.diverge := false }.putRbit Reg.thmStat 9 false else s

/-- The residual and the diode published in THM_ANCHOR, in 1/16 °C. -/
def publishAnchor (t : Rat) (s : Engine) : Engine :=
  let (r, s) := freeTemp (t - nodeT s 0) s
  let (d, s) := freeTemp t s
  s.setReg Reg.thmAnchor (putFld (word (twos 16 d)) 16 16 (twos 16 r))

/-- A valid reading of the case reference diode. -/
def anchorReading (t : Rat) (s : Engine) : Engine :=
  let s := if s.pwr.valid then { s with pwr.anchor := some t }
    else { s with pwr.valid := true, pwr.t := List.replicate 12 t, pwr.tb := t }.putRbit Reg.thmStat 10 true
  let off := beyond t (nodeT s 0) (divLimit s)
  let run := if off then s.pwr.anchorRun + 1 else 0
  let s := publishAnchor t { s with pwr.diode := t, pwr.anchorOff := off, pwr.anchorRun := run }
  settleDivergence (if 8 ≤ run then divergence 0xFFFF s else s)

/-- Entries of a list by number without one number's. -/
def without {α : Type} (l : List (Nat × α)) (n : Nat) : List (Nat × α) := l.filter fun p => p.1 != n

/-- A valid TEMP reading of another lane: compared once the model is anchored. -/
def laneReading (l : Nat) (t : Rat) (s : Engine) : Engine :=
  let s := { s with pwr.laneTemp := without s.pwr.laneTemp l ++ [(l, t)] }
  match laneNode s l with
  | none => s
  | some i =>
    s.onlyIf s.pwr.valid fun s =>
      let run := match s.pwr.laneOff.find? (fun p => p.1 == l) with
        | some p => p.2
        | none => 0
      if beyond t (nodeT s i) (divLimit s) then
        let s := { s with pwr.laneOff := without s.pwr.laneOff l ++ [(l, run + 1)] }
        if 1 ≤ run then divergence l s else s
      else settleDivergence { s with pwr.laneOff := without s.pwr.laneOff l }

def tempReading (l : Fin 544) (c : Conv) (code : Nat) (s : Engine) : Engine :=
  if c.slot = 70 ∧ c.stale = false then
    let t := tempOf s l.val code
    if l.val = 512 then anchorReading t s else laneReading l.val t s
  else s

/-! ### The standard port program's results (R109, R175, R176) -/

/-- A sample of the monitor that a generator's correlation reads. -/
def scentSample (m : Nat) (w : Word) (s : Engine) (g : Nat) : Engine :=
  let samples := s.drv.scentSamples.getD g []
  let keep (l : List Nat) : Engine := { s with drv.scentSamples := listSet s.drv.scentSamples g l }
  if s.rbit (Reg.drvScentCtl g) 0 = false then (if samples.isEmpty then s else keep [])
  else if s.rfld (Reg.drvScentMon g) 0 11 ≠ m ∨ bit w 15 = true then s
  else
    let all := samples ++ [fld w 0 15]
    if all.length < 2 ^ (s.rfld (Reg.drvScentMon g) 16 4 + 10) then keep all
    else reportScent g (Config.scentAmplitude all (s.reg (Reg.drvScentFtw g))) (keep [])

/-- The port program at a port lane's result: the sums of the scan before are judged first. -/
def portResult (l : Fin 544) (c : Conv) (w : Word) (s : Engine) : Engine :=
  if l.val < 512 ∨ s.portOn = false then s
  else
    let s := if (s.lp 32).std.scanJudged || decide (c.start < s.sns.scanStart) then s else judgeScan s
    if 64 ≤ c.slot then s
    else
      let m := 64 * (l.val - 512) + c.slot
      (List.range 8).foldl (scentSample m w) (stdTap m w s)

/-! ### Visits (R158, R159) -/

/-- One half of a visit's pair: the second completes the visit. Conversion 0 begins 250 TICK before conversion 1. -/
def visitHalf (c : Conv) (w : Word) (x : Lane) : Lane :=
  if c.half = 0 then { x with plus := w }
  else { x with minus := w, visited := some (c.slot, c.start - 250, c.dummy) }

/-- The words of a record: six, and the high halves of its two conversions. -/
structure VisitWords where
  w0 : Half
  w1 : Half
  elem : Half
  pt : Half
  xrec : Half
  yrec : Half
  h0 : Half
  h1 : Half

/-- BASE + STRIDE·local + STATE_OFF·STATE of LP_XREC or LP_YREC, in the width of its base. -/
def recordAddr (r : Word) (bits loc : Nat) (turn : Bool) : Half :=
  BitVec.ofNat 16 ((fld r 0 bits + fld r 16 7 * loc + (if turn then fld r 24 7 else 0)) % 2 ^ bits)

def staleIf (c : Bool) (h : Half) : Half := if c then h ||| 0x8000#16 else h

/-- The record of lane j's completed visit. Without an element STATE and PT are open. -/
def visitWords (k : Fin 33) (j slot : Nat) (dummy : Bool) (s : Engine) : VisitWords × Engine :=
  let lane := lpLane k j
  let x := s.lane (Fin.ofNat 544 lane)
  let p := s.lp k
  match (if dummy || decide (68 ≤ slot) then none else localElem s k (68 * j + slot)) with
  | some e =>
    let loc := 68 * j + slot
    let turn := bit (get0 s.drv.active e) 16
    let began (half : Nat) : Bool := s.sns.pre.contains (resultAddr lane slot half)
    ({ w0 := staleIf (began 0) (halfLo x.plus), w1 := staleIf (began 1) (halfLo x.minus),
       elem := BitVec.ofNat 16 (loc + 2 ^ 14 * bitNat (p.chg.contains loc) + 2 ^ 15 * bitNat turn),
       pt := BitVec.ofNat 16 (ptOf s (pathOf s e)), xrec := recordAddr p.xrec 15 loc turn, yrec := recordAddr p.yrec 13 loc turn,
       h0 := halfHi x.plus, h1 := halfHi x.minus }, s)
  | none =>
    let (f, s) := s.freeWord
    let turn := bit f 16
    ({ w0 := staleIf true (halfLo x.plus), w1 := staleIf true (halfLo x.minus),
       elem := BitVec.ofNat 16 (0x7FF + 2 ^ 15 * bitNat turn), pt := halfLo f, xrec := recordAddr p.xrec 15 0x7FF turn,
       yrec := recordAddr p.yrec 13 0x7FF turn, h0 := halfHi x.plus, h1 := halfHi x.minus }, s)

/-- A change that a skipped record of lane j showed is due again. -/
def reclaimChange (j : Nat) (x : LpState) : LpState :=
  if x.completed ≠ 0 ∧ bit (get0 x.latest (0x6002 + 6 * j)) 14 = true then { x with chg := insertNat (x.latestLoc j) x.chg } else x

/-- A lane's record put into the latest ones. A change that it shows is due no longer. -/
def putRecord (j : Nat) (v : VisitWords) (x : LpState) : LpState :=
  let loc := v.elem.toNat % 2048
  let put (m : Mem) (p : Nat × Half) : Mem := put0 m p.1 (word p.2.toNat)
  let a := 0x6000 + 6 * j
  { x with
    chg := if v.elem.getLsbD 14 then x.chg.filter (· != loc) else x.chg,
    latest := [(a, v.w0), (a + 1, v.w1), (a + 2, v.elem), (a + 3, v.pt), (a + 4, v.xrec), (a + 5, v.yrec),
      (0x6060 + 2 * j, v.h0), (0x6061 + 2 * j, v.h1)].foldl put x.latest }

/-- One lane's completed visit taken into its processor's records. -/
def takeVisit (k : Fin 33) (s : Engine) (j : Nat) : Engine :=
  let i : Fin 544 := Fin.ofNat 544 (lpLane k j)
  match (s.lane i).visited with
  | none => s
  | some (slot, _, dummy) =>
    let (v, s) := visitWords k j slot dummy (s.onLp k (reclaimChange j))
    (s.setLane i { s.lane i with visited := none }).onLp k (putRecord j v)

/-- Position of a visit in its sweep; 68: it began before the boundary. -/
def visitPosition (s : Engine) (start : Nat) : Nat := if start < s.sns.sweepStart then 68 else (start - s.sns.sweepStart) / 500

/-- All sixteen lanes of a processor have completed their visit. -/
def completeVisit (k : Fin 33) (s : Engine) : Engine :=
  let done (j : Nat) : Bool := (s.lane (Fin.ofNat 544 (lpLane k j))).visited.isSome
  if k.val < 32 ∧ (List.range 16).all done = true then
    let pos := match (s.lane (Fin.ofNat 544 (lpLane k 0))).visited with
      | some (_, start, _) => visitPosition s start
      | none => 68
    let s := (List.range 16).foldl (takeVisit k) s
    s.onLp k fun x => { x.onStd fun p => { p with visitPos := pos } with completed := x.completed + 1 }
  else s

/-! ### Points of a calibration sweep (R209, R210) -/

/-- S⁺ + S⁻ − 128 of a completed pair in codes of range 5; none for an invalid pair, or one made at two ranges. -/
def pairSum (plus minus : Word) : Option Int :=
  let r := fld plus 12 3
  if bit plus 15 = true ∨ bit minus 15 = true ∨ 6 ≤ r ∨ fld minus 12 3 ≠ r then none
  else some ((((fld plus 0 12 + fld minus 0 12 : Nat) : Int) - 128) * 10 ^ (5 - r))

/-- The second conversion of a swept element's pair gives a point for the fit. -/
def sweepPoint (l : Fin 544) (c : Conv) (s : Engine) : Engine :=
  match c.drive, elementAt s l c.slot, pairSum (s.lane l).plus (s.lane l).minus with
  | some x, some e, some y => if c.half = 1 then { s with cal.points := (e, x, y) :: s.cal.points } else s
  | _, _, _ => s

/-! ### RESULT_WRITE -/

/-- A result that is kept: its entry, the lane's checks, its temperature and the port program. -/
def keepConversion (l : Fin 544) (c : Conv) (code : Nat) (s : Engine) : Engine :=
  let w := resultWord c code
  let s := storeResult c w (portResult l c w s)
  tempReading l c code (noteRange l c code (checkRef l c code (checkTdac l c code (checkOver l code s))))

/-- The result of a lane's oldest conversion, 252 TICK after its start; of one that the Leash has judged, the code of the sample
judged (R131). -/
def resultWrite (l : Fin 544) (code : Nat) (s : Engine) : Engine :=
  let x := s.lane l
  match x.convs with
  | [] => s
  | c :: rest =>
    s.onlyIf (s.mode ≠ .reset && decide (c.start + 252 ≤ s.tick)) fun s =>
      let code := c.sample.getD code
      let s := s.setLane l { x with convs := rest }
      let s := if c.dummy then s else keepConversion l c code s
      if l.val < 512 then
        completeVisit (Fin.ofNat 33 (l.val / 16)) (sweepPoint l c (s.setLane l (visitHalf c (resultWord c code) (s.lane l))))
      else s

def execResultWrite (l : Fin 544) (code : Fin 4096) (s : State) : Host.Outcome State Fault Refusal :=
  s.run (resultWrite l code.val)

end Sys2Proof.Machine
end

