-- ==== Sys2Proof/Machine/Whistle.lean ====
section
/-! DEFINITION. The Whistle: commits, calibration's fold, the Kennel Whistle, and the match of a comparator (R74, R78, R90 to R93,
R102, R103, R211, R252, R253). -/

namespace Sys2Proof.Machine

open Sys2Proof

/-! ### What every Whistle does -/

/-- A conversion under way when its element changed (R159). -/
def markConv (slot : Nat) (c : Conv) : Conv := if c.slot = slot ∧ c.dummy = false then { c with pre := true } else c

/-- Everything converted for a changed element began before the Whistle. -/
def markBefore (s : Engine) (e : Nat) : Engine :=
  match laneSlotOf s e with
  | none => s
  | some (l, slot) =>
    let i : Fin 544 := Fin.ofNat 544 l
    let x := s.lane i
    { s.setLane i { x with convs := x.convs.map (markConv slot) } with
      sns.pre := insertNat (resultAddr l slot 0) (insertNat (resultAddr l slot 1) s.sns.pre) }

/-- A changed element flagged to its loop processor; a record of it that no WAIT has shown reads as STALE (R91, R158, R159). -/
def flagElement (s : Engine) (e : Nat) : Engine :=
  match laneSlotOf s e with
  | none => s
  | some (l, slot) =>
    let loc := 68 * (l % 16) + slot
    s.onLp (Fin.ofNat 33 (l / 16)) fun x =>
      let x := if x.completed ≠ 0 ∧ x.latestLoc (l % 16) = loc then x.hideRecord (l % 16) else x
      { x with chg := insertNat loc x.chg }

/-- The strobe on the present edge, and what follows every Whistle: comparator 0 fires and disarms, the comparators of VHP and VHN
are blanked for 2.0 µs (R278), and the event WHISTLE is emitted. -/
def launch (missed : List Nat) (kennel : Bool) (s : Engine) : Engine :=
  let changed := changedElements s missed
  let s := changed.foldl markBefore s
  let s := changed.foldl flagElement (strike missed kennel s)
  let s := (disarmWhistle s).putRbit (Reg.timCmpStat 0) 0 true
  { s with pwr.blankEnd := some (s.tick + 500) }.emit 0xA2

/-! ### The Whistle of a commit (R62, R74, R236, R257) -/

/-- A connection of a map word: tenant and output. -/
def connOf (w : Word) : Option (Nat × Nat) := if mapConn w then some (mapTenant w, mapOut w) else none

/-- Inputs of a blink set. -/
def blinkInputsOf (ws : List Word) : List Nat := ws.map fun w => fld w 18 9

/-- The commit's map becomes the current one; the ledger and the governor take their part. -/
def establish (c : Commit) (s : Engine) : Engine :=
  let new := withPins s.variant s.rte.base c.result.map
  let s := ledgerWhistle s.rte.cur new s.variant.ports (blinkInputsOf c.result.blink) connOf s
  let e := c.result.energy
  { s with
    rte.cur := new, rte.cellsCur := c.result.cells, sch.commit := none, sch.wPrev := s.tick,
    sch.fired := some (s.tick, c.req, word s.nowSubNs), pwr.eFired := s.pwr.eFired + e,
    pwr.measuring := s.pwr.measuring ++ [(e, 0, 0)] }

/-- Whether the armed commit's edge has come. -/
def commitDue (s : Engine) : Option Commit :=
  match s.sch.commit with
  | none => none
  | some c =>
    match c.stage with
    | .armed w => if w ≤ s.tick then some c else none
    | _ => none

/-- Calibration's Whistle is due (R211). -/
def foldDue (s : Engine) : Bool := s.cal.fold == .armed && decide (s.cal.foldEdge ≤ s.tick)

/-- The armed Whistle. `missed`: branches that have not acknowledged (R93). -/
def whistle (missed : List Nat) (s : Engine) : Engine :=
  s.unlessReset fun s =>
    match commitDue s with
    | some c => launch missed false (establish c s)
    | none => if foldDue s then endFold { launch missed false s with sch.wPrev := s.tick } else s

/-! ### The Kennel Whistle (R78, R102, R103, R298) -/

/-- The Kennel tiles are verified and the next TICK has come. -/
def kennelDue (s : Engine) : Bool :=
  match s.drv.loader with
  | .kennel true _ start => decide (start + 1 ≤ s.tick)
  | _ => false

/-- It ends every connection and opens the clamps; in LOAD the pilot is enabled (R49). -/
def kennelWhistle (missed : List Nat) (s : Engine) : Engine :=
  s.onlyIf (s.mode ≠ .reset && kennelDue s) fun s =>
    let s := launch missed true (endHeld s)
    let s := { s with drv.clamped := false, sys.sweepsSinceKennel := some 0 }
    endShutdown (if s.mode = .load then enablePilot s else s)

/-! ### Comparators (R252, R253) -/

/-- A comparator matches: comparator 0 launches its Whistle. -/
def cmpMatch (c : Fin 64) (missed : List Nat) (s : Engine) : Engine :=
  if c = 0 then (if kennelDue s then kennelWhistle missed s else whistle missed s) else cmpMatchGeneral c s

/-! ### Meanings -/

def execWhistle (missed : List (Fin 34)) (s : State) : Host.Outcome State Fault Refusal := s.run (whistle (missed.map Fin.val))

def execKennelWhistle (missed : List (Fin 34)) (s : State) : Host.Outcome State Fault Refusal := s.run (kennelWhistle (missed.map Fin.val))

def execCmpMatch (c : Fin 64) (missed : List (Fin 34)) (s : State) : Host.Outcome State Fault Refusal :=
  s.run (cmpMatch c (missed.map Fin.val))

end Sys2Proof.Machine
end

