-- ==== Sys2Proof/Machine/Boundary.lean ====
section
/-! DEFINITION. Sweep and scan boundaries: everything that takes effect at one, in the order of R132 (R119 to R121, R161, R166 to
R168, R198, R274, R372). -/

namespace Sys2Proof.Machine

open Sys2Proof

/-! ### Structure image sections (R274, R280, R370 to R372) -/

/-- Sections of a loop processor, its watchdog limit, and its enable. -/
def placeLp (img : Image) (s : Engine) (k : Fin 33) : Engine :=
  let s := s.setRegs [(Reg.lpWdog k.val, wdogOf (some img) k.val), (Reg.lpCtl k.val, 1)]
  s.onLp k fun x => { x.placeCode k img with standard := img.standard.getD k.val false, xm := [], startIn := some 1 }

/-- LIMITS and NETWORK into the registers they set. -/
def placeRegs (img : Image) (s : Engine) : Engine :=
  s.setRegs [(Reg.thmLimCold, img.limCold), (Reg.thmLimHot, img.limHot), (Reg.thmLimSd, img.limSd),
    (Reg.pwrAllot, img.allot &&& 0xFFFF#32), (Reg.calLimits, img.calLimits), (Reg.mgtIp, img.ip), (Reg.mgtMask, img.mask),
    (Reg.mgtGw, img.gw), (Reg.timPtpCfg, img.ptpCfg), (Reg.timPtpMaster, img.ptpMaster)]

/-- EVENT_ROUTES into the channel words. -/
def placeRoutes (img : Image) (s : Engine) : Engine :=
  (List.range 64).foldl (fun s n => s.setReg (Reg.evtChCfg n) (get0 img.routes n &&& 0xFF80FFFF#32)) s

/-- Every section takes effect together, on the first boundary; the Kennel image is requested (R77, R103, R388). DESIGN CHOICE
(log 88): both maps are set on the edge of that request, before its pass, and stay so after DRV_KENNEL_FAIL. -/
def sectionsEffect (img : Image) (s : Engine) : Engine :=
  let s := { s with
    nvm.image := some img, nvm.shadow := none, nvm.imgScrubTick := s.tick, evt.ready := true,
    pwr.model := { cth := img.cth, g := img.g, gb := img.gb } }
  let s := (List.finRange 33).foldl (placeLp img) (placeRoutes img (placeRegs img s))
  startKennelPass (loadKennelRef s)

/-! ### Loop processors at a sweep boundary (R160, R161, R166 to R168, R170) -/

/-- Trims are discarded in LOAD until the Kennel Whistle, and while the drive domain is removed (R168). -/
def trimsDiscarded (s : Engine) : Bool := beforeKennel s || s.drv.removed

/-- One half of an element's trims. -/
def putTrim (m : Mem) (e : Nat) (turn : Bool) (v : Half) : Mem :=
  let w := get0 m e
  put0 m e (if turn then joinHalves v (halfLo w) else joinHalves (halfHi w) v)

/-- Queue entries of a machine with the elements that take them: those of withheld elements are discarded. -/
def takenTrims (s : Engine) (k : Fin 33) : List (Nat × Bool × Half) :=
  (s.lp k).trimQ.filterMap fun p =>
    match localElem s k (p.1 / 2) with
    | some e => if withheld s e then none else some (e, p.1 % 2 == 1, halfLo p.2)
    | none => none

/-- The queue of a machine delivered. -/
def deliverTrims (s : Engine) (k : Fin 33) : Engine :=
  let taken := if trimsDiscarded s then [] else takenTrims s k
  let trims := taken.foldl (fun m t => putTrim m t.1 t.2.1 t.2.2) s.drv.trims
  let s := { s with drv.trims := trims }.onLp k fun x => { x with trimQ := [] }
  formLive s (taken.map fun t => t.1)

/-- A requested bank swap (R167). -/
def LpState.swapBanks (x : LpState) : LpState :=
  if x.swapReq then { x with bankActive := !x.bankActive, swapReq := false, swapped := true } else x

/-- A word of one of the two banks. -/
def LpState.putBank (x : LpState) (second : Bool) (i : Nat) (v : Word) : LpState :=
  if second then { x with bankB := put0 x.bankB i v } else { x with bankA := put0 x.bankA i v }

/-- A write of the boundary's own TICK into the bank that goes live is taken back, and held (R23). -/
def holdBankWrite (k : Fin 33) (s : Engine) (w : HalfWrite) : Engine :=
  match w with
  | .bank j b i old _ =>
    if j = k then { s.onLp k fun x => x.putBank b i old with due := .half w :: s.due } else s
  | _ => s

/-- The swap of a machine's banks at a sweep boundary; a request written on its TICK, with the earlier one standing, is a new one
(R403). -/
def swapLp (s : Engine) (k : Fin 33) : Engine :=
  if (s.lp k).swapReq then
    (s.halfWrites.foldl (holdBankWrite k) s).onLp k fun x => { x.swapBanks with swapReq := s.halfWrites.contains (.swapAgain k) }
  else s

/-- A machine begins at 0x0000 (R166, R168). Changes of records that no WAIT VISIT has shown are due again (R158). -/
def LpState.begin (x : LpState) (tick : Nat) : LpState :=
  let x := (List.range 16).foldl (fun x j => reclaimChange j x) x
  { x with pc := 0, stack := [], loop := none, wait := none, waitHit := false, halted := false, cause := 0, startIn := none,
           wdogFrom := tick, completed := 0, hopSrc := 0 }

def startLp (s : Engine) (k : Fin 33) : Engine :=
  match (s.lp k).startIn with
  | none => s
  | some (n + 2) => s.onLp k fun x => { x with startIn := some (n + 1) }
  | some _ =>
    let s := s.onLp k fun x => x.begin s.tick
    if (s.lp k).standard then stdStart k s else s

/-- LOOP cycles of the sweep that ends (R170): those of a standard program are open (R169). -/
def closeAct (s : Engine) (k : Fin 33) : Engine :=
  if (s.lp k).standard && s.lpOn k then
    let (w, s) := s.freeWord
    s.onLp k fun x => { x with actLast := w.toNat % 68001, act := 0 }
  else s.onLp k fun x => { x with actLast := min 68000 x.act, act := 0 }

/-- The promotion entries of a machine's lane (R162). -/
def promoEntries (s : Engine) (lane : Nat) : List Nat :=
  (List.range 16).map fun i => (memRead noPromotion (s.lp (Fin.ofNat 33 (lane / 16))).promo (16 * (lane % 16) + i)).toNat

def Engine.stdOn (s : Engine) (k : Fin 33) : Bool := (s.lp k).standard && s.lpOn k

/-- The last work of a standard program for the sweep that ends. -/
def endSweep (s : Engine) (k : Fin 33) : Engine := if k.val < 32 ∧ s.stdOn k = true then stdEndSweep k s else s

/-- LP_XREC and LP_YREC in force (R170). -/
def latchRecords (s : Engine) (k : Fin 33) : Engine :=
  let x := s.reg (Reg.lpXrec k.val)
  let y := s.reg (Reg.lpYrec k.val)
  s.onLp k fun p => { p with xrec := x, yrec := y }

/-- A standard program at the boundary, with the lists its lanes take. -/
def beginSweep (lists : List (List Nat)) (s : Engine) (k : Fin 33) : Engine :=
  if (s.lp k).standard = false then s
  else if k.val = 32 then stdPortBoundary s
  else stdBoundary k ((List.range 16).map fun j => lists.getD (16 * k.val + j) []) s

/-- The boundary's edge as a WAIT sees it (R160). -/
def LpState.edge (x : LpState) (w : WCond) : LpState := if x.wait = some w then { x with waitHit := true } else x

/-! ### Lanes -/

/-- Element lanes at their boundary. -/
def elementLanes (first : Bool) (lists : List (List Nat)) (s : Engine) : Engine :=
  let count := s.rfld Reg.snsSweepCnt 0 32
  (List.finRange 544).foldl (fun (s : Engine) (l : Fin 544) =>
    if l.val < 512 then laneBoundary l first (lists.getD l.val []) count s else s) s

def portLanes (first : Bool) (s : Engine) : Engine :=
  let count := s.rfld Reg.snsPscanCnt 0 32
  (List.finRange 544).foldl (fun (s : Engine) (l : Fin 544) =>
    if l.val < 512 then s else laneBoundary l first [] count s) s

/-- A port scan begins: LP32 forms PT from the words live now (R199), and the sums of the last scan are to be judged. -/
def beginScan (first : Bool) (s : Engine) : Engine :=
  let s := if first then s else s.countWrap Reg.snsPscanCnt 0 32
  let s := if s.sns.scanCut then s.putRbit Reg.snsStat 4 true else s
  let hop := s.sns.scanHop
  let s := portLanes first { s with
    sns.scanRun := true, sns.scanStart := s.tick, sns.scanCut := false, sns.scanHop := 0, cal.portWords := s.cal.live.words,
    lps := s.lps.map fun x => x.edge .scan }
  (s.onLp 32 fun x => x.onStd fun p => { p with scanJudged := false }).emitHop 0xA1 hop

/-! ### The sweep boundary (R119, R132) -/

/-- A cut sweep ends with its visit; in a pause on the first edge at which TICK and SAR coincide (R121, R290). -/
def sweepCutDue (s : Engine) : Bool :=
  s.sns.sweepRun && s.sns.sweepCut &&
    (decide ((s.tick - s.sns.sweepStart) % 500 = 0) || decide (s.sns.sweepStart + 34000 ≤ s.tick))

/-- Every PT entry has been formed from light (R175, R389). -/
def ptFormed (s : Engine) : Bool := (List.range (2 * s.variant.ports)).all fun i => decide (0 < ptOf s i)

/-- Complete sweeps counted for R389 and R393. -/
def countSweeps (s : Engine) : Engine :=
  let n := if s.sns.sweepCut then 0 else 1
  let kennel := s.sys.sweepsSinceKennel.map (· + n)
  let pt := match s.sys.sweepsSincePt with
    | some m => some (m + n)
    | none => if ptFormed s then some 0 else none
  { s with sys.sweepsSinceKennel := kennel, sys.sweepsSincePt := pt }

/-- DRV_PROBE.DELTA takes effect (R110): the live words of probed elements are formed with it. -/
def takeDelta (s : Engine) : Engine :=
  formLive { s with drv.delta := s.rfld Reg.drvProbe 0 8 } (s.drv.probes.map Prod.fst)

/-- Everything of a sweep boundary. `img`: the image whose sections take effect on it. -/
def takeBoundary (img : Option Image) (s : Engine) : Engine :=
  let first := img.isSome
  let ks := List.finRange 33
  let s := ks.foldl endSweep s
  let s := if first then s else (countSweeps s).countWrap Reg.snsSweepCnt 0 32
  let s := if s.sns.sweepCut then s.putRbit Reg.snsStat 3 true else s
  let s := calSwap { s with pwr.pauseInForce := s.pwr.pauseSet, drv.suspLoop := s.drv.susp, nvm.repair := false }
  let s := match img with
    | some i => sectionsEffect i s
    | none => s
  let s := keepTrims (ks.foldl closeAct (ks.foldl deliverTrims s))
  let s := takeDelta (ks.foldl swapLp s)
  let hop := s.sns.sweepHop
  let s := { s with
    sns.sweepRun := true, sns.sweepStart := s.tick, sns.sweepCut := false, sns.sweepHop := 0, sns.paused := false,
    lps := s.lps.map fun x => x.edge .sweep }
  let lists := (List.range 512).map fun l => cleanPromotion s l (promoEntries s l)
  let s := elementLanes first lists s
  let s := ks.foldl latchRecords (ks.foldl startLp { s with lps := s.lps.map fun x => { x with promo := [] } })
  let s := (ks.foldl (beginSweep lists) s).emitHop 0xA0 hop
  if first then beginScan true s else s

/-- A Whistle is due on the present edge: it acts before a boundary on that edge (R94, R132). -/
def whistleDue (s : Engine) : Bool := (commitDue s).isSome || foldDue s || kennelDue s

/-- SWEEP_BOUNDARY: the first one, where an image waits in the shadow halves; else the one that is due. -/
def sweepBoundary (s : Engine) : Engine :=
  s.onlyIf (s.mode ≠ .reset && s.coincident && !whistleDue s) fun s =>
    if s.sns.sweepRun then (if sweepDue s || sweepCutDue s then takeBoundary none s else s)
    else if s.mode = .load then
      match s.nvm.shadow with
      | some img => takeBoundary (some img) s
      | none => s
    else s

/-! ### The scan boundary -/

def scanCutDue (s : Engine) : Bool :=
  s.sns.scanRun && s.sns.scanCut && decide ((s.tick - s.sns.scanStart) % 250 = 0)

def scanBoundary (s : Engine) : Engine :=
  s.onlyIf (s.mode ≠ .reset && s.coincident && !whistleDue s && (scanDue s || scanCutDue s)) (beginScan false)

/-! ### Meanings -/

def execSweepBoundary (s : State) : Host.Outcome State Fault Refusal := s.run sweepBoundary

def execScanBoundary (s : State) : Host.Outcome State Fault Refusal := s.run scanBoundary

end Sys2Proof.Machine
end

