-- ==== Sys2Proof/Machine/MgtPort.lean ====
section
/-! DEFINITION. The management port: link, MDIO, network layer, PTP stamps, connections and the FLP transmit queue (chapter 14). -/

namespace Sys2Proof.Machine

open Sys2Proof

/-! ### The link (R324, R343, R345) -/

/-- TICK in one second. -/
def secTicks : Nat := 250000000

/-- The MGT block works: outside RESET and not held in a block reset. -/
def mgtRuns (s : Engine) : Bool := s.mode != .reset && !(s.flt.resets.any fun r => r.block == .mgt)

/-- The link may be up: in LOAD once firmware has loaded MGT_IP (R343). -/
def linkAllowed (s : Engine) : Bool := mgtRuns s && (s.mode != .load || s.reg Reg.mgtIp != 0)

/-- Frames pass. -/
def mgtUp (s : Engine) : Bool := linkAllowed s && s.mgt.link

/-- The largest frame accepted, in bytes from its addresses to its FCS (R324). -/
def largestFrame : Nat := 1522

/-- Bytes of a frame about its IPv4 payload: Ethernet header and FCS, and IPv4 header. -/
def frameBytes (ipPayload : Nat) : Nat := 14 + 4 + 20 + ipPayload

def reply (r : NetReply) (s : Engine) : Engine := { s with mgt.replies := s.mgt.replies ++ [r] }

def linkUp (s : Engine) : Engine := s.onlyIf (linkAllowed s) fun s => { s with mgt.link := true, mgt.downSince := none }

def linkDown (s : Engine) : Engine :=
  s.onlyIf (mgtRuns s && s.mgt.link) fun s => { s with mgt.link := false, mgt.downSince := some s.tick }

/-- The link has been down for 1 s after having been up. -/
def mgtLinkDown (s : Engine) : Engine :=
  match s.mgt.downSince with
  | some t => s.onlyIf (mgtRuns s && decide (t + secTicks ≤ s.tick)) fun s => { s with mgt.downSince := none }.raise 112 0
  | none => s

/-- A write of MGT_PHY_CTL: a change of MODE restarts the link. -/
def phyModeWrite (b : Bus) (v : Word) (s : Engine) : Engine :=
  s.access b fun s =>
    let changed := bit v 0 != s.rbit Reg.mgtPhyCtl 0
    let s := s.setReg Reg.mgtPhyCtl (v &&& 1)
    if changed then linkDown s else s

/-- A discarded frame counted. -/
def dropFrame (s : Engine) : Engine := s.countHold Reg.mgtCnt 16 16

/-- A received frame of a length: one longer than the largest is discarded and counted. -/
def ifFits (length : Nat) (f : Engine → Engine) (s : Engine) : Engine := if largestFrame < length then dropFrame s else f s

/-- An oversize frame, or one with a bad FCS, is discarded and counted; a PAUSE frame is discarded without acting on it. -/
def frameDrop (k : FrameFault) (s : Engine) : Engine :=
  s.onlyIf (mgtUp s) fun s =>
    match k with
    | .pause => s
    | .badFcs => dropFrame s
    | .oversize n => ifFits n id s

/-! ### MDIO (R325) -/

/-- A write of MGT_MDIO starts one transaction, or is lost while BUSY. -/
def mdioStart (b : Bus) (v : Word) (s : Engine) : Engine :=
  s.access b fun s =>
    if s.mgt.mdio.isSome then s.putRbit Reg.mgtStat 2 true
    else
      reply (.mdio (bit v 30) (fld v 21 5) (fld v 16 5) (halfLo v))
        { s.setReg Reg.mgtMdio (v &&& 0x43FFFFFF#32) with mgt.mdio := some s.tick }

/-- The transaction completes; a read leaves its data in DATA. -/
def mdioComplete (data : Half) (s : Engine) : Engine :=
  match s.mgt.mdio with
  | none => s
  | some _ =>
    let s := { s with mgt.mdio := none }
    if s.rbit Reg.mgtMdio 30 then s else s.putRfld Reg.mgtMdio 0 16 data.toNat

/-! ### The network layer (R326) -/

def arpRequest (ip : Word) (s : Engine) : Engine := s.onlyIf (mgtUp s && ip == s.reg Reg.mgtIp) (reply .arpReply)

def icmpEcho (ip : Word) (data : List Byte) (s : Engine) : Engine :=
  s.onlyIf (mgtUp s && ip == s.reg Reg.mgtIp) (ifFits (frameBytes (8 + data.length)) (reply (.echoReply data)))

/-- TCP 7437, UDP 7438, 319 and 320 are open. -/
def portOpen (tcp : Bool) (port : Nat) : Bool := if tcp then port == 7437 else port == 7438 || port == 319 || port == 320

/-- A TCP segment to a closed port receives a reset; a UDP datagram is discarded and counted. -/
def closedPortFrame (tcp : Bool) (port : Half) (s : Engine) : Engine :=
  s.onlyIf (mgtUp s && !portOpen tcp port.toNat) fun s =>
    if tcp then reply (.tcpReset port.toNat) s else dropFrame s

/-! ### PTP event messages (R240, R250, R327) -/

/-- The four trailer words of a stamp in units of 2^−8 ns: seconds low and high, nanoseconds, fraction. -/
def stampWords (t : Int) : List Word :=
  let u := (t % ((timeModulus / 2 ^ 40 : Nat) : Int)).toNat
  let sec := u / secUnits8
  [word sec, word (sec / 2 ^ 32), word (u / 256 % 1000000000), word (u % 256 * 256)]

/-- The Sync interval that a frame announces in logMessageInterval, as elapsed counter time. -/
def syncInterval (frame : List Byte) : Nat :=
  let l := (frame.getD 33 0).toInt
  let sec := 1000000000 * nsUnit
  if 0 ≤ l then sec * 2 ^ l.toNat else sec / 2 ^ (-l).toNat

/-- A Sync of the domain of TIM_PTP_CFG. -/
def isSync (s : Engine) (frame : List Byte) : Bool :=
  (frame.getD 0 0).toNat % 16 == 0 && (frame.getD 4 0).toNat == s.rfld Reg.timPtpCfg 0 7

/-- A peer-to-peer message: Pdelay_Req or Pdelay_Resp. -/
def isPeerDelay (frame : List Byte) : Bool :=
  let type := (frame.getD 0 0).toNat % 16
  type == 2 || type == 3

/-- Whether a message comes from the selected master: that of TIM_PTP_MASTER in unicast, else the best one heard in the domain (R246). -/
def fromMaster (source : Word) (best : Bool) (s : Engine) : Bool :=
  if s.rbit Reg.timPtpCfg 8 then source == s.reg Reg.timPtpMaster else best

/-- An event message is stamped and handed to firmware with its stamp; a peer-to-peer one is discarded, and so is, in unicast, one of
another source (R246). `best`: its sender is the master that the data set comparison of the standard selects. The loss of PTP is judged
of the selected master's Sync (R247). -/
def ptpEventReceive (frame : List Byte) (source : Word) (k : Fin 256) (best : Bool) (s : Engine) : Engine :=
  s.onlyIf (mgtUp s) <| ifFits (frameBytes (8 + frame.length)) fun s =>
    s.onlyIf (!isPeerDelay frame && (!s.rbit Reg.timPtpCfg 8 || source == s.reg Reg.timPtpMaster)) fun s =>
    let t : Int := (asyncStamp s k : Int) - asym s Reg.timAsymMgtRx
    let s := { s with mgt.ptpIn := s.mgt.ptpIn ++ [(frame, stampWords t)] }
    if fromMaster source best s && isSync s frame then { s with tim.lastSync := some (s.elapsed, syncInterval frame) } else s

/-- A Delay_Req leaves: its departure stamp and sequenceId are latched. -/
def delayReqTx (seqId : Half) (k : Fin 256) (s : Engine) : Engine :=
  s.onlyIf (mgtUp s) fun s =>
    let ws := stampWords ((asyncStamp s k : Int) + asym s Reg.timAsymMgtTx)
    let s := if s.rbit Reg.mgtPtpTxSeq 31 then s.putRbit Reg.mgtStat 3 true else s
    s.setRegs [(Reg.mgtPtpTxSeq, putBit (word seqId.toNat) 31 true), (Reg.mgtPtpTxSecLo, ws.getD 0 0),
      (Reg.mgtPtpTxSecHi, ws.getD 1 0), (Reg.mgtPtpTxNs, ws.getD 2 0), (Reg.mgtPtpTxFrac, ws.getD 3 0)]

/-! ### Connections (R329, R330) -/

def Engine.session (s : Engine) (n : Fin 65) : Session := s.fw.sessions[n]

def Engine.setSession (s : Engine) (n : Fin 65) (x : Session) : Engine := { s with fw.sessions := s.fw.sessions.set n x }

/-- Sessions exist outside the recovery state (R398). -/
def sessionsOpen (s : Engine) : Bool := mgtUp s && !s.sys.recovery

/-- The session whose enrolled key a client presents: the lowest where two slots hold it. -/
def sessionOfKey (s : Engine) (key : List Word) : Option (Fin 65) :=
  if key.all (· == 0) then none
  else (List.finRange 65).find? fun n => keyOf s ⟨n.val, by omega⟩ == key

/-- A connection on port 7437 starts a handshake, or is reset where 8 are in progress. -/
def tcpConnect (s : Engine) : Engine :=
  s.onlyIf (sessionsOpen s) fun s =>
    if s.mgt.handshakes < 8 then { s with mgt.handshakes := s.mgt.handshakes + 1 } else reply (.tcpReset 7437) s

/-- An offer within the options of R328: TLS_AES_128_GCM_SHA256 or TLS_AES_256_GCM_SHA384, secp256r1, ecdsa_secp256r1_sha256. -/
def helloSupported (h : Hello) : Bool := (h.suite == 0x1301 || h.suite == 0x1302) && h.group == 0x0017 && h.signature == 0x0403 && !h.psk

/-- The engine key is there to authenticate with. -/
def engineKey (s : Engine) : Bool := (keyOf s 65).any (· != 0)

/-- A handshake fails with an alert; 16 within one second are reported. -/
def failHandshake (alert : NetReply) (s : Engine) : Engine :=
  let recent := s.mgt.failures.filter (fun t => decide (s.tick < t + secTicks)) ++ [s.tick]
  let s := reply alert ({ s with mgt.failures := recent }.countHold Reg.mgtCnt 0 16)
  if 16 ≤ recent.length then s.raise 113 0 else s

/-- A handshake judged (R328, R329): an offer outside the options fails, and so does an unenrolled key. -/
def judgeHello (h : Hello) (f : Fin 65 → Engine → Engine) (s : Engine) : Engine :=
  if !helloSupported h || !engineKey s then failHandshake .handshakeFailure s
  else match sessionOfKey s h.key with
    | none => failHandshake .certificateUnknown s
    | some n => f n s

/-- The connection of a session: an older one is closed. -/
def openSession (n : Fin 65) (s : Engine) : Engine :=
  let s := if (s.session n).tls then reply (.closeNotify n.val) s else s
  s.setSession n { s.session n with tls := true, idleFrom := s.tick }

/-- A handshake in progress ends. -/
def endHandshake (f : Engine → Engine) (s : Engine) : Engine :=
  s.onlyIf (sessionsOpen s && decide (0 < s.mgt.handshakes)) fun s => f { s with mgt.handshakes := s.mgt.handshakes - 1 }

/-- A handshake with an enrolled key completes: it opens its session and closes an older connection. -/
def tlsHandshake (h : Hello) : Engine → Engine := endHandshake (judgeHello h openSession)

/-- A handshake with an unenrolled key fails. -/
def handshakeFail : Engine → Engine := endHandshake (failHandshake .certificateUnknown)

/-- A session without its connection: its subscription ends with it, its sequence state stays. -/
def Session.lost (x : Session) : Session := { x with tls := false, streams := 0 }

def idleTimeout (n : Fin 65) (s : Engine) : Engine :=
  let idle := s.rfld Reg.mgtCtl 8 8
  s.onlyIf (mgtRuns s && (s.session n).tls && decide (idle ≠ 0) && decide ((s.session n).idleFrom + idle * secTicks ≤ s.tick))
    fun s => reply (.closeNotify n.val) (s.setSession n (s.session n).lost)

def lostConnection (n : Fin 65) (s : Engine) : Engine :=
  s.onlyIf (mgtRuns s && (s.session n).tls) fun s => s.setSession n (s.session n).lost

/-- A DTLS handshake with an enrolled key opens the session's telemetry association. -/
def dtlsAssociation (h : Hello) (s : Engine) : Engine :=
  s.onlyIf (sessionsOpen s) (judgeHello h fun n s => s.setSession n { s.session n with dtls := true })

/-! ### Message bytes (R331) -/

/-- The 20-byte header of an FLP message. -/
def flpHeader (version type session sender flags reserved seq length : Nat) : List Byte :=
  leBytes 1 version ++ leBytes 1 type ++ leBytes 2 session ++ leBytes 1 sender ++ leBytes 1 flags ++ leBytes 2 reserved ++
    leBytes 8 seq ++ leBytes 4 length

/-- An engine message as it leaves. -/
def Msg.bytes (m : Msg) : List Byte := flpHeader 1 m.type m.session m.sender m.flags 0 m.seq m.payload.length ++ m.payload

/-- A host message as it arrives. -/
def HostMsg.bytes (type : Byte) (m : HostMsg) : List Byte :=
  flpHeader m.version.toNat type.toNat m.session.toNat m.sender.toNat m.flags.toNat m.reserved.toNat m.seq.toNat m.length.toNat ++ m.payload

/-- The first message of a stream: its TYPE, its header, and what follows the header, of which LENGTH delimits its payload. -/
def readMessage (p : List Byte) : Option (Byte × HostMsg) :=
  if p.length < 20 then none
  else
    some (BitVec.ofNat 8 (leAt p 1 1),
      { version := BitVec.ofNat 8 (leAt p 0 1), session := BitVec.ofNat 16 (leAt p 2 2), sender := BitVec.ofNat 8 (leAt p 4 1),
        flags := BitVec.ofNat 8 (leAt p 5 1), reserved := BitVec.ofNat 16 (leAt p 6 2), seq := BitVec.ofNat 64 (leAt p 8 8),
        length := word (leAt p 16 4), payload := p.drop 20 })

/-- Bytes of a datagram, and of one record of PORT_TELEMETRY (R330, R338). -/
def datagramBytes : Nat := 1200
def recordsPerDatagram : Nat := (datagramBytes - 20) / 12

/-! ### The FLP transmit queue (R333) -/

/-- A message is accepted, or discarded where its number is not above that of the last accepted one. -/
def offer (m : Msg) (s : Engine) : Engine :=
  let new := match s.mgt.txLast with
    | some last => decide (last < m.seq)
    | none => true
  if new then { s with mgt.tx := s.mgt.tx ++ [m], mgt.txLast := some m.seq }
  else s.putRbit Reg.mgtStat 1 true

/-- A message as a member's firmware spells it. -/
def msgOf (sender : Bool) (session : Fin 65) (type flags : Byte) (seq : BitVec 64) (payload : List Byte) : Msg :=
  { type := type.toNat, session := session.val, sender := if sender then 1 else 0, flags := flags.toNat, seq := seq.toNat,
    payload := payload, dtls := false }

/-- The port's bus side: it is a sequence-guarded port, open to the ACTIVE member and to a follower (R303, R304). -/
def txQueueOffer (b : Bus) (m : Msg) (s : Engine) : Engine := s.accessGuarded b fun _ s => s.onlyIf (mgtRuns s) (offer m)

/-- Firmware sends a message with the next number and its member's identity (R316, R331, R333): it reads PAK_SEQ_LO and PAK_SEQ_HI and
offers the message; in a rehearsal the follower offers its own copy (R318). -/
def send (n : Fin 65) (type flags : Nat) (payload : List Byte) (dtls : Bool) (s : Engine) : Engine :=
  match s.activeMember with
  | none => s
  | some m =>
    let (seq, s) := drawSeq (s.logFirmware 3)
    let msg : Msg := { type := type, session := n.val, sender := if m then 1 else 0, flags := flags, seq := seq, payload := payload, dtls := dtls }
    let s := offer msg s
    if s.pak.overlap then offer { msg with sender := if m then 0 else 1 } s else s

/-! ### Meanings -/

def execLinkUp (s : State) : Host.Outcome State Fault Refusal := s.run linkUp

def execLinkDown (s : State) : Host.Outcome State Fault Refusal := s.run linkDown

def execMgtLinkDown (s : State) : Host.Outcome State Fault Refusal := s.run mgtLinkDown

def execFrameDrop (k : FrameFault) (s : State) : Host.Outcome State Fault Refusal := s.run (frameDrop k)

def execMdioComplete (data : Half) (s : State) : Host.Outcome State Fault Refusal := s.run (mdioComplete data)

def execArpRequest (ip : Word) (s : State) : Host.Outcome State Fault Refusal := s.run (arpRequest ip)

def execIcmpEcho (ip : Word) (data : List Byte) (s : State) : Host.Outcome State Fault Refusal := s.run (icmpEcho ip data)

def execClosedPortFrame (tcp : Bool) (port : Half) (s : State) : Host.Outcome State Fault Refusal :=
  s.run (closedPortFrame tcp port)

def execPtpEventReceive (frame : List Byte) (source : Word) (k : Fin 256) (best : Bool) (s : State) :
    Host.Outcome State Fault Refusal := s.run (ptpEventReceive frame source k best)

def execDelayReqTx (seqId : Half) (k : Fin 256) (s : State) : Host.Outcome State Fault Refusal := s.run (delayReqTx seqId k)

def execTcpConnect (s : State) : Host.Outcome State Fault Refusal := s.run tcpConnect

def execTlsHandshake (h : Hello) (s : State) : Host.Outcome State Fault Refusal := s.run (tlsHandshake h)

def execHandshakeFail (s : State) : Host.Outcome State Fault Refusal := s.run handshakeFail

def execIdleTimeout (n : Fin 65) (s : State) : Host.Outcome State Fault Refusal := s.run (idleTimeout n)

def execLostConnection (n : Fin 65) (s : State) : Host.Outcome State Fault Refusal := s.run (lostConnection n)

def execDtlsAssociation (h : Hello) (s : State) : Host.Outcome State Fault Refusal := s.run (dtlsAssociation h)

end Sys2Proof.Machine
end

