-- ==== Sys2Proof/Machine/Scent.lean ====
section
/-! DEFINITION. The Scent generators (R107, R108). -/

namespace Sys2Proof.Machine

open Sys2Proof

/-- The output of generator g for an accumulator value (R107): AMP values above 64 act as 64. -/
def scentOutput (s : Engine) (g : Nat) (phase : Word) : Int :=
  let sine : Half := halfLo (s.reg (Reg.drvScentTable (fld phase 22 10)))
  roundHalfUp (sine.toInt * (min 64 (s.rfld (Reg.drvScentCtl g) 8 7) : Nat)) 32768

/-- One generator's 1 µs step: the accumulator advances; outside HOLD and RUN its output is 0 (R108). -/
def scentAdvance (s : Engine) (g : Nat) : Engine :=
  let phase := s.reg (Reg.drvScentPhase g) + s.reg (Reg.drvScentFtw g)
  let out := if s.mode = .hold ∨ s.mode = .run then scentOutput s g phase else 0
  { s.setReg (Reg.drvScentPhase g) phase with drv.scentOut := listSet s.drv.scentOut g out }

/-- One step of all generators, 250 TICK (1.000 µs) or more after the last (R107). -/
def scentStep (s : Engine) : Engine :=
  s.onlyIf (s.mode ≠ .reset && decide (s.drv.scentTick + 250 ≤ s.tick)) fun s =>
    let s := (List.range 8).foldl scentAdvance { s with drv.scentTick := s.tick }
    let enabled := (List.range 8).filter fun g => s.rbit (Reg.drvScentCtl g) 0
    stepOutputs s (enabled.map fun g => s.rfld (Reg.drvScentCtl g) 16 16)

/-- A write of DRV_SCENT_CTL[g]: refused where its element does not exist (R107). -/
def scentCtlWrite (b : Bus) (g : Fin 8) (v : Word) (s : Engine) : Engine :=
  s.access b fun s =>
    if fld v 16 16 < s.variant.elements then
      formLive (s.setReg (Reg.drvScentCtl g) (v &&& 0xFFFF7F01#32)) [s.rfld (Reg.drvScentCtl g) 16 16, fld v 16 16]
    else s.putRbit Reg.drvStat 12 true

def execScentStep (s : State) : Host.Outcome State Fault Refusal := s.run scentStep

end Sys2Proof.Machine
end

