-- ==== Sys2Proof/Machine/Peek.lean ====
section
/-! DEFINITION. What every register and memory word of the supervisor's address space reads as (R13 to R15, R400 to R407), before
latches and side effects. -/

namespace Sys2Proof.Machine

open Sys2Proof

/-- Bits [31:0] and [63:32] of a number, as the two halves of a pair. -/
def loWord (n : Nat) : Word := word n
def hiWord (n : Nat) : Word := word (n / 2 ^ 32)

/-! ### SYS, TIM, EVT (R51, R263, R275, R399) -/

def peekSys (s : Engine) (a : Nat) : Word :=
  if a = Reg.sysId then word (0x50510100 + variantCode s.variant)
  else if a = Reg.sysMode then sysModeWord s
  else if a = Reg.sysModeReq then 0
  else s.reg a

/-- Bit map of the tenants whose overflow accumulator is not empty. -/
def accMap (s : Engine) (w : Nat) : Word :=
  maskWord (((List.finRange 64).filter fun t => (s.led.acc[t]).isSome).map Fin.val) w

def peekTim (s : Engine) (a : Nat) : Word :=
  if a = Reg.timNowSecLo then loWord s.nowSec
  else if a = Reg.timNowSecHi then hiWord s.nowSec
  else if a = Reg.timNowNs then word s.nowSubNs
  else if a = Reg.timNowFrac then word (s.time % nsUnit / 2 ^ 32)
  else if a = Reg.timAdjFrac ∨ a = Reg.timAdjNs ∨ a = Reg.timSetSecLo ∨ a = Reg.timSetSecHi ∨ a = Reg.timSetNs ∨
    a = Reg.timLedTake then 0
  else if a = Reg.timLedStat then putFld (s.reg a) 0 13 s.led.fifo.length
  else if Reg.timLedFifo 0 ≤ a ∧ a ≤ Reg.timLedFifo 4 then
    match s.led.fifo.head? with
    | some r => r.words.getD ((a - Reg.timLedFifo 0) / 4) 0
    | none => 0
  else if a = Reg.timLedOvfLo then accMap s 0
  else if a = Reg.timLedOvfHi then accMap s 1
  else s.reg a

def peekEvt (s : Engine) (a : Nat) : Word :=
  if a = Reg.evtCfgData ∨ a = Reg.evtCfgReq ∨ a = Reg.evtSwTrig then 0
  else if Reg.evtConsStat 0 ≤ a ∧ a ≤ Reg.evtConsStat 255 then
    let c := (a - Reg.evtConsStat 0) / 4
    putBit (s.reg a) 2 (consumerDefined c && consumerBusy s c)
  else s.reg a

/-! ### SCH, RTE (R80, R238) -/

/-- ARMED, VERIFYING, WAITING and PERMUTE_Q. -/
def schStatBits (s : Engine) : Word :=
  let stage : Option CommitStage := s.sch.commit.map Commit.stage
  (bitIf (match stage with | some (.armed _) => true | _ => false) 0) |||
    (bitIf (match stage with | some .verifying => true | _ => false) 1) |||
    (bitIf (match stage with | some (.waiting _ _) => true | _ => false) 2) ||| (bitIf (permuteBusy s) 3)

/-- SCH_OUT0 to SCH_OUT3 of the head report. -/
def outWord (s : Engine) (i : Nat) : Word :=
  match s.sch.outs.head? with
  | some (w, seq, ns) => if i = 0 then w else if i = 1 then loWord seq else if i = 2 then hiWord seq else ns
  | none => 0

/-- A word of the active list's registers. -/
def activeWord (s : Engine) (f : GateList → Nat) : Word :=
  match s.sch.active with
  | some L => word (f L)
  | none => 0

/-- SCH_GL_POS. -/
def gatePos (s : Engine) (L : GateList) : Nat :=
  let cyc := L.cycle * tickUnits
  if cyc = 0 then 0
  else
    let pos := (s.time - L.base) % cyc
    match entryAt L.entries 0 0 pos with
    | some (i, fin) => i * 2 ^ 24 + (pos + entryLen (L.entries.getD i (0, 0, 0)) - fin) / tickUnits
    | none => 0

/-- Word w of an entry. -/
def entryWord (e : Word × Word × Word) (w : Nat) : Nat :=
  if w = 0 then e.1.toNat else if w = 1 then e.2.1.toNat else if w = 2 then e.2.2.toNat else 0

def peekSch (s : Engine) (a : Nat) : Word :=
  if a = Reg.schStat then s.reg a ||| schStatBits s
  else if a = Reg.schPause then word s.sch.pause
  else if a = Reg.schEResv then word s.sch.eResv
  else if Reg.schReq 0 ≤ a ∧ a ≤ Reg.schReq 5 then 0
  else if Reg.schOut 0 ≤ a ∧ a ≤ Reg.schOut 3 then outWord s ((a - Reg.schOut 0) / 4)
  else if a = Reg.schOprQ then putFld (s.reg a) 16 6 (queueOf s 64).length
  else if a = Reg.schGlCmd then 0
  else if a = Reg.schGlStat then
    s.reg a ||| bitIf s.sch.active.isSome 0 ||| bitIf s.sch.locked.isSome 1 ||| bitIf s.sch.validating.isSome 2
  else if a = Reg.schGlActCycle then activeWord s fun L => L.cycle
  else if a = Reg.schGlActLen then activeWord s fun L => L.entries.length
  else if a = Reg.schGlActBaseNs then activeWord s fun L => stampNs L.base
  else if a = Reg.schGlActBaseSecLo then activeWord s fun L => stampSec L.base
  else if a = Reg.schGlActBaseSecHi then activeWord s fun L => stampSec L.base / 2 ^ 32
  else if a = Reg.schGlPos then activeWord s (gatePos s)
  else if Reg.schGlAct 0 ≤ a ∧ a < Reg.schGlPend 0 then
    let i := (a - Reg.schGlAct 0) / 4
    activeWord s fun L => entryWord (L.entries.getD (i / 4) (0, 0, 0)) (i % 4)
  else if Reg.schGlPend 0 ≤ a ∧ a < 0x40033000 then get0 s.sch.pend ((a - Reg.schGlPend 0) / 4)
  else if Reg.schTbRate 0 ≤ a ∧ a < Reg.schTbRate 64 ∧ a % 16 = 12 then
    putFld (s.reg a) 16 6 (queueOf s ((a - Reg.schTbRate 0) / 16)).length
  else s.reg a

def peekRte (s : Engine) (b : Bus) (a : Nat) : Word :=
  let n := s.variant.ports
  let staged (w : Nat) : Word := match s.memberOf b with
    | some m => get0 s.sch.stage (stageKey m w)
    | none => 0
  let entry (m : Mem) (base : Nat) : Word := if (a - base) / 4 < n then get0 m ((a - base) / 4) else 0
  if a = Reg.rteCtl ∨ a = Reg.rteCmd then 0
  else if a = Reg.rteSeqLo then staged 5
  else if a = Reg.rteSeqHi then staged 6
  else if a = Reg.rteStat then
    s.reg a ||| bitIf s.rte.job.isSome 0 ||| bitIf s.rte.held.isSome 1 ||| bitIf (s.rte.base != s.rte.cur) 2
  else if Reg.rtePin 0 ≤ a ∧ a ≤ Reg.rtePin 15 then
    maskWord ((List.range n).filter fun i => mapPinned (get0 s.rte.base i)) ((a - Reg.rtePin 0) / 4)
  else if Reg.rteTarget 0 ≤ a ∧ a ≤ Reg.rteTarget 511 then entry s.rte.target (Reg.rteTarget 0)
  else if Reg.rteMapCur 0 ≤ a ∧ a ≤ Reg.rteMapCur 511 then entry s.rte.cur (Reg.rteMapCur 0)
  else if Reg.rteMapBase 0 ≤ a ∧ a ≤ Reg.rteMapBase 511 then entry s.rte.base (Reg.rteMapBase 0)
  else if Reg.rteBlink 0 ≤ a ∧ a ≤ Reg.rteBlink 511 then s.rte.blink.getD ((a - Reg.rteBlink 0) / 4) 0
  else if Reg.rteCellmap 0 ≤ a ∧ a ≤ Reg.rteCellmap 135 then maskWord s.rte.cellmap ((a - Reg.rteCellmap 0) / 4)
  else if Reg.rteChanged 0 ≤ a ∧ a ≤ Reg.rteChanged 135 then maskWord s.rte.changed ((a - Reg.rteChanged 0) / 4)
  else s.reg a

/-! ### FLT, PWR, THM, NVM (R300, R362, R384) -/

def openLp (s : Engine) (k : Fin 33) : Bool := shadowOpen s (.lp k)

def peekFlt (s : Engine) (a : Nat) : Word :=
  if a = Reg.fltStat then
    s.reg a ||| bitIf (capturing s) 0 ||| bitIf s.flt.intOn 2 ||| bitIf s.flt.errOn 3
  else if a = Reg.fltInject then 0
  else if a = Reg.fltShadow then
    bitIf (shadowOpen s .sns) 0 ||| bitIf (shadowOpen s .nvm) 1 ||| bitIf (shadowOpen s .mgt) 2
  else if a = Reg.fltShadowLpLo then maskWord (((List.finRange 33).filter (openLp s)).map Fin.val) 0
  else if a = Reg.fltShadowLpHi then maskWord (((List.finRange 33).filter (openLp s)).map Fin.val) 1
  else s.reg a

def peekPwr (s : Engine) (a : Nat) : Word :=
  if a = Reg.pwrEbktLevel then word s.pwr.ebkt
  else if a = Reg.thmSweepPause then word s.pwr.pauseInForce
  else s.reg a

/-- A word of the key area. -/
def keyWord (s : Engine) (slot w : Nat) : Word := (keyOf s (Fin.ofNat 66 slot)).getD w 0

def inKeyArea (a : Nat) : Bool := decide (0x40078000 ≤ a ∧ a < 0x4007A000)

def peekNvm (s : Engine) (b : Bus) (a : Nat) : Word :=
  if a = Reg.nvmCtl then bitIf s.nvm.scrub.isSome 0
  else if a = Reg.nvmStat then s.reg a ||| bitIf (nvmBusy s) 0 ||| bitIf s.nvm.scrub.isSome 1
  else if a = Reg.nvmRecCmd then 0
  else if inKeyArea a then
    if secureBus b ∧ a < Reg.nvmKey 66 0 then keyWord s ((a - 0x40078000) / 64) ((a - 0x40078000) / 4 % 16) else 0
  else s.reg a

/-! ### MGT, PAK (R323, R344) -/

def sessionWord (s : Engine) (n : Nat) : Word :=
  let x := s.session (Fin.ofNat 65 n)
  bitIf x.tls 0 ||| bitIf x.dtls 1 ||| putFld 0 2 6 x.streams

def peekMgt (s : Engine) (a : Nat) : Word :=
  if a = Reg.mgtStat then s.reg a ||| bitIf s.mgt.link 0
  else if a = Reg.mgtMdio then s.reg a ||| bitIf s.mgt.mdio.isSome 31
  else if a = Reg.mgtMacLo ∨ a = Reg.mgtMacHi then get0 s.nvm.prod a
  else if a = Reg.mgtLastSeqLo then loWord (s.mgt.txLast.getD 0)
  else if a = Reg.mgtLastSeqHi then hiWord (s.mgt.txLast.getD 0)
  else if Reg.mgtSess 0 ≤ a ∧ a ≤ Reg.mgtSess 64 then sessionWord s ((a - Reg.mgtSess 0) / 4)
  else s.reg a

def roleCode (r : Role) : Nat :=
  match r with
  | .off => 0 | .syncing => 1 | .standby => 2 | .active => 3 | .fenced => 4

def peekPak (s : Engine) (b : Bus) (a : Nat) : Word :=
  if a = Reg.pakRole then
    putFld (word (roleCode s.pak.a.role)) 4 3 (roleCode s.pak.b.role) ||| bitIf (s.memberOf b == some true) 16
  else if a = Reg.pakStat then s.reg a ||| bitIf s.linkUp 2 ||| bitIf s.pak.replay.isSome 0
  else if a = Reg.pakSeqLo then loWord s.pak.seq
  else if a = Reg.pakSeqHi then hiWord s.pak.seq
  else s.reg a

/-! ### CAL, DRV, SNS (R110, R134, R215) -/

def peekCal (s : Engine) (a : Nat) : Word :=
  if a = Reg.calCmd then 0
  else if a = Reg.calStat then s.reg a ||| bitIf s.cal.copying 3 ||| word (calPhase s)
  else if a = Reg.calGen then word s.cal.live.gen
  else if a = Reg.calRejected then putFld (s.reg a) 16 16 (frozenNow s).length
  else if Reg.calTcal 0 ≤ a ∧ a ≤ Reg.calTcal 7 then get0 s.cal.live.tcal ((a - Reg.calTcal 0) / 4)
  else if a = Reg.calData then calDataWord s
  else if a = Reg.calStore then s.reg a ||| bitIf s.cal.storeSet.isSome 17
  else s.reg a

/-- CLAMPED, LOCKED, BUSY, RANGE_HOLD and KENNEL. -/
def drvStatBits (s : Engine) : Word :=
  bitIf s.drv.clamped 0 ||| bitIf s.stagedLocked 1 ||| bitIf (s.drv.loader != .idle) 2 |||
    bitIf (!s.drv.rangeHold.isEmpty) 3 ||| bitIf s.drv.kennelFlag 4

def peekDrv (s : Engine) (a : Nat) : Word :=
  if a = Reg.drvStat then (s.reg a &&& 0x1F00#32) ||| drvStatBits s
  else if a = Reg.drvVerify then putFld (s.reg a) 0 8 s.drv.dirty.length
  else if a = Reg.drvFltFifo then
    match s.drv.fifo.head? with
    | some (kind, e) => putFld (putFld (bitIf true 31) 16 2 kind) 0 16 e
    | none => 0
  else if a = Reg.drvResume then 0
  else if Reg.drvSusp 0 ≤ a ∧ a ≤ Reg.drvSusp 1087 then maskWord s.drv.susp ((a - Reg.drvSusp 0) / 4)
  else if Reg.drvTileCrc 0 ≤ a ∧ a ≤ Reg.drvTileCrc 135 then
    let t := (a - Reg.drvTileCrc 0) / 4
    if t < s.variant.tiles then get0 s.drv.crcStaged t else 0
  else s.reg a

/-- TICK within a sweep or scan, held at its last value through a pause. -/
def phaseOf (s : Engine) (run : Bool) (start len : Nat) : Nat := if run then min (s.tick - start) (len - 1) else 0

def laneStatWord (s : Engine) (l : Nat) : Word :=
  let x := s.lane (Fin.ofNat 544 l)
  putFld (putFld (s.reg (Reg.snsLaneStat l)) 0 3 x.range) 4 2 x.bw ||| bitIf x.testAct 31 ||| bitIf x.parkAct 30

def peekSns (s : Engine) (a : Nat) : Word :=
  if a = Reg.snsStat then s.reg a ||| bitIf s.sns.sweepRun 0 ||| bitIf s.sns.scanRun 1
  else if a = Reg.snsPhase then
    putFld (word (phaseOf s s.sns.sweepRun s.sns.sweepStart 34000)) 16 16 (phaseOf s s.sns.scanRun s.sns.scanStart 16000)
  else if Reg.snsLaneStat 0 ≤ a ∧ a ≤ Reg.snsLaneStat 543 then laneStatWord s ((a - Reg.snsLaneStat 0) / 4)
  else if Reg.snsTempCal 0 ≤ a ∧ a ≤ Reg.snsTempCal 543 then get0 s.nvm.prod a
  else s.reg a

/-! ### Loop-processor windows (R170, R406) -/

def lpStatWord (x : LpState) : Word :=
  putFld (putFld (bitIf x.halted 0) 1 3 (if x.halted then x.cause else 0)) 8 8 x.sticky.toNat

def lpBankWord (x : LpState) : Word := bitIf x.bankActive 0 ||| bitIf x.swapReq 1 ||| bitIf x.swapped 2

/-- Machine and offset of an address of the loop-processor windows. -/
def lpOf (a : Nat) : Fin 33 := Fin.ofNat 33 ((a - 0x41000000) / 0x100000)
def lpOffset (a : Nat) : Nat := a % 0x100000

def peekLp (s : Engine) (a : Nat) : Word :=
  let k := lpOf a
  let x := s.lp k
  let o := lpOffset a
  if o = 0x04 then lpStatWord x
  else if o = 0x08 then word x.pc.toNat
  else if o = 0x0C then word x.actLast
  else if o = 0x10 then word x.vlost
  else if o = 0x14 then word x.ecc
  else if o = 0x28 then lpBankWord x
  else if o = 0x30 ∨ o = 0x34 then 0
  else if o < 0x10000 then s.reg a
  else if o < 0x18000 then get0 x.pm ((o - 0x10000) / 4)
  else if o < 0x20000 then 0
  else if o < 0x30000 then get0 x.xm ((o - 0x20000) / 4)
  else if o < 0x34000 then get0 x.bankA ((o - 0x30000) / 4)
  else if o < 0x38000 then get0 x.bankB ((o - 0x34000) / 4)
  else if o < 0x3C000 then word (calYStored k ((o - 0x38000) / 4) s).toNat
  else 0

/-! ### Setpoint and sense result memory (R404, R405) -/

def peekSetpoint (s : Engine) (a : Nat) : Word :=
  let i := a % 0x40000 / 4
  if s.variant.elements ≤ i then 0
  else match (a - 0x60000000) / 0x40000 with
    | 0 => get0 s.drv.staged i
    | 1 => get0 s.drv.active i
    | 2 => get0 s.drv.trims i
    | _ => 0

def peekSense (s : Engine) (a : Nat) : Word :=
  if a < 0x70100000 then get0 s.sns.results a
  else
    let l := (a - 0x70100000) / 0x200
    let slot := a % 0x200 / 4
    if l < 544 ∧ slot < 72 then putBit (leashEntry s l slot) 27 (s.sns.out.contains (72 * l + slot)) else 0

/-! ### The whole space (R400) -/

def inBlocks (a : Nat) : Bool := decide (0x40000000 ≤ a ∧ a < 0x400D0000)
def inLps (a : Nat) : Bool := decide (0x41000000 ≤ a ∧ a < 0x43100000)
def inSetpoint (a : Nat) : Bool := decide (0x60000000 ≤ a ∧ a < 0x60100000)
def inSense (a : Nat) : Bool := decide (0x70000000 ≤ a ∧ a < 0x70200000)
def inRom (a : Nat) : Bool := decide (a < 0x40000)
def inSram (a : Nat) : Bool := decide (0x10000000 ≤ a ∧ a < 0x10800000)
def inPak (a : Nat) : Bool := decide (0x40090000 ≤ a ∧ a < 0x400A0000)

/-- A register of a block window. -/
def peekBlock (s : Engine) (b : Bus) (a : Nat) : Word :=
  match (a - 0x40000000) / 0x10000 with
  | 0 => peekSys s a
  | 1 => peekTim s a
  | 2 => peekEvt s a
  | 3 => peekSch s a
  | 4 => peekRte s b a
  | 5 => peekFlt s a
  | 6 => peekPwr s a
  | 7 => peekNvm s b a
  | 8 => peekMgt s a
  | 9 => peekPak s b a
  | 10 => peekCal s a
  | 11 => peekDrv s a
  | 12 => peekSns s a
  | _ => 0

/-- What an aligned word reads as. -/
def peek (s : Engine) (b : Bus) (a : Nat) : Word :=
  if inBlocks a then peekBlock s b a
  else if inLps a then peekLp s a
  else if inSetpoint a then peekSetpoint s a
  else if inSense a then peekSense s a
  else 0

end Sys2Proof.Machine
end

