-- ==== Sys2Proof/Machine/Read.lean ====
section
/-! DEFINITION. Reads on the supervisor bus: who reaches what, the split-read latches, the side effects of a read, and the value that
each master receives (R303, R306, R318, R339, R341, R400 to R402). -/

namespace Sys2Proof.Machine

open Sys2Proof

/-! ### Split reads (R10, R241, R316, R341) -/

/-- The low halves of the pairs whose low half stands at a fixed address. -/
def fixedPairs : List Nat :=
  [Reg.timRateLo, Reg.timLedOvfLo, Reg.drvAckmapLo, Reg.timLedHold 0, Reg.timLedHold 2, Reg.timLedHold 4, Reg.schLastSeqLo, Reg.schOut 1, Reg.schGlActBaseSecLo,
   Reg.schGlPendStartSecLo, Reg.rteSeqLo, Reg.rteLastSeqLo, Reg.rteResultSeqLo, Reg.fltCapSecLo, Reg.thmSdSecLo] ++
  [Reg.nvmScrubSecLo, Reg.mgtMacLo, Reg.mgtPtpTxSecLo, Reg.mgtLastSeqLo, Reg.pakSeqLo, Reg.pakSeqBaseLo, Reg.pakCycSecLo,
   Reg.pakSwSecLo]

/-- Whether an address is the low half of a 64-bit pair. -/
def isPairLow (a : Nat) : Bool :=
  fixedPairs.contains a || (decide (0x40011000 ≤ a ∧ a < 0x40011800) && a % 32 == 8) ||
    (decide (0x40012000 ≤ a ∧ a < 0x40012080) && a % 32 == 8)

/-- Words that a read returns from its master's latch: the high half of a pair, and the other words of the present time. -/
def isLatched (a : Nat) : Bool :=
  (decide (4 ≤ a) && isPairLow (a - 4)) || (decide (Reg.timNowSecHi ≤ a ∧ a ≤ Reg.timNowFrac) && a % 4 == 0)

/-- The words that a read of an address latches. -/
def latchedBy (a : Nat) : List Nat :=
  if a = Reg.timNowSecLo then [Reg.timNowSecHi, Reg.timNowNs, Reg.timNowFrac] else if isPairLow a then [a + 4] else []

def latchFor (b : Bus) (a : Nat) (s : Engine) : Engine :=
  { s with latch := memWrites zeroWord s.latch ((latchedBy a).map fun h => (latchKey b.master h, peek s b h)) }

/-- The word that a read returns. -/
def readValue (s : Engine) (b : Bus) (a : Nat) : Word :=
  if isLatched a then get0 s.latch (latchKey b.master a) else peek s b a

/-! ### Side effects of a read (R101, R215, R236, R259, R316, R327, R339, R384) -/

/-- The result registers. -/
def isResult (a : Nat) : Bool :=
  a == Reg.rteResult || a == Reg.calResult || (decide (Reg.drvScentResult 0 ≤ a ∧ a ≤ Reg.drvScentResult 7) && a % 4 == 0)

/-- The number drawn by a read of PAK_SEQ_LO is used up. -/
def useSeq (s : Engine) : Engine := (drawSeq s).2

def readEffect (b : Bus) (a : Nat) (s : Engine) : Engine :=
  if isResult a then s.putRbit a 30 false
  else if a = Reg.schOut 3 then { s with sch.outs := s.sch.outs.drop 1 }
  else if a = Reg.timLedFifo 4 then { s with led.fifo := s.led.fifo.drop 1 }
  else if a = Reg.drvFltFifo then { s with drv.fifo := s.drv.fifo.drop 1 }
  else if a = Reg.calData then advancePtr s
  else if a = Reg.pakSeqLo then useSeq s
  else if a = Reg.mgtPtpTxSecLo then s.putRbit Reg.mgtPtpTxSeq 31 false
  else if inKeyArea a && !secureBus b then s.putRbit Reg.nvmStat 12 true
  else s

/-! ### What the master receives -/

def give (b : Bus) (v : Word) (s : Engine) : Engine := { s with rdata := put0 s.rdata (masterNo b.master) v }

/-- An access that no region decodes, or a write of a read-only region (R401). -/
def busError (b : Bus) (write : Bool) (a : Nat) (s : Engine) : Engine := s.raiseBy b 3 a (if write then 2 else 1)

/-- Whether a region or window decodes an aligned 32-bit access. -/
def decoded (a : Nat) : Bool := inBlocks a || inLps a || inSetpoint a || inSense a

/-- An access that counts as outside every region, of any member (R401); one of a member that is not ACTIVE is blocked as well
(R303, R402). -/
def undecoded (b : Bus) (write : Bool) (a : Nat) (s : Engine) : Engine :=
  if s.reaches b then s.access b (busError b write a)
  else if b.master = .flp || s.follows b then s
  else busError b write a (s.access b id)

/-- A read that has reached its target: its value, what it latches, and its effects. -/
def readAt (b : Bus) (a : Nat) (s : Engine) : Engine :=
  let v := readValue s b a
  readEffect b a (latchFor b a (give b v s))

/-- A member's read of its own SRAM or the boot ROM: of SRAM the aligned word that holds the address; a misaligned read of the ROM
counts as one outside every region (R401). -/
def readOwn (b : Bus) (a : Nat) (s : Engine) : Engine :=
  let w := a / 4 * 4
  if inRom a && a % 4 != 0 then busError b false a (give b 0 s)
  else match b.master with
  | .memberA => give b (if inRom a then Config.bootRom w else get0 s.pak.a.sram w) s
  | .memberB => give b (if inRom a then Config.bootRom w else get0 s.pak.b.sram w) s
  | .flp => give b 0 s

/-- A 32-bit read: a blocked one returns 0. -/
def busRead (b : Bus) (a : Nat) (s : Engine) : Engine :=
  if s.mode = .reset then s
  else if inRom a || inSram a then readOwn b a s
  else if s.follows b then s
  else if !decoded a || a % 4 != 0 then undecoded b false a (give b 0 s)
  else if inPak a then (give b 0 s).accessPak b (readAt b a)
  else (give b 0 s).access b (readAt b a)

/-- Address of a result register. -/
def resultRegAddr (r : ResultReg) : Nat :=
  match r with
  | .rte => Reg.rteResult
  | .cal => Reg.calResult
  | .scent g => Reg.drvScentResult g.val

end Sys2Proof.Machine
end

