-- ==== Sys2Proof/Machine/Write.lean ====
section
/-! DEFINITION. Writes on the supervisor bus: every register's fields as their access codes give (R14 to R16), each with the
effects of its own rule, and the other regions (R401, R402). -/

namespace Sys2Proof.Machine

open Sys2Proof

/-! ### The access codes (R15) -/

/-- RW fields. -/
def storeBits (a : Nat) (mask v : Word) (s : Engine) : Engine := s.setReg a (mixBits (s.reg a) v mask)

/-- W1C fields. -/
def clearBits (a : Nat) (mask v : Word) (s : Engine) : Engine := s.setReg a (s.reg a &&& ~~~(v &&& mask))

def storeReg (b : Bus) (a : Nat) (mask v : Word) (s : Engine) : Engine := s.access b (storeBits a mask v)

def clearReg (b : Bus) (a : Nat) (mask v : Word) (s : Engine) : Engine := s.access b (clearBits a mask v)

/-- A read-only register, or a reserved offset: no effect. -/
def noEffect (b : Bus) (s : Engine) : Engine := s.access b id

/-! ### SYS (R31, R392, R399) -/

def writeSys (b : Bus) (a : Nat) (v : Word) (s : Engine) : Engine :=
  if a = Reg.sysMode then
    s.access b fun s => if bit v 31 then { s with sys.refused := false } else s
  else if a = Reg.sysModeReq then modeRequest b (modeOfCode (fld v 0 3)) s
  else if a = Reg.sysClkCtl then refChange b v s
  else if a = Reg.sysClkStat then clearReg b a 0x70 v s
  else if a = Reg.sysPilotStat then clearReg b a 8 v s
  else noEffect b s

/-! ### TIM (R242, R243, R252 to R255, R260, R263) -/

/-- A write of a target's seconds, PERIOD or COUNT: ignored while the comparator is armed. -/
def cmpField (b : Bus) (c : Fin 64) (f : Engine → Engine) (s : Engine) : Engine :=
  cmpAccess b c (fun s => if s.cmpLocked c then s.putRbit (Reg.timCmpStat c) 2 true else f s) s

def writeCmp (b : Bus) (a : Nat) (v : Word) (s : Engine) : Engine :=
  let c : Fin 64 := Fin.ofNat 64 ((a - Reg.timCmpCtl 0) / 32)
  match a % 32 with
  | 0 => if bit v 0 then cmpArm b c (bit v 1) s else cmpDisarm b c (bit v 1) s
  | 4 => cmpNsWrite b c v s
  | 8 => cmpField b c (fun s => s.holdLow a v) s
  | 12 => cmpField b c (fun s => s.applyPair (Reg.timCmpSecLo c) a v) s
  | 16 => cmpField b c (fun s => s.setReg a v) s
  | 20 => cmpField b c (fun s => s.setReg a v) s
  | 24 => cmpAccess b c (clearBits a 0x1F v) s
  | _ => noEffect b s

/-- A write of TIM_TOUT_CTL[k]: W1C of its sticky bits, and EN with POL and PERIODIC. -/
def toutCtlWrite (b : Bus) (k : Fin 4) (v : Word) (s : Engine) : Engine :=
  toutAccess b (fun s =>
    let s := clearBits (Reg.timToutCtl k) 0x30 v s
    if bit v 0 then toutOn k (bit v 2) (bit v 1) s else toutOff k (bit v 2) (bit v 1) s) s

def writeTout (b : Bus) (a : Nat) (v : Word) (s : Engine) : Engine :=
  let k : Fin 4 := Fin.ofNat 4 ((a - Reg.timToutCtl 0) / 32)
  match a % 32 with
  | 0 => toutCtlWrite b k v s
  | 4 => toutNsWrite b k v s
  | 8 => toutAccess b (fun s => s.holdLow a v) s
  | 12 => toutAccess b (fun s => s.applyPair (Reg.timToutSecLo k) a v) s
  | 28 => noEffect b s
  | _ => toutAccess b (fun s => s.setReg a v) s

/-- W1C of LEDGER_OVF: nothing while any accumulator is not empty. -/
def ledOvfClear (b : Bus) (v : Word) (s : Engine) : Engine :=
  s.access b fun s => if s.led.acc.toList.any Option.isSome then s else clearBits Reg.timLedStat 0x10000 v s

def writeTim (b : Bus) (a : Nat) (v : Word) (s : Engine) : Engine :=
  if a = Reg.timCtl then timSrcWrite b (Fin.ofNat 4 (fld v 0 2)) s
  else if a = Reg.timStat then clearReg b a 0xFC v s
  else if a = Reg.timRateLo then s.access b fun s => s.holdLow a v
  else if a = Reg.timRateHi then timRateWrite b v s
  else if a = Reg.timAdjFrac then storeReg b a 0xFFFF v s
  else if a = Reg.timAdjNs then timAdjust b v s
  else if a = Reg.timSetSecLo then s.access b fun s => s.holdLow a v
  else if a = Reg.timSetSecHi then s.access b fun s => s.applyPair Reg.timSetSecLo a v
  else if a = Reg.timSetNs then timSet b v s
  else if a = Reg.timAsymMgtRx ∨ a = Reg.timAsymMgtTx ∨ a = Reg.timAsymPpsIn ∨ a = Reg.timPtpMaster then
    storeReg b a 0xFFFFFFFF v s
  else if Reg.timAsymTout 0 ≤ a ∧ a ≤ Reg.timAsymTout 3 then toutAccess b (fun s => s.setReg a v) s
  else if a = Reg.timPtpCfg then storeReg b a 0x17F v s
  else if Reg.timCmpCtl 0 ≤ a ∧ a < Reg.timCmpCtl 64 then writeCmp b a v s
  else if Reg.timToutCtl 0 ≤ a ∧ a < Reg.timToutCtl 4 then writeTout b a v s
  else if a = Reg.timLedStat then ledOvfClear b v s
  else if a = Reg.timLedTake then ledgerTake b (Fin.ofNat 64 (fld v 0 6)) s
  else noEffect b s

/-! ### EVT (R266, R272, R273, R275) -/

def writeEvt (b : Bus) (a : Nat) (v : Word) (s : Engine) : Engine :=
  if a = Reg.evtStat then clearReg b a 0x1D v s
  else if a = Reg.evtCfgData then storeReg b a 0xFFFFFFFF v s
  else if a = Reg.evtCfgReq then evtCfgRequest b v s
  else if a = Reg.evtCoincSrc ∨ a = Reg.evtLoopSrc then clearReg b a 0x80000000 v s
  else if a = Reg.evtSwTrig then hostTrigger b (v.setWidth 8) s
  else if a = Reg.evtNotePendLo then s.access b (clearPending a 0x80 v)
  else if a = Reg.evtNotePendHi then s.access b (clearPending a 0xA0 v)
  else if a = Reg.evtIrqPend then s.access b (clearPending a 0x70 (v &&& 0xFF))
  else if Reg.evtConsStat 0 ≤ a ∧ a ≤ Reg.evtConsStat 255 then clearReg b a 3 v s
  else noEffect b s

/-! ### SCH, RTE (R73, R80, R216, R221, R224, R228, R238, R304) -/

/-- EN and CANCEL. -/
def schCtlWrite (b : Bus) (v : Word) (s : Engine) : Engine :=
  s.access b fun s =>
    let s := setSchEn (bit v 0) s
    if bit v 1 then cancelPresent s else s

/-- A word of a member's staging set. -/
def stageWord (b : Bus) (w : Nat) (v : Word) (s : Engine) : Engine :=
  s.accessGuarded b fun m s => { s with sch.stage := put0 s.sch.stage (stageKey m w) v }

def writeSch (b : Bus) (a : Nat) (v : Word) (s : Engine) : Engine :=
  if a = Reg.schCtl then schCtlWrite b v s
  else if a = Reg.schStat then clearReg b a 0x1F00 v s
  else if a = Reg.schGuard ∨ a = Reg.schCost then storeReg b a 0xFFFF v s
  else if a = Reg.schLead then storeReg b a 0xFFFFFFFF v s
  else if Reg.schReq 0 ≤ a ∧ a ≤ Reg.schReq 4 then stageWord b ((a - Reg.schReq 0) / 4) v s
  else if a = Reg.schReq 5 then s.accessGuarded b fun m s => submitStaged m v s
  else if a = Reg.schOprQ then storeReg b a 0x3F v s
  else if a = Reg.schGlCmd then glCommand b (bit v 1) (bit v 0) s
  else if a = Reg.schGlStat then clearReg b a 0x138 v s
  else if a = Reg.schGlPendCycle ∨ a = Reg.schGlPendLen ∨ a = Reg.schGlPendStartNs ∨ a = Reg.schGlPendStartSecLo ∨
      a = Reg.schGlPendStartSecHi ∨ (Reg.schGlPend 0 ≤ a ∧ a < 0x40033000) then s.access b (pendWrite a v)
  else if Reg.schTbRate 0 ≤ a ∧ a < Reg.schTbRate 64 then
    let t : Fin 64 := Fin.ofNat 64 ((a - Reg.schTbRate 0) / 16)
    match a % 16 with
    | 0 => tbRateWrite b t v s
    | 4 => tbBurstWrite b t v s
    | 12 => storeReg b a 0x3F v s
    | _ => noEffect b s
  else noEffect b s

/-- The word of a member's staging set that holds a low half of RTE_SEQ until its high half is written (R341). -/
abbrev seqHold : Nat := 7

/-- A write of RTE_SEQ_HI applies both halves to the member's set. -/
def rteSeqApply (b : Bus) (v : Word) (s : Engine) : Engine :=
  s.accessGuarded b fun m s =>
    let low := get0 s.sch.stage (stageKey m seqHold)
    { s with sch.stage := memWrites zeroWord s.sch.stage [(stageKey m 5, low), (stageKey m 6, v)] }

def writeRte (b : Bus) (a : Nat) (v : Word) (s : Engine) : Engine :=
  if a = Reg.rteCtl then (if bit v 0 then routeAbort b s else noEffect b s)
  else if a = Reg.rteCmd then directRoute b v s
  else if a = Reg.rteSeqLo then stageWord b seqHold v s
  else if a = Reg.rteSeqHi then rteSeqApply b v s
  else if a = Reg.rteStat then clearReg b a 0x18 v s
  else if a = Reg.rteVrail then storeReg b a 0xFFFF v s
  else if Reg.rteTarget 0 ≤ a ∧ a ≤ Reg.rteTarget 511 then
    let i := (a - Reg.rteTarget 0) / 4
    s.access b fun s => s.onlyIf (decide (i < s.variant.ports)) fun s =>
      { s with rte.target := put0 s.rte.target i (v &&& 0xBF0001FF#32) }
  else noEffect b s

/-! ### FLT, PWR, THM (R285, R293, R298, R300, R348, R351, R356, R360, R362) -/

def writeFlt (b : Bus) (a : Nat) (v : Word) (s : Engine) : Engine :=
  if a = Reg.fltCtl then fltCtlWrite b v s
  else if a = Reg.fltStat then clearReg b a 0x200 v s
  else if Reg.fltSticky 0 ≤ a ∧ a ≤ Reg.fltConseq 3 then clearReg b a 0xFFFFFFFF v s
  else if a = Reg.fltCapStat then (if bit v 31 then captureClear b s else noEffect b s)
  else if a = Reg.fltInject then faultInject b (Fin.ofNat 128 (fld v 0 7)) s
  else if Reg.fltReact 0 ≤ a ∧ a ≤ Reg.fltReact 127 then reactWrite b (Fin.ofNat 128 ((a - Reg.fltReact 0) / 4)) v s
  else noEffect b s

def writePwr (b : Bus) (a : Nat) (v : Word) (s : Engine) : Engine :=
  if a = Reg.pwrCtl then storeReg b a 1 v s
  else if a = Reg.pwrStat then clearReg b a 0xFF v s
  else if a = Reg.pwrAllot ∨ a = Reg.pwrBudget then storeReg b a 0xFFFF v s
  else if a = Reg.pwrEbktCap then ebktCapWrite b v s
  else if Reg.pwrUvThr 0 ≤ a ∧ a ≤ Reg.pwrUvThr 7 then storeReg b a 0x7F v s
  else if a = Reg.thmCtl then (if bit v 2 then sdClear b v s else storeReg b a 3 v s)
  else if a = Reg.thmStat then clearReg b a 0x1F0000 v s
  else if a = Reg.thmLimCold then thmLimitWrite b 0 v s
  else if a = Reg.thmLimHot then thmLimitWrite b 1 v s
  else if a = Reg.thmLimSd then thmLimitWrite b 2 v s
  else if a = Reg.thmDiv then storeReg b a 0xFF v s
  else noEffect b s

/-! ### NVM, MGT, PAK (R316, R317, R323, R344, R368, R383, R384) -/

def writeNvm (b : Bus) (a : Nat) (v : Word) (s : Engine) : Engine :=
  if a = Reg.nvmCtl then (if bit v 0 then mramScrubStart b s else noEffect b s)
  else if a = Reg.nvmStat then clearReg b a 0x1F00 v s
  else if a = Reg.nvmRecAddr then storeReg b a 0xFFFFC0 v s
  else if a = Reg.nvmRecCmd then
    if fld v 0 2 = 1 then recordCommand b false s else if fld v 0 2 = 2 then recordCommand b true s else noEffect b s
  else if Reg.nvmRecBuf 0 ≤ a ∧ a ≤ Reg.nvmRecBuf 15 then storeReg b a 0xFFFFFFFF v s
  else noEffect b s

def writeMgt (b : Bus) (a : Nat) (v : Word) (s : Engine) : Engine :=
  if a = Reg.mgtCtl then storeReg b a 0xFF01 v s
  else if a = Reg.mgtStat then clearReg b a 0xE v s
  else if a = Reg.mgtPhyCtl then phyModeWrite b v s
  else if a = Reg.mgtMdio then mdioStart b v s
  else if a = Reg.mgtIp ∨ a = Reg.mgtMask ∨ a = Reg.mgtGw then storeReg b a 0xFFFFFFFF v s
  else noEffect b s

/-- A write of the PAK window; a rehearsal's follower has none (R318). -/
def pakWrite (b : Bus) (f : Engine → Engine) (s : Engine) : Engine :=
  s.accessPak b fun s => if s.follows b then s else f s

/-- AUTO_SWAP, RESYNC_EN and SWAP_REQ. -/
def pakCtlWrite (v : Word) (s : Engine) : Engine :=
  let s := storeBits Reg.pakCtl 5 v s
  if bit v 1 && !s.pak.overlap then swapFallsDue 6 (s.putRbit Reg.pakCtl 1 true) else s

/-- RW1: the first write since reset sets the low half of the base. -/
def seqBaseLow (v : Word) (s : Engine) : Engine :=
  if s.pak.baseLoWritten then s else { s with pak.baseLoWritten := true }.setReg Reg.pakSeqBaseLo v

def writePak (b : Bus) (a : Nat) (v : Word) (s : Engine) : Engine :=
  if a = Reg.pakCtl then pakWrite b (pakCtlWrite v) s
  else if a = Reg.pakStat then pakWrite b (clearBits a 0xFF00 v) s
  else if a = Reg.pakSeqBaseLo then pakWrite b (seqBaseLow v) s
  else if a = Reg.pakSeqBaseHi then seqBaseLoad b v s
  else if a = Reg.pakSwapPeriod then pakWrite b (fun s => s.setReg a v) s
  else s.accessPak b id

/-! ### CAL, DRV, SNS (R101, R107, R110, R129, R134, R198, R201, R207, R208, R215) -/

/-- RUN_EN and STORE_EN, ABORT and APPLY. -/
def calCtlWrite (b : Bus) (v : Word) (s : Engine) : Engine :=
  s.access b fun s =>
    let s := storeBits Reg.calCtl 9 v s
    let s := if bit v 2 then abandonAll s else s
    if bit v 1 then askApply s else s

def writeCal (b : Bus) (a : Nat) (v : Word) (s : Engine) : Engine :=
  if a = Reg.calCtl then calCtlWrite b v s
  else if a = Reg.calCmd then
    if fld v 0 2 = 1 then calRecal b (BitVec.ofNat 8 (fld v 8 8)) s else if fld v 0 2 = 2 then calFull b s else noEffect b s
  else if a = Reg.calStat then clearReg b a 0xF0 v s
  else if a = Reg.calTrig then storeReg b a 0x00FF00FF v s
  else if a = Reg.calWin ∨ a = Reg.calLimits then storeReg b a 0xFFF v s
  else if a = Reg.calPtr then storeReg b a 0xF003FFFF v s
  else if a = Reg.calData then calDataWrite b v s
  else if a = Reg.calStore then storeReg b a 0xFFFF v s
  else noEffect b s

def writeScent (b : Bus) (a : Nat) (v : Word) (s : Engine) : Engine :=
  match a % 16 with
  | 0 => scentCtlWrite b (Fin.ofNat 8 ((a - Reg.drvScentCtl 0) / 16)) v s
  | 12 => storeReg b a 0x000F07FF v s
  | _ => storeReg b a 0xFFFFFFFF v s

/-- A write of DRV_CTL: with RAILCOMP_EN 0 both factors are 16,384 (R96). -/
def drvCtlWrite (v : Word) (s : Engine) : Engine :=
  let was := s.rbit Reg.drvCtl 2
  let s := storeBits Reg.drvCtl 0xF v s
  if was && !bit v 2 then applyRail 0x40004000 s else s

def writeDrv (b : Bus) (a : Nat) (v : Word) (s : Engine) : Engine :=
  if a = Reg.drvCtl then s.access b (drvCtlWrite v)
  else if a = Reg.drvStat then clearReg b a 0x1F00 v s
  else if a = Reg.drvAckmapLo then clearReg b a 0xFFFFFFFF v s
  else if a = Reg.drvAckmapHi then clearReg b a 3 v s
  else if a = Reg.drvProbe then storeReg b a 0xFF v s
  else if a = Reg.drvOpenThr then storeReg b a 0xFF7F v s
  else if a = Reg.drvLeakThr then storeReg b a 0x00FF00FF v s
  else if a = Reg.drvResume then drvResume b v s
  else if Reg.drvScentCtl 0 ≤ a ∧ a ≤ Reg.drvScentMon 7 then writeScent b a v s
  else if Reg.drvScentTable 0 ≤ a ∧ a ≤ Reg.drvScentTable 1023 then storeReg b a 0xFFFF v s
  else noEffect b s

/-- A write of SNS_FSTALE: a frozen element whose bit it clears is frozen no longer (R207). -/
def storeFstale (b : Bus) (a : Nat) (mask v : Word) (s : Engine) : Engine :=
  s.access b fun s => let s := s.setReg a (v &&& mask); { s with cal.frozen := frozenNow s }

def writeSns (b : Bus) (a : Nat) (v : Word) (s : Engine) : Engine :=
  if a = Reg.snsCtl then storeReg b a 0xF03 v s
  else if a = Reg.snsStat then clearReg b a 0x3C v s
  else if Reg.snsLaneCfg 0 ≤ a ∧ a ≤ Reg.snsLaneCfg 543 then laneCfgWrite b (Fin.ofNat 544 ((a - Reg.snsLaneCfg 0) / 4)) v s
  else if Reg.snsLaneStat 0 ≤ a ∧ a ≤ Reg.snsLaneStat 543 then clearReg b a 0xF00 v s
  else if Reg.snsFstale 0 0 ≤ a ∧ a ≤ Reg.snsFstale 543 2 then
    match a % 16 with
    | 8 => storeFstale b a 0xFF v s
    | 12 => noEffect b s
    | _ => storeFstale b a 0xFFFFFFFF v s
  else if Reg.snsTdac 0 ≤ a ∧ a ≤ Reg.snsTdac 543 then storeReg b a 0x3FF v s
  else noEffect b s

/-! ### Loop-processor windows (R167, R168, R170) -/

/-- EN and STEP, of which the mode decides (R168). -/
def lpCtlWrite (b : Bus) (k : Fin 33) (v : Word) (s : Engine) : Engine :=
  s.access b fun s =>
    let s := if bit v 0 then lpEnable k s else lpDisable k s
    if bit v 1 then lpSingle { k := k, ecc := .clean } s else s

/-- SWAP and SWAPPED. -/
def lpBankCtl (k : Fin 33) (v : Word) (s : Engine) : Engine :=
  let s := if bit v 2 then s.onLp k fun x => { x with swapped := false } else s
  if bit v 1 then requestSwap k s else s

/-- A word of XM, writable while the machine is halted. -/
def writeXm (k : Fin 33) (i : Nat) (v : Word) (s : Engine) : Engine :=
  if (s.lp k).halted then s.onLp k fun x => { x with xm := put0 x.xm i (v &&& 0xFFFF) } else s

/-- A word of a coefficient bank, writable while the bank is inactive. -/
def writeBank (k : Fin 33) (second : Bool) (i : Nat) (v : Word) (s : Engine) : Engine :=
  let x := s.lp k
  if x.bankActive = second then s
  else
    let old := get0 (if second then x.bankB else x.bankA) i
    (s.noteHalf (.bank k second i old (v &&& 0xFFFF))).onLp k fun x => x.putBank second i (v &&& 0xFFFF)

def writeLp (b : Bus) (a : Nat) (v : Word) (s : Engine) : Engine :=
  let k := lpOf a
  let o := lpOffset a
  if o = 0x00 then lpCtlWrite b k v s
  else if o = 0x04 then s.access b fun s => s.onLp k fun x => x.unstick ((v >>> 8).setWidth 8)
  else if o = 0x18 then storeReg b a 0xFF v s
  else if o = 0x20 then storeReg b a 0x7F7F7FFF v s
  else if o = 0x24 then storeReg b a 0x7F7F1FFF v s
  else if o = 0x28 then s.access b (lpBankCtl k v)
  else if o = 0x30 then (if k = 0 then s.access b fun s => s.setReg a v else noEffect b s)
  else if o = 0x34 then (if k = 0 then gswapCommit b v s else noEffect b s)
  else if 0x20000 ≤ o ∧ o < 0x30000 then s.access b (writeXm k ((o - 0x20000) / 4) v)
  else if 0x30000 ≤ o ∧ o < 0x34000 then s.access b (writeBank k false ((o - 0x30000) / 4) v)
  else if 0x34000 ≤ o ∧ o < 0x38000 then s.access b (writeBank k true ((o - 0x34000) / 4) v)
  else noEffect b s

/-! ### The whole space (R400, R401) -/

def writeBlock (b : Bus) (a : Nat) (v : Word) (s : Engine) : Engine :=
  match (a - 0x40000000) / 0x10000 with
  | 0 => writeSys b a v s
  | 1 => writeTim b a v s
  | 2 => writeEvt b a v s
  | 3 => writeSch b a v s
  | 4 => writeRte b a v s
  | 5 => writeFlt b a v s
  | 6 => writePwr b a v s
  | 7 => writeNvm b a v s
  | 8 => writeMgt b a v s
  | 9 => writePak b a v s
  | 10 => writeCal b a v s
  | 11 => writeDrv b a v s
  | 12 => writeSns b a v s
  | _ => noEffect b s

/-- The bytes of a word that an access of a width at an address replaces: the word, shifted to its place, and its mask. -/
def laneBits (w : Width) (a : Nat) (v : Word) : Word × Word :=
  match w with
  | .word => (v, 0xFFFFFFFF)
  | .half => ((v &&& 0xFFFF) <<< (8 * (a % 4 / 2 * 2)), 0xFFFF <<< (8 * (a % 4 / 2 * 2)))
  | .byte => ((v &&& 0xFF) <<< (8 * (a % 4)), 0xFF <<< (8 * (a % 4)))

/-- A member's write of its own SRAM, of any width. -/
def writeSram (m : Bool) (w : Width) (a : Nat) (v : Word) (s : Engine) : Engine :=
  let x := s.member m
  let at_ := a / 4 * 4
  let (bits, mask) := laneBits w a v
  s.setMember m { x with sram := put0 x.sram at_ (mixBits (get0 x.sram at_) bits mask) }

/-- A write of a member's own memory: the boot ROM takes none. -/
def writeOwn (b : Bus) (w : Width) (a : Nat) (v : Word) (s : Engine) : Engine :=
  if inRom a then busError b true a s
  else match b.master with
    | .memberA => writeSram false w a v s
    | .memberB => writeSram true w a v s
    | .flp => busError b true a s

/-- A write on the bus. -/
def busWrite (b : Bus) (w : Width) (a : Nat) (v : Word) (s : Engine) : Engine :=
  if s.mode = .reset then s
  else if inRom a || inSram a then writeOwn b w a v s
  else if w != .word || a % 4 != 0 then undecoded b true a s
  else if inBlocks a then writeBlock b a v s
  else if inLps a then writeLp b a v s
  else undecoded b true a s

end Sys2Proof.Machine
end

