-- ==== Sys2Proof/Machine/Flp.lean ====
section
/-! DEFINITION. Commands of the Fliyna Link Protocol (R331 to R338, R340, R342, R380, R381): the checks of a host message, the
payload of each command, and its response. -/

namespace Sys2Proof.Machine

open Sys2Proof

/-! ### Fields of a payload (R331) -/

def wordAt (p : List Byte) (i : Nat) : Word := word (leAt p i 4)

/-- The words of a run of bytes, and the bytes of words. -/
def wordsOf (p : List Byte) : List Word := (List.range (p.length / 4)).map fun i => wordAt p (4 * i)
def wordBytes (ws : List Word) : List Byte := ws.flatMap fun w => leBytes 4 w.toNat

/-! ### Responses (R334, R335) -/

/-- STATUS, DETAIL and the data of a response. -/
structure Answer where
  status : Nat
  detail : Nat
  data : List Byte
deriving DecidableEq, Repr

abbrev Flp.ok : Nat := 0
abbrev Flp.accepted : Nat := 1
abbrev Flp.duplicate : Nat := 2
abbrev Flp.notPermitted : Nat := 3
abbrev Flp.notOwner : Nat := 4
abbrev Flp.badLength : Nat := 5
abbrev Flp.badField : Nat := 6
abbrev Flp.mode : Nat := 7
abbrev Flp.busy : Nat := 8
abbrev Flp.badType : Nat := 9
abbrev Flp.badVersion : Nat := 10
abbrev Flp.refused : Nat := 11
abbrev Flp.owned : Nat := 12
abbrev Flp.portInUse : Nat := 13
abbrev Flp.notFound : Nat := 14

/-- A status alone. -/
def status (c : Nat) : Answer := { status := c, detail := 0, data := [] }

def okData (d : List Byte) : Answer := { status := Flp.ok, detail := 0, data := d }

/-- A command that ends with a status and does nothing else. -/
def ends (c : Nat) (s : Engine) : Answer × Engine := (status c, s)

/-- The one response to a command. -/
def respond (n : Fin 65) (type : Nat) (m : HostMsg) (a : Answer) (s : Engine) : Engine :=
  send n type 1 (leBytes 8 m.seq.toNat ++ leBytes 2 a.status ++ leBytes 2 a.detail ++ leBytes 4 0 ++ a.data) false s

/-- What a command does once checks 1 to 6 pass, and its response. -/
abbrev FlpBody := Fin 65 → HostMsg → Engine → Answer × Engine

/-- The connection closed with close_notify. -/
def closeSession (n : Fin 65) (s : Engine) : Engine :=
  if (s.session n).tls then reply (.closeNotify n.val) (s.setSession n (s.session n).lost) else s

/-- The host's number becomes the session's last accepted one, and its record is written (R332, R378). -/
def acceptSeq (n : Fin 65) (seq : Nat) (s : Engine) : Engine :=
  writeSess n.val seq (s.setSession n { s.session n with lastSeq := seq })

/-- Checks 5 to 7: TYPE, the session's right, the payload. -/
def runCommand (known oprOnly : Bool) (body : FlpBody) (n : Fin 65) (m : HostMsg) (s : Engine) : Answer × Engine :=
  if !known then ends Flp.badType s
  else if oprOnly && n != 0 then ends Flp.notPermitted s
  else body n m s

/-- A message whose payload LENGTH delimits in the stream; a stream that has not brought all of it yet gives none (R331). -/
def delimited (m : HostMsg) : Option HostMsg :=
  if m.version ≠ 1 ∨ 65536 < m.length.toNat then some m
  else if m.payload.length < m.length.toNat then none
  else some { m with payload := m.payload.take m.length.toNat }

/-- Checks 1 to 4, and the command that passes them. -/
def takeMessage (type : Nat) (known oprOnly : Bool) (body : FlpBody) (n : Fin 65) (m : HostMsg) (s : Engine) : Engine :=
    let s := s.setSession n { s.session n with idleFrom := s.tick }
    if m.version ≠ 1 then closeSession n (respond n type m (status Flp.badVersion) s)
    else if 65536 < m.length.toNat then closeSession n (respond n type m (status Flp.badLength) s)
    else if m.session.toNat ≠ n.val ∨ m.sender ≠ 0xFF then respond n type m (status Flp.badField) s
    else if m.seq.toNat ≤ (s.session n).lastSeq then respond n type m (status Flp.duplicate) s
    else
      let (a, s) := runCommand known oprOnly body n m (acceptSeq n m.seq.toNat s)
      respond n type m a s

/-- A host message at the engine (R332). -/
def flpMessage (type : Nat) (known oprOnly : Bool) (body : FlpBody) (n : Fin 65) (m : HostMsg) (s : Engine) : Engine :=
  s.onlyIf (sessionsOpen s && (s.session n).tls && s.activeMember.isSome) fun s =>
    match delimited m with
    | none => s
    | some m => takeMessage type known oprOnly body n m s

/-! ### Submitted commands (R216, R336, R337, R340) -/

/-- Whether a tenant owns a port. -/
def ownsPort (s : Engine) (t : Nat) (isOut : Bool) (p : Nat) : Bool :=
  match (if isOut then s.fw.ownOut else s.fw.ownIn)[p]? with
  | some (some o) => o.val == t
  | _ => false

/-- A request submitted for a session with the next engine number; the session's result record loses VALID. In a rehearsal the follower
writes its own copy (R318). -/
def submitFor (n : Fin 65) (m : HostMsg) (cmd : Word) (dlNs : Nat) (dlSec : Word) (s : Engine) : Answer × Engine :=
  let (seq, s) := drawSeq (s.logFirmware 8)
  let x := s.session n
  let s := s.setSession n { x with result := { x.result with valid := false } }
  let e : Submitted := { engineSeq := seq, session := n.val, hostSeq := m.seq.toNat, cells := 0, blinks := 0 }
  let write := submitRequest cmd (if n = 0 then 64 else n.val - 1) dlNs dlSec seq
  let s := write { s with fw.submitted := s.fw.submitted ++ [e] }
  (status Flp.accepted, if s.pak.overlap then write s else s)

/-- Whether a DISCONNECT names a connection of another tenant. -/
def foreignConn (s : Engine) (i o t : Nat) : Bool :=
  let w := get0 s.rte.base i
  mapConn w && mapOut w == o && mapTenant w != t

/-- CONNECT and DISCONNECT, as ADD (1) and REMOVE (2). -/
def connectBody (op : Nat) : FlpBody := fun n m s =>
  let p := m.payload
  let i := leAt p 0 2
  let o := leAt p 2 2
  let given := leAt p 4 1
  let t := if n = 0 then given else n.val - 1
  let ports := s.variant.ports
  if p.length ≠ 16 then ends Flp.badLength s
  else if (n ≠ 0 ∧ given ≠ 0) ∨ 64 ≤ t ∨ leAt p 5 3 ≠ 0 ∨ ports ≤ i ∨ ports ≤ o ∨ 999999999 < leAt p 8 4 then
    ends Flp.badField s
  else if !ownsPort s t false i || !ownsPort s t true o then ends Flp.notOwner s
  else if op = 2 ∧ n ≠ 0 ∧ foreignConn s i o t = true then ends Flp.notOwner s
  else submitFor n m (routeWord op i o (if op = 1 then t else 0)) (leAt p 8 4) (wordAt p 12) s

/-- The lowest input whose CONN word names ports that its tenant does not own. -/
def foreignInput (s : Engine) (ws : List Word) : Option Nat :=
  (List.range ws.length).find? fun i =>
    let w := ws.getD i 0
    mapConn w && !(ownsPort s (mapTenant w) false i && ownsPort s (mapTenant w) true (mapOut w))

def permuteBody : FlpBody := fun n m s =>
  let p := m.payload
  let ws := wordsOf (p.drop 16)
  if p.length ≠ 16 + 4 * s.variant.ports then ends Flp.badLength s
  else if 999999999 < leAt p 0 4 ∨ leAt p 8 8 ≠ 0 ∨ ws.any (fun w => w &&& 0x40FFFE00#32 != 0) = true then ends Flp.badField s
  else match foreignInput s ws with
    | some i => ({ status := Flp.notOwner, detail := i, data := [] }, s)
    | none =>
      if permuteBusy s then ends Flp.busy s
      else
        let target := memWrites zeroWord [] (ws.mapIdx fun i w => (i, w))
        submitFor n m (routeWord 3 0 0 0) (leAt p 0 4) (wordAt p 4) ({ s with rte.target := target }.logFirmware s.variant.ports)

/-- PIN (4) and UNPIN (5). -/
def pinBody (op : Nat) : FlpBody := fun n m s =>
  let p := m.payload
  let i := leAt p 0 2
  let o := leAt p 2 2
  if p.length ≠ 8 then ends Flp.badLength s
  else if 1 < leAt p 4 1 ∨ leAt p 5 3 ≠ 0 ∨ s.variant.ports ≤ i ∨ (op = 4 ∧ s.variant.ports ≤ o) then ends Flp.badField s
  else submitFor n m (routeWord op i (if op = 4 then o else 0) 0) 0 0 s

/-! ### Reports of submitted commands (R338, R340) -/

/-- A notification for a session that its next connection carries where it has none (R329). -/
def keepFor (n : Fin 65) (type : Nat) (payload : List Byte) (s : Engine) : Engine :=
  let x := s.session n
  s.setSession n { x with notes := x.notes ++ [{ type := type, payload := payload }] }

/-- The payload of an OUTCOME. -/
def outcomeBytes (reqSeq outcome detail sec ns : Nat) : List Byte :=
  leBytes 8 reqSeq ++ leBytes 1 outcome ++ leBytes 1 detail ++ leBytes 2 0 ++ timeBytes sec ns

/-- The second of a report's TIME_NS: the latest one that has passed. -/
def reportSec (s : Engine) (ns : Nat) : Nat := if ns ≤ s.nowSubNs then s.nowSec else s.nowSec - 1

/-- Whether a session has submitted a later command than one. -/
def laterThan (s : Engine) (e : Submitted) : Bool :=
  s.fw.submitted.any fun x => x.session == e.session && decide (e.engineSeq < x.engineSeq)

/-- A report that ends a submitted command: its result record, unless a later command has taken it, and its OUTCOME. -/
def endSubmitted (r : Word × Nat × Word) (e : Submitted) (s : Engine) : Engine :=
  let n : Fin 65 := Fin.ofNat 65 e.session
  let outcome := fld r.1 24 4
  let detail := fld r.1 16 4
  let ns := r.2.2.toNat
  let sec := reportSec s ns
  let rec_ : ResultRec :=
    { valid := true, fresh := true, outcome := outcome, detail := detail, cells := e.cells, blinks := e.blinks,
      reqSeq := e.hostSeq, sec := sec, ns := ns }
  let s' := if laterThan s e then s else s.setSession n { s.session n with result := rec_ }
  keepFor n 0x40 (outcomeBytes e.hostSeq outcome detail sec ns)
    { s' with fw.submitted := s'.fw.submitted.filter fun x => x.engineSeq != e.engineSeq }

/-- The reports of SCH_OUT read up to the first one that ends an FLP command. -/
def readReports (s : Engine) : Engine :=
  let ends_ (r : Word × Nat × Word) (e : Submitted) : Bool := e.engineSeq == r.2.1
  match s.sch.outs.dropWhile fun r => !s.fw.submitted.any (ends_ r) with
  | [] => s
  | r :: rest =>
    match s.fw.submitted.find? (ends_ r) with
    | some e => endSubmitted r e ({ s with sch.outs := rest }.logFirmware (4 * (s.sch.outs.length - rest.length)))
    | none => s

/-- Every report that waits read. -/
def readAllReports : Nat → Engine → Engine
  | 0, s => s
  | n + 1, s => readAllReports n (readReports s)

/-! ### Queries (R336, R340) -/

/-- The result record of R340. -/
def resultBytes (r : ResultRec) : List Byte :=
  leBytes 1 ((if r.valid then 1 else 0) + (if r.fresh then 2 else 0)) ++ leBytes 1 r.outcome ++ leBytes 1 r.detail ++ leBytes 1 0 ++
    leBytes 2 r.cells ++ leBytes 2 r.blinks ++ leBytes 8 r.reqSeq ++ timeBytes r.sec r.ns

/-- QUERY_ROUTE: an OUTCOME that is reported already is applied before the last result is read (R340). -/
def queryRouteBody : FlpBody := fun n m s =>
  let p := m.payload
  let first := leAt p 2 2
  let count := leAt p 4 2
  if p.length ≠ 8 then ends Flp.badLength s
  else if 1 < leAt p 0 1 ∨ leAt p 1 1 ≠ 0 ∨ leAt p 6 2 ≠ 0 ∨ 512 < count ∨ s.variant.ports < first + count then
    ends Flp.badField s
  else if leAt p 0 1 = 0 then
    (okData (wordBytes ((List.range count).map fun i => get0 s.rte.cur (first + i))), s.logFirmware count)
  else
    let s := readAllReports s.sch.outs.length s
    let x := s.session n
    (okData (resultBytes x.result), s.setSession n { x with result := { x.result with fresh := false } })

/-- The latest S⁺ and S⁻ results of an element, as their low halves; open for an element without a slot. -/
def latestPair (s : Engine) (e : Nat) : List Byte × Engine :=
  match laneSlotOf s e with
  | some (l, slot) =>
    let half (h : Nat) : List Byte := leBytes 2 (halfLo (get0 s.sns.results (resultAddr l slot h))).toNat
    (half 0 ++ half 1, s)
  | none => let (w, s) := s.freeWord; (leBytes 4 w.toNat, s)

def elementFlags (s : Engine) (e : Nat) : Word :=
  bitIf (s.drv.susp.contains e) 0 ||| bitIf (s.drv.rangeHold.any fun p => p.1 == e) 1 ||| bitIf ((frozenNow s).contains e) 2

/-- The 16 bytes of one element. -/
def elementBytes (acc : List Byte × Engine) (e : Nat) : List Byte × Engine :=
  let s := acc.2
  let (pair, s) := latestPair s e
  (acc.1 ++ wordBytes [get0 s.drv.active e, get0 s.drv.trims e, elementFlags s e] ++ pair, s)

def queryElementBody : FlpBody := fun _ m s =>
  let p := m.payload
  let first := leAt p 0 4
  let count := leAt p 4 2
  if p.length ≠ 8 then ends Flp.badLength s
  else if leAt p 6 2 ≠ 0 ∨ count = 0 ∨ 64 < count ∨ s.variant.elements < first + count then ends Flp.badField s
  else
    let (d, s) := ((List.range count).map (first + ·)).foldl elementBytes ([], s.logFirmware (5 * count))
    (okData d, s)

/-! ### Streams and the ledger (R261, R336, R338) -/

/-- Streams that tenants may not hold: FAULT and ENGINE_TELEMETRY. -/
def oprStreams : Nat := 2 + 32

def subscribeBody : FlpBody := fun n m s =>
  let p := m.payload
  let streams := leAt p 0 4
  let period := leAt p 4 2
  if p.length ≠ 8 then ends Flp.badLength s
  else if leAt p 6 2 ≠ 0 ∨ 64 ≤ streams ∨ period = 0 ∨ 60000 < period then ends Flp.badField s
  else if n ≠ 0 ∧ streams &&& oprStreams ≠ 0 then ends Flp.notPermitted s
  else (status Flp.ok, s.setSession n { s.session n with streams := streams, period := period, telemetryAt := s.tick })

/-- The tenant of a ring record. -/
def recordTenant (r : List Word) : Nat := fld (r.getD 0 0) 18 6

def ledgerReadBody : FlpBody := fun n m s =>
  let p := m.payload
  let count := leAt p 4 2
  let oldest := (s.fw.ringNext + 2 ^ 32 - s.fw.ring.length) % 2 ^ 32
  let k := (leAt p 0 4 + 2 ^ 32 - oldest) % 2 ^ 32
  if p.length ≠ 8 then ends Flp.badLength s
  else if leAt p 6 2 ≠ 0 ∨ count = 0 ∨ 1024 < count then ends Flp.badField s
  else if s.fw.ring.length ≤ k then ends Flp.notFound s
  else
    let mine (r : List Word) : Bool := n == 0 || recordTenant r == n.val - 1
    (okData ((((s.fw.ring.drop k).filter mine).take count).flatMap wordBytes), s)

def ledgerAckBody : FlpBody := fun _ m s =>
  let p := m.payload
  if p.length ≠ 8 then ends Flp.badLength s
  else if leAt p 4 4 ≠ 0 then ends Flp.badField s
  else match ringAck (leAt p 0 4) s with
    | some s' => (status Flp.ok, s')
    | none => ends Flp.notFound s

/-! ### Gate lists, modes and calibration (R229, R337) -/

/-- The pending list written and committed, and its validation. -/
def loadGates (p : List Byte) (s : Engine) : Engine :=
  let ws := wordsOf ((p.drop 24).take 4096)
  let s := s.setRegs [
    (Reg.schGlPendStartNs, wordAt p 0), (Reg.schGlPendStartSecLo, wordAt p 4), (Reg.schGlPendStartSecHi, wordAt p 8),
    (Reg.schGlPendCycle, wordAt p 12), (Reg.schGlPendLen, wordAt p 16)]
  let s := s.logFirmware (7 + 4 * (ws.length / 4))
  glValidationEnd { s with sch.pend := memWrites zeroWord s.sch.pend (ws.mapIdx fun i w => (i, w)), sch.validating := some s.tick }

/-- Whether an entry of the payload sets a reserved bit. -/
def reservedEntry (p : List Byte) (i : Nat) : Bool := fld (wordAt p (24 + 16 * i)) 26 6 != 0 || wordAt p (36 + 16 * i) != 0

def gateLoadBody : FlpBody := fun _ m s =>
  let p := m.payload
  let len := leAt p 16 4
  if p.length < 24 ∨ p.length ≠ 24 + 16 * len then ends Flp.badLength s
  else if 999999999 < leAt p 0 4 ∨ leAt p 20 4 ≠ 0 ∨ (List.range len).any (reservedEntry p) = true then ends Flp.badField s
  else if s.sch.locked.isSome ∨ s.sch.validating.isSome then ends Flp.busy s
  else
    let s' := loadGates p s
    if s'.sch.locked.isSome then
      ({ status := Flp.ok, detail := (if pendStart s' < s'.stamp 250 then 1 else 0), data := [] }, s')
    else ({ status := Flp.refused, detail := s'.rfld Reg.schGlStat 6 2, data := [] }, s')

/-- SYS_MODE_REQ written: whether the request is refused, and with which reason. -/
def askMode (m : Option Mode) (s : Engine) : Answer × Engine :=
  let s' := requestMode m ({ s with sys.refused := false }.logFirmware 2)
  if s'.sys.refused then ({ status := Flp.refused, detail := s'.sys.reason.val, data := [] }, s')
  else (status Flp.ok, { s' with sys.refused := s.sys.refused })

def modeReqBody : FlpBody := fun _ m s =>
  let p := m.payload
  if p.length ≠ 4 then ends Flp.badLength s
  else if 5 < leAt p 0 1 ∨ leAt p 1 3 ≠ 0 then ends Flp.badField s
  else askMode (modeOfCode (leAt p 0 1)) s

/-- A CAL_REQ accepted: its outcome is awaited. -/
def awaitCal (full : Bool) (m : HostMsg) (s : Engine) : Engine :=
  let ask : CalAsk := { full := full, hostSeq := m.seq.toNat, begun := false, ended := none }
  { s with fw.calAsks := s.fw.calAsks ++ [ask] }.logFirmware 2

def calReqBody : FlpBody := fun _ m s =>
  let p := m.payload
  let op := leAt p 0 1
  if p.length ≠ 4 then ends Flp.badLength s
  else if op = 0 ∨ 2 < op ∨ leAt p 2 2 ≠ 0 then ends Flp.badField s
  else if op = 1 then (status Flp.accepted, addPending (leAt p 1 1) (awaitCal false m s))
  else match fullRefusal s with
    | some reason => ({ status := Flp.refused, detail := reason, data := [] }, askFull (s.logFirmware 2))
    | none => (status Flp.accepted, askFull (awaitCal true m s))

/-! ### Images and keys (R337, R380, R381) -/

/-- The modes in which images and keys are taken. -/
def storeModes (s : Engine) : Bool := s.mode == .hold || s.mode == .calibrate || s.mode == .kennel

/-- Words added to a slot after dropping its commit record at offset 0. -/
def appendTiles (slot : Bool) (offset : Nat) (ws : List Word) (s : Engine) : Engine :=
  let x := slotOf s.nvm.img slot
  let old := if offset = 0 then { x with tiles := [], commit := none } else x
  { s with nvm.img := putSlot s.nvm.img slot { old with tiles := old.tiles ++ ws } }

/-- Whether the tiles from an offset in bytes on pass their check. -/
def newTilesOk (ws : List Word) (offset : Nat) : Bool :=
  (List.range (ws.length / 1024)).all fun t => decide (t < offset / 4096) || tileOk ws t

/-- The whole slot checked, and its commit record written with the next GEN. Where it fails the slot stays invalid, and a failure
of a tile or the signature is reported. -/
def commitImage (slot : Bool) (s : Engine) : Bool × Engine :=
  let x := slotOf s.nvm.img slot
  if imageValid s x.tiles then
    let gen := (nextSlot (imageCommit s s.nvm.img.1) (imageCommit s s.nvm.img.2) (s.nvm.img.1.tiles == s.nvm.img.2.tiles)).2
    (true, { s with nvm.img := putSlot s.nvm.img slot { x with commit := some (commitNow s gen) } })
  else (false, if authentic s x.tiles then s else s.raise 114 0)

/-- The load in progress given up: it starts again from OFFSET 0. -/
def dropLoad (c : Nat) (s : Engine) : Answer × Engine := ends c { s with nvm.load := none }

/-- A part whose place in the load is right. -/
def loadPart (offset : Nat) (final : Bool) (data : List Byte) (s : Engine) : Answer × Engine :=
  let slot := !s.nvm.imageSlot
  let s := appendTiles slot offset (wordsOf data) s
  if !newTilesOk (slotOf s.nvm.img slot).tiles offset then dropLoad Flp.refused (if final then s.raise 114 0 else s)
  else if !final then (status Flp.ok, { s with nvm.load := some { next := offset + data.length } })
  else
    let (good, s) := commitImage slot s
    dropLoad (if good then Flp.ok else Flp.refused) s

def imageLoadBody : FlpBody := fun _ m s =>
  let p := m.payload
  let data := p.drop 16
  let offset := leAt p 0 4
  let total := leAt p 4 4
  let final := leAt p 8 4 == 1
  let next := match s.nvm.load with | some l => l.next | none => 0
  let stop := offset + data.length
  if p.length < 16 + 4096 ∨ 16 + 61440 < p.length ∨ data.length % 4096 ≠ 0 then ends Flp.badLength s
  else if 1 < leAt p 8 4 ∨ leAt p 12 4 ≠ 0 ∨ total % 4096 ≠ 0 ∨ 1023 * 4096 < total then ends Flp.badField s
  else if !storeModes s then ends Flp.mode s
  else if (offset ≠ 0 ∧ offset ≠ next) ∨ (if final then stop ≠ total else total ≤ stop) then dropLoad Flp.badField s
  else loadPart offset final data s

/-- Number of a key slot as SLOT names it. -/
def keySlotOf (slot : Nat) : Option (Fin 66) :=
  if h : slot < 65 then some ⟨slot, by omega⟩ else if slot = 0xFF then some 65 else none

/-- Ports that a tenant owns now. -/
def portsOwned (s : Engine) (n : Nat) (isOut : Bool) : List Nat :=
  if n = 0 ∨ 65 ≤ n then [] else (List.range 512).filter (ownsPort s (n - 1) isOut)

/-- A key written to a slot; the ports that a tenant owns stay. -/
def writeKey (k : Fin 66) (key : List Word) (s : Engine) : Engine :=
  rebuildOwners s.nvm.image
    (putKey k { key := key, inputs := portsOwned s k.val false, outputs := portsOwned s k.val true } s)

/-- The number of a newly enrolled session starts again from 0. -/
def restartSession (k : Fin 66) (s : Engine) : Engine :=
  if h : k.val < 65 then acceptSeq ⟨k.val, h⟩ 0 s else s

/-- KEY_ENROLL with OP ENROLL. -/
def keyEnrollBody : FlpBody := fun _ m s =>
  let p := m.payload
  let key := wordsOf (p.drop 4)
  if leAt p 0 1 ≠ 0 ∨ leAt p 2 2 ≠ 0 then ends Flp.badField s
  else if p.length ≠ 68 then ends Flp.badLength s
  else match keySlotOf (leAt p 1 1) with
    | none => ends Flp.badField s
    | some k =>
      if k.val = 65 ∧ key.any (· != 0) = true then ends Flp.badField s
      else if !storeModes s then ends Flp.mode s
      else if k.val = 65 then
        let new := Config.freeKey s.freeCtr
        (okData (wordBytes new), writeKey k new { s with freeCtr := s.freeCtr + 1 })
      else (status Flp.ok, restartSession k (writeKey k key s))

/-- The connections of revoked keys closed at the end of a cycle (R337). -/
def closeRevoked (s : Engine) : Engine := s.fw.closing.foldl (fun s n => closeSession n s) { s with fw.closing := [] }

/-- KEY_ENROLL with OP REVOKE: of a tenant's slot only. Its connection closes at the end of the cycle. -/
def keyRevokeBody : FlpBody := fun _ m s =>
  let p := m.payload
  let slot := leAt p 1 1
  if p.length ≠ 4 then ends Flp.badLength s
  else if leAt p 2 2 ≠ 0 ∨ slot = 0 then ends Flp.badField s
  else if h : slot < 65 then
    if !storeModes s then ends Flp.mode s
    else
      let s := writeKey ⟨slot, by omega⟩ (List.replicate 16 0) s
      (status Flp.ok, { s with fw.closing := s.fw.closing ++ [⟨slot, h⟩] })
  else ends Flp.badField s

/-- Ports of a bitmap. -/
def portMap (p : List Byte) (at_ : Nat) : List Nat :=
  (List.range 512).filter fun i => (leAt p (at_ + i / 8) 1).testBit (i % 8)

/-- Whether a port carries, or has queued, a connection of a tenant. -/
def portUsed (s : Engine) (t : Nat) (isOut : Bool) (p : Nat) : Bool :=
  let carries (m : Mem) : Bool := (List.range s.variant.ports).any fun i =>
    let w := get0 m i
    mapConn w && mapTenant w == t && (if isOut then mapOut w == p else i == p)
  let asks (r : SchReq) : Bool :=
    (r.op == 1 && reqTenant r == t && (if isOut then reqOutput r == p else reqInput r == p)) || (r.op == 3 && carries s.rte.target)
  carries s.rte.cur || carries s.rte.base || s.sch.queue.any asks || (s.sch.issued.any fun i => asks i.req) ||
    (s.sch.commit.any fun c => asks c.req)

/-- Whether another tenant owns a port. -/
def ownedByOther (s : Engine) (t : Nat) (isOut : Bool) (p : Nat) : Bool :=
  (List.range 64).any fun o => o != t && ownsPort s o isOut p

def keyOwnBody : FlpBody := fun _ m s =>
  let p := m.payload
  let slot := leAt p 1 1
  let ins := portMap p 4
  let outs := portMap p 68
  if p.length ≠ 132 then ends Flp.badLength s
  else if leAt p 2 2 ≠ 0 ∨ slot = 0 ∨ (ins ++ outs).any (fun i => decide (s.variant.ports ≤ i)) = true then ends Flp.badField s
  else if h : slot < 65 then
    let t := slot - 1
    let k : Fin 66 := ⟨slot, by omega⟩
    let lost (isOut : Bool) (new : List Nat) : List Nat := (portsOwned s slot isOut).filter fun i => !new.contains i
    if !storeModes s then ends Flp.mode s
    else if ins.any (ownedByOther s t false) || outs.any (ownedByOther s t true) then ends Flp.owned s
    else if (lost false ins).any (portUsed s t false) || (lost true outs).any (portUsed s t true) then ends Flp.portInUse s
    else
      let key := if (keyOf s k).isEmpty then List.replicate 16 0 else keyOf s k
      (status Flp.ok, rebuildOwners s.nvm.image (putKey k { key := key, inputs := ins, outputs := outs } s))
  else ends Flp.badField s

/-! ### Faults (R336, R348, R356, R362) -/

/-- FLT_STICKY, FLT_CONSEQ, and FLT_CAP_STAT to FLT_CAP_NS. -/
def faultWords (s : Engine) : List Word :=
  ((List.range 4).map fun w => s.reg (Reg.fltSticky w)) ++ ((List.range 4).map fun w => s.reg (Reg.fltConseq w)) ++
    [s.reg Reg.fltCapStat, s.reg Reg.fltCapInfo, s.reg Reg.fltCapAddr, s.reg Reg.fltCapSecLo, s.reg Reg.fltCapSecHi,
     s.reg Reg.fltCapNs]

/-- The sticky bits and the capture cleared. -/
def clearFaults (s : Engine) : Engine :=
  (s.setRegs ((List.range 4).map fun w => (Reg.fltSticky w, 0))).putRbit Reg.fltCapStat 31 false

def faultReadBody (clear : Bool) : FlpBody := fun _ m s =>
  let p := m.payload
  if p.length ≠ 4 then ends Flp.badLength s
  else if 1 < leAt p 0 1 ∨ leAt p 1 3 ≠ 0 then ends Flp.badField s
  else (okData (wordBytes (faultWords s)), if clear then clearFaults (s.logFirmware 19) else s.logFirmware 14)

/-! ### The register window (R342) -/

/-- The bus as the window drives it: from the active member, in the non-secure state. -/
def windowBus : Bus := { master := .flp, secure := false }

def windowReads (a : Nat) : Bool := decoded a && !inKeyArea a

def windowWrites (a : Nat) : Bool :=
  (inBlocks a && !inPak a && !decide (Reg.nvm ≤ a ∧ a < Reg.pak)) || inLps a

/-- Registers of the secure owner: comparator 0, the TOUT outputs and their asymmetry constants, and the reactions (R253, R254, R351). -/
def secureOnly (a : Nat) : Bool :=
  decide (Reg.fltReact 0 ≤ a ∧ a ≤ Reg.fltReact 127) ||
  decide (Reg.timCmpCtl 0 ≤ a ∧ a < Reg.timCmpCtl 1) || decide (Reg.timToutCtl 0 ≤ a ∧ a < Reg.timToutCtl 4) ||
    decide (Reg.timAsymTout 0 ≤ a ∧ a < Reg.timAsymTout 4)

/-- One word read, with the side effects of its read. -/
def windowRead (acc : List Word × Engine) (a : Nat) : List Word × Engine :=
  let s := busRead windowBus a (acc.2.logFirmware 1)
  (acc.1 ++ [get0 s.rdata (masterNo .flp)], s)

def regReadBody : FlpBody := fun _ m s =>
  let p := m.payload
  let count := leAt p 4 2
  let addrs := (List.range count).map fun i => leAt p 0 4 + 4 * i
  if p.length ≠ 8 then ends Flp.badLength s
  else if leAt p 6 2 ≠ 0 ∨ count = 0 ∨ 256 < count ∨ leAt p 0 4 % 4 ≠ 0 ∨ addrs.all windowReads = false then ends Flp.badField s
  else
    let (ws, s) := addrs.foldl windowRead ([], s)
    (okData (wordBytes ws), s)

/-- Modes in which the window writes. -/
def windowOpen (s : Engine) : Bool := storeModes s || (s.mode == .run && s.rbit Reg.mgtCtl 0)

def regWriteBody : FlpBody := fun _ m s =>
  let p := m.payload
  let a := leAt p 0 4
  if p.length ≠ 8 then ends Flp.badLength s
  else if a % 4 ≠ 0 ∨ windowWrites a = false then ends Flp.badField s
  else if !windowOpen s then ends Flp.mode s
  else ({ status := Flp.ok, detail := (if secureOnly a then 1 else 0), data := [] }, busWrite windowBus .word a (wordAt p 4) (s.logFirmware 1))

/-! ### The rows -/

def connect : Fin 65 → HostMsg → Engine → Engine := flpMessage 0x01 true false (connectBody 1)
def disconnect : Fin 65 → HostMsg → Engine → Engine := flpMessage 0x02 true false (connectBody 2)
def flpPermute : Fin 65 → HostMsg → Engine → Engine := flpMessage 0x03 true true permuteBody
def flpPin : Fin 65 → HostMsg → Engine → Engine := flpMessage 0x04 true true (pinBody 4)
def flpUnpin : Fin 65 → HostMsg → Engine → Engine := flpMessage 0x04 true true (pinBody 5)
def queryRoute : Fin 65 → HostMsg → Engine → Engine := flpMessage 0x05 true false queryRouteBody
def queryElement : Fin 65 → HostMsg → Engine → Engine := flpMessage 0x06 true true queryElementBody
def subscribe : Fin 65 → HostMsg → Engine → Engine := flpMessage 0x07 true false subscribeBody
def ledgerRead : Fin 65 → HostMsg → Engine → Engine := flpMessage 0x08 true false ledgerReadBody
def ledgerAck : Fin 65 → HostMsg → Engine → Engine := flpMessage 0x09 true true ledgerAckBody
def gateLoad : Fin 65 → HostMsg → Engine → Engine := flpMessage 0x0A true true gateLoadBody
def modeReq : Fin 65 → HostMsg → Engine → Engine := flpMessage 0x0B true true modeReqBody
def calReq : Fin 65 → HostMsg → Engine → Engine := flpMessage 0x0C true true calReqBody
def imageLoad : Fin 65 → HostMsg → Engine → Engine := flpMessage 0x0D true true imageLoadBody
def keyEnroll : Fin 65 → HostMsg → Engine → Engine := flpMessage 0x0E true true keyEnrollBody
def keyRevoke : Fin 65 → HostMsg → Engine → Engine := flpMessage 0x0E true true keyRevokeBody
def keyOwn : Fin 65 → HostMsg → Engine → Engine := flpMessage 0x0E true true keyOwnBody
def faultRead : Fin 65 → HostMsg → Engine → Engine := flpMessage 0x0F true true (faultReadBody false)
def faultReadClear : Fin 65 → HostMsg → Engine → Engine := flpMessage 0x0F true true (faultReadBody true)
def regRead : Fin 65 → HostMsg → Engine → Engine := flpMessage 0x10 true true regReadBody
def regWrite : Fin 65 → HostMsg → Engine → Engine := flpMessage 0x11 true true regWriteBody

/-- A message whose TYPE is no command code. -/
def flpUnknownType (n : Fin 65) (type : Byte) (m : HostMsg) (s : Engine) : Engine :=
  flpMessage type.toNat false false (fun _ _ s => ends Flp.badType s) n m s

end Sys2Proof.Machine
end

