-- ==== Sys2Proof/Machine/Notify.lean ====
section
/-! DEFINITION. FLP notifications and telemetry (R338, R340). -/

namespace Sys2Proof.Machine

open Sys2Proof

/-! ### Notifications -/

/-- A session's waiting notifications of one type sent, oldest first. -/
def sendWaiting (type : Nat) (s : Engine) (n : Fin 65) : Engine :=
  let x := s.session n
  if !x.tls then s
  else
    let s := s.setSession n { x with notes := x.notes.filter fun o => o.type != type }
    (x.notes.filter fun o => o.type == type).foldl (fun s o => send n type 2 o.payload false s) s

/-- The firmware of the ACTIVE member sends what waits. -/
def sendNotes (type : Nat) (s : Engine) : Engine :=
  s.onlyIf (sessionsOpen s && s.activeMember.isSome) fun s => (List.finRange 65).foldl (sendWaiting type) s

/-- A CAL_REQ that has ended. -/
def endCalAsk (s : Engine) (a : CalAsk) : Engine :=
  match a.ended with
  | some (outcome, sec, ns) => keepFor 0 0x40 (outcomeBytes a.hostSeq (16 + outcome) 0 sec ns) s
  | none => s

/-- OUTCOME: once per ACCEPTED command, after its end is reported. -/
def outcomeNotify (s : Engine) : Engine :=
  s.onlyIf (s.mode ≠ .reset && s.activeMember.isSome) fun s =>
    let done := s.fw.calAsks.filter fun a => a.ended.isSome
    let s := done.foldl endCalAsk { s with fw.calAsks := s.fw.calAsks.filter fun a => a.ended.isNone }
    sendNotes 0x40 (readReports s)

/-- The lowest pending NOTE_t input. -/
def pendingNote (s : Engine) : Option Nat :=
  (List.range 64).find? fun t => s.rbit (if t < 32 then Reg.evtNotePendLo else Reg.evtNotePendHi) (t % 32)

/-- NOTE: the firmware forwards a delivery to the tenant's session, and frees the input. -/
def noteNotify (s : Engine) : Engine :=
  s.onlyIf (s.mode ≠ .reset && s.activeMember.isSome) fun s =>
    let s := match pendingNote s with
      | none => s
      | some t =>
        let got := s.evt.notes.find? fun x => x.1 == t
        let s := clearPending (if t < 32 then Reg.evtNotePendLo else Reg.evtNotePendHi) (if t < 32 then 0x80 else 0xA0)
          (word (2 ^ (t % 32))) s
        match got with
        | some (_, n, sec, ns) => s.noteTo (Fin.ofNat 65 (t + 1)) 0 0x41 (leBytes 4 n ++ timeBytes sec ns)
        | none => s
    sendNotes 0x41 s

def faultNotify : Engine → Engine := sendNotes 0x42

/-- LEDGER: highest SEQ, records waiting and LEDGER_OVF. -/
def ledgerNotify (s : Engine) : Engine :=
  s.onlyIf (s.mode ≠ .reset && s.activeMember.isSome) fun s =>
    let payload := leBytes 4 ((s.fw.ringNext + 2 ^ 32 - 1) % 2 ^ 32) ++ leBytes 4 s.fw.ring.length ++
      leBytes 4 (if s.rbit Reg.timLedStat 16 then 1 else 0)
    let s := if s.fw.ledgerDue then
      (List.finRange 65).foldl (fun (s : Engine) n => s.noteTo n 2 0x43 payload) { s with fw.ledgerDue := false } else s
    sendNotes 0x43 s

def modeNotify : Engine → Engine := sendNotes 0x44

/-! ### Telemetry (R330, R338) -/

/-- A payload sent over DTLS in messages of at most 1,200 bytes with their headers, each of whole records, MORE on all but the
last. -/
def sendDatagrams (n : Fin 65) (type : Nat) : List (List Byte) → Engine → Engine
  | [], s => s
  | [d], s => send n type 0 d true s
  | d :: ds, s => sendDatagrams n type ds (send n type 4 d true s)

/-- Records cut into groups. -/
def groups (size : Nat) : Nat → List (List Byte) → List (List Byte)
  | 0, _ => []
  | fuel + 1, l => if l.isEmpty then [] else (l.take size).flatten :: groups size fuel (l.drop size)

/-- Latest result of port monitor m (R112). -/
def monitorWord (s : Engine) (m : Nat) : Word := get0 s.sns.results (resultAddr (512 + m / 64) (m % 64) 0)

/-- Whether 10^(n/1000) is at most a power in milliwatts. -/
def dbmAtMost (n : Int) (mw : Rat) : Bool :=
  decide ((10 : Rat) ^ n.toNat ≤ mw ^ 1000 * (10 : Rat) ^ (-n).toNat)

/-- The greatest n from `lo` on, within 2^fuel, for which 10^(n/1000) is at most a power: its whole hundredths of a dBm. -/
def dbmFloor (mw : Rat) : Nat → Int → Int
  | 0, lo => lo
  | fuel + 1, lo => dbmFloor mw fuel (if dbmAtMost (lo + 2 ^ fuel) mw then lo + 2 ^ fuel else lo)

/-- A power in 0.01 dBm; its rounding is open, and so is the value for a power of nothing (log 72). -/
def centiDbm (mw : Rat) (s : Engine) : Half × Engine :=
  if mw ≤ 0 then let (w, s) := s.freeWord; (halfLo w, s)
  else
    let n := dbmFloor mw 14 (-12288)
    let exact := decide ((10 : Rat) ^ n.toNat = mw ^ 1000 * (10 : Rat) ^ (-n).toNat)
    let up := !exact && Config.freeRound s.freeCtr
    (BitVec.ofInt 16 (if up then n + 1 else n), { s with freeCtr := s.freeCtr + 1 })

/-- Input tap power of a port in plane p: its tap's current and its tap scale give the power (R113, R175). -/
def tapField (port p : Nat) (s : Engine) : Half × Engine :=
  let m := p * s.variant.ports + port
  let uw : Rat := (halfPicoamps (monitorWord s m) : Rat) / 2000000 * ((fld (calWord s.cal.live.words 2 m) 16 16 : Rat) / 256)
  centiDbm (uw / 1000) s

/-- Output pilot sum of a port in plane p, in nA (R113); its rounding is open, and so is a sum that 16 bits do not hold (log 72). -/
def pilotField (port p : Nat) (s : Engine) : Half × Engine :=
  let (n, s) := freeQuot (halfPicoamps (monitorWord s ((2 + p) * s.variant.ports + port))) 2000 s
  if 0 ≤ n ∧ n ≤ 65535 then (BitVec.ofInt 16 n, s) else let (w, s) := s.freeWord; (halfLo w, s)

/-- The two bytes of a field, or zeros for a side of the port that the session does not see. -/
def fieldBytes (on : Bool) (f : Engine → Half × Engine) (s : Engine) : List Byte × Engine :=
  if on then let (h, s) := f s; (leBytes 2 h.toNat, s) else (leBytes 2 0, s)

/-- One port's record. A tenant sees the side of the port that it owns. -/
def portRecord (inSide outSide : Bool) (port : Nat) (s : Engine) : List Byte × Engine :=
  let here := (List.range s.variant.ports).filter fun i =>
    let w := get0 s.rte.cur i
    mapConn w && ((inSide && i == port) || (outSide && mapOut w == port))
  let pinned := here.any fun i => mapPinned (get0 s.rte.cur i)
  let (x, s) := fieldBytes inSide (tapField port 0) s
  let (y, s) := fieldBytes inSide (tapField port 1) s
  let (px, s) := fieldBytes outSide (pilotField port 0) s
  let (py, s) := fieldBytes outSide (pilotField port 1) s
  (leBytes 2 port ++ x ++ y ++ px ++ py ++ leBytes 2 ((if here.isEmpty then 0 else 1) + (if pinned then 2 else 0)), s)

/-- The records of a list of ports. -/
def portRecords (sees : Bool → Nat → Bool) : List Nat → Engine → List (List Byte) × Engine
  | [], s => ([], s)
  | p :: ps, s =>
    let (r, s) := portRecord (sees false p) (sees true p) p s
    let (rs, s) := portRecords sees ps s
    (r :: rs, s)

/-- PORT_TELEMETRY of a session. -/
def portTelemetry (n : Fin 65) (s : Engine) : Engine :=
  let side (isOut : Bool) (p : Nat) : Bool := n == 0 || ownsPort s (n.val - 1) isOut p
  let ports := (List.range s.variant.ports).filter fun p => side false p || side true p
  let (records, s) := portRecords side ports s
  sendDatagrams n 0x60 (groups recordsPerDatagram (ports.length + 1) records) s

/-- ENGINE_TELEMETRY. -/
def engineTelemetry (n : Fin 65) (s : Engine) : Engine :=
  let words := [Reg.sysMode, Reg.thmTj, Reg.pwrTotal, Reg.pwrAllotEff, Reg.pwrEbktLevel, Reg.timStat, Reg.pakRole, Reg.calStat].map
    (peek s windowBus)
  send n 0x61 0 (wordBytes words) true s

/-- Every PERIOD_MS the streams that a session has subscribed to are sent. -/
def telemetryPeriod (n : Fin 65) (s : Engine) : Engine :=
  let x := s.session n
  s.onlyIf (sessionsOpen s && s.activeMember.isSome && x.tls && x.dtls && decide (x.telemetryAt + x.period * 250000 ≤ s.tick)) fun s =>
    let s := s.setSession n { x with telemetryAt := s.tick }
    let s := if x.streams.testBit 4 then portTelemetry n s else s
    if x.streams.testBit 5 then engineTelemetry n s else s

end Sys2Proof.Machine
end

