-- ==== Sys2Proof/Machine/Tick.lean ====
section
/-! DEFINITION. The TICK edge: time and elapsed counter time advance (R242, R245), what an earlier TICK has left for this one takes
effect, a lock that a Whistle ends is released (R91), the FIRED report of the edge before is written (R236), the model's node
temperatures are published (R281), and a Pack boundary is stamped (R305). -/

namespace Sys2Proof.Machine

open Sys2Proof

/-- The FIRED report is written on edge W + 1, with the time of W. -/
def flushFired (s : Engine) : Engine :=
  match s.sch.fired with
  | some (w, r, ns) => if w < s.tick then reportAt ns { s with sch.fired := none } 1 0 r else s
  | none => s

/-- THM_NODE shows the words formed on the update edge before (R281). -/
def publishNodes (s : Engine) : Engine :=
  match s.pwr.published with
  | [] => s
  | ws => { s with pwr.published := [] }.setRegs (ws.mapIdx fun i w => (Reg.thmNode i, w))

/-- A boundary's time is latched on its edge (R305). -/
def stampBoundary (s : Engine) : Engine :=
  if s.tick = s.pak.boundary + 25000 * (s.pak.stamps.length + 1) then { s with pak.stamps := s.pak.stamps ++ [s.time] } else s

/-- A write held through a swap boundary, into the half that is inactive now (R23). -/
def applyHalf (w : HalfWrite) (s : Engine) : Engine :=
  match w with
  | .bank k _ a _ v => s.onLp k fun x => x.putBank (!x.bankActive) a v
  | .cal key _ v => shadowWrite s key v
  | .pend a v => s.onlyIf s.pendOpen (pendStore a v)
  | .swapAgain _ => s
  | .applyAgain => s

/-- What an earlier TICK has left for this edge. -/
def applyDue (s : Engine) (d : Due) : Engine :=
  match d with
  | .half w => applyHalf w s
  | .pt m v => { s with pt := put0 s.pt m v }
  | .rail w => s.onlyIf (s.rbit Reg.drvCtl 2) (applyRail w)
  | .promo k i v => s.onLp k fun x => x.promote i v
  | .trim k loc turn v => s.onLp k fun x => x.queueTrim loc turn v
  | .react r => react r s
  | .chip i => chipAsked i s
  | .nmi => raiseNmi s
  | .submit r ns late => submitLate r ns late s
  | .schEn => startIssuing s
  | .timSrc v => selectSrc v s
  | .inject i => s.raise i 0

/-- The edge's own work outside RESET. -/
def edgeWork (s : Engine) : Engine :=
  let s := publishNodes (flushFired (settleLock (stampBoundary s)))
  chipDeadline (s.due.foldl applyDue { s with due := [] })

/-- What a TICK edge does with nothing commanded: the pins follow the state that the edge before left (R352). -/
def nextEdge (s : Engine) : Engine :=
  let s := { tickEdge (drivePins s) with turn := 0, halfWrites := [] }
  if s.mode = .reset then { s with due := [] } else edgeWork s

end Sys2Proof.Machine
end

