-- ==== Sys2Proof/Machine/Bus.lean ====
section
/-! DEFINITION. What the two members do: the accesses of the supervisor bus and the work of their firmware; when in a TICK each is taken
(R16, R304, R339), how the access log holds it (R306), how a replay and a follower match it (R313, R318), and its meaning. -/

namespace Sys2Proof.Machine

open Sys2Proof

/-! ### The order of a TICK (R16, R304, R339) -/

/-- The place of an access in its TICK: member A and the FLP window come before member B (R304). -/
def turnOf (b : Bus) : Nat :=
  match b.master with
  | .memberB => 1
  | _ => 0

/-- The state in which an access is taken: one that comes after its place in the present TICK begins the next one. -/
def State.onTurn (s : State) (k : Nat) : State := if s.eng.turn ≤ k then s else { s with eng := nextEdge s.eng }

/-- The outcome of an access taken at a place in the TICK. -/
def State.runAt (s : State) (k : Nat) (f : Engine → Engine) : Host.Outcome State Fault Refusal :=
  .next { s with eng := { f (s.onTurn k).eng with turn := k } }

/-! ### The commands that access the bus -/

/-- A command of a member: its master, the accesses that it makes outside the member's own SRAM and the boot ROM, and its effect. The value
of a read is filled in when it is made. -/
structure BusCmd where
  bus : Bus
  accesses : List LogEntry
  effect : Engine → Engine

/-- An access that is logged where it leaves the member. -/
def outside (a : Nat) (e : LogEntry) : List LogEntry := if inRom a || inSram a then [] else [e]

/-- The six writes of a submission (R216). -/
def submission (cmd : Word) (q : SubmitWords) : List LogEntry :=
  [(0, cmd), (1, word q.requester.val), (2, word q.dlNs.toNat), (3, q.dlSec), (4, q.seqLo), (5, q.seqHi)].map fun p =>
    .write .word (Reg.schReq p.1) p.2

/-- The temperature limits as THM_LIMIT_WRITE numbers them. -/
def thmLimit (which : Fin 3) : Nat := match which with | 0 => Reg.thmLimCold | 1 => Reg.thmLimHot | 2 => Reg.thmLimSd

/-- What a row of the bus does. DESIGN CHOICE (log 66): a row that names one field of a register writes the other fields as 0. -/
def busOf (c : Instr) : Option BusCmd :=
  match c with
  | .refChange b v => some { bus := b, accesses := [.write .word Reg.sysClkCtl v], effect := refChange b v }
  | .rteAdd b input output tenant => some { bus := b, accesses := [.write .word Reg.rteCmd (routeWord 1 input output tenant)], effect := directRoute b (routeWord 1 input output tenant) }
  | .rteRemove b input output => some { bus := b, accesses := [.write .word Reg.rteCmd (routeWord 2 input output 0)], effect := directRoute b (routeWord 2 input output 0) }
  | .rtePermute b => some { bus := b, accesses := [.write .word Reg.rteCmd (routeWord 3 0 0 0)], effect := directRoute b (routeWord 3 0 0 0) }
  | .rtePin b input output => some { bus := b, accesses := [.write .word Reg.rteCmd (routeWord 4 input output 0)], effect := directRoute b (routeWord 4 input output 0) }
  | .rteUnpin b input => some { bus := b, accesses := [.write .word Reg.rteCmd (routeWord 5 input 0 0)], effect := directRoute b (routeWord 5 input 0 0) }
  | .rteBadOp b op => some { bus := b, accesses := [.write .word Reg.rteCmd (routeWord op 0 0 0)], effect := directRoute b (routeWord op 0 0 0) }
  | .rteAbort b => some { bus := b, accesses := [.write .word Reg.rteCtl 1], effect := routeAbort b }
  | .drvResume b v => some { bus := b, accesses := [.write .word Reg.drvResume v], effect := drvResume b v }
  | .drvFltFifoRead b => some { bus := b, accesses := [.read Reg.drvFltFifo 0], effect := busRead b Reg.drvFltFifo }
  | .scentCtlWrite b g v => some { bus := b, accesses := [.write .word (Reg.drvScentCtl g) v], effect := scentCtlWrite b g v }
  | .laneCfgWrite b l v => some { bus := b, accesses := [.write .word (Reg.snsLaneCfg l) v], effect := laneCfgWrite b l v }
  | .lpEnClear b k => some { bus := b, accesses := [.write .word (Reg.lpCtl k) 0], effect := lpEnClear b k }
  | .lpEnSet b k => some { bus := b, accesses := [.write .word (Reg.lpCtl k) 1], effect := lpEnSet b k }
  | .lpStep b c => some { bus := b, accesses := [.write .word (Reg.lpCtl c.k) 2], effect := lpStep b c }
  | .cbankSwapReq b k => some { bus := b, accesses := [.write .word (Reg.lpCbank k) 2], effect := cbankSwapReq b k }
  | .gswapCommit b v => some { bus := b, accesses := [.write .word Reg.lpGswapHi v], effect := gswapCommit b v }
  | .calApply b => some { bus := b, accesses := [.write .word Reg.calCtl 2], effect := calApply b }
  | .calAbort b => some { bus := b, accesses := [.write .word Reg.calCtl 4], effect := calAbort b }
  | .calRecal b regions => some { bus := b, accesses := [.write .word Reg.calCmd (putFld 1 8 8 regions.toNat)], effect := calRecal b regions }
  | .calFull b => some { bus := b, accesses := [.write .word Reg.calCmd 2], effect := calFull b }
  | .calDataWrite b v => some { bus := b, accesses := [.write .word Reg.calData v], effect := calDataWrite b v }
  | .calDataRead b => some { bus := b, accesses := [.read Reg.calData 0], effect := busRead b Reg.calData }
  | .submitAdd b input output tenant q => some { bus := b, accesses := submission (routeWord 1 input.val output.val tenant.val) q, effect := submit b (routeWord 1 input.val output.val tenant.val) q }
  | .submitRemove b input output q => some { bus := b, accesses := submission (routeWord 2 input.val output.val 0) q, effect := submit b (routeWord 2 input.val output.val 0) q }
  | .submitPermute b q => some { bus := b, accesses := submission (routeWord 3 0 0 0) q, effect := submit b (routeWord 3 0 0 0) q }
  | .submitPin b input output q => some { bus := b, accesses := submission (routeWord 4 input.val output.val 0) q, effect := submit b (routeWord 4 input.val output.val 0) q }
  | .submitUnpin b input q => some { bus := b, accesses := submission (routeWord 5 input.val 0 0) q, effect := submit b (routeWord 5 input.val 0 0) q }
  | .tbRateWrite b t v => some { bus := b, accesses := [.write .word (Reg.schTbRate t) v], effect := tbRateWrite b t v }
  | .tbBurstWrite b t v => some { bus := b, accesses := [.write .word (Reg.schTbBurst t) v], effect := tbBurstWrite b t v }
  | .glCommit b discard => some { bus := b, accesses := [.write .word Reg.schGlCmd (if discard then 3 else 1)], effect := glCommand b discard true }
  | .glDiscard b => some { bus := b, accesses := [.write .word Reg.schGlCmd 2], effect := glCommand b true false }
  | .glStartNsWrite b v => some { bus := b, accesses := [.write .word Reg.schGlPendStartNs v], effect := glStartNsWrite b v }
  | .schCancel b => some { bus := b, accesses := [.write .word Reg.schCtl 2], effect := schCancel b }
  | .schEnWrite b en => some { bus := b, accesses := [.write .word Reg.schCtl (wordOfBool en)], effect := schEnWrite b en }
  | .schOutRead b => some { bus := b, accesses := [.read (Reg.schOut 3) 0], effect := busRead b (Reg.schOut 3) }
  | .timRateWrite b v => some { bus := b, accesses := [.write .word Reg.timRateHi v], effect := timRateWrite b v }
  | .timAdjust b v => some { bus := b, accesses := [.write .word Reg.timAdjNs v], effect := timAdjust b v }
  | .timSet b v => some { bus := b, accesses := [.write .word Reg.timSetNs v], effect := timSet b v }
  | .nowCapture b => some { bus := b, accesses := [.read Reg.timNowSecLo 0], effect := busRead b Reg.timNowSecLo }
  | .timSrcWrite b v => some { bus := b, accesses := [.write .word Reg.timCtl (word v)], effect := timSrcWrite b v }
  | .cmpArm b c periodic => some { bus := b, accesses := [.write .word (Reg.timCmpCtl c) (bitIf periodic 1 ||| 1)], effect := cmpArm b c periodic }
  | .cmpDisarm b c periodic => some { bus := b, accesses := [.write .word (Reg.timCmpCtl c) (bitIf periodic 1)], effect := cmpDisarm b c periodic }
  | .cmpNsWrite b c v => some { bus := b, accesses := [.write .word (Reg.timCmpNs c) v], effect := cmpNsWrite b c v }
  | .toutEnable b k pol periodic => some { bus := b, accesses := [.write .word (Reg.timToutCtl k) (bitIf pol 2 ||| bitIf periodic 1 ||| 1)], effect := toutEnable b k pol periodic }
  | .toutNsWrite b k v => some { bus := b, accesses := [.write .word (Reg.timToutNs k) v], effect := toutNsWrite b k v }
  | .ledgerFifoRead b => some { bus := b, accesses := [.read (Reg.timLedFifo 4) 0], effect := busRead b (Reg.timLedFifo 4) }
  | .ledgerTake b t => some { bus := b, accesses := [.write .word Reg.timLedTake (word t)], effect := ledgerTake b t }
  | .evtCfgRequest b v => some { bus := b, accesses := [.write .word Reg.evtCfgReq v], effect := evtCfgRequest b v }
  | .hostTrigger b v => some { bus := b, accesses := [.write .word Reg.evtSwTrig (word v.toNat)], effect := hostTrigger b v }
  | .sdClear b v => some { bus := b, accesses := [.write .word Reg.thmCtl v], effect := sdClear b v }
  | .ebktCapWrite b v => some { bus := b, accesses := [.write .word Reg.pwrEbktCap v], effect := ebktCapWrite b v }
  | .thmLimitWrite b which v => some { bus := b, accesses := [.write .word (thmLimit which) v], effect := thmLimitWrite b which v }
  | .seqDraw b => some { bus := b, accesses := [.read Reg.pakSeqLo 0], effect := busRead b Reg.pakSeqLo }
  | .seqBaseLoad b v => some { bus := b, accesses := [.write .word Reg.pakSeqBaseHi v], effect := seqBaseLoad b v }
  | .swapReq b => some { bus := b, accesses := [.write .word Reg.pakCtl 2], effect := swapReq b }
  | .ptpTxStampRead b => some { bus := b, accesses := [.read Reg.mgtPtpTxSecLo 0], effect := busRead b Reg.mgtPtpTxSecLo }
  | .mdioStart b v => some { bus := b, accesses := [.write .word Reg.mgtMdio v], effect := mdioStart b v }
  | .phyModeWrite b v => some { bus := b, accesses := [.write .word Reg.mgtPhyCtl v], effect := phyModeWrite b v }
  | .resultRead b r => some { bus := b, accesses := [.read (resultRegAddr r) 0], effect := busRead b (resultRegAddr r) }
  | .splitLowRead b a => some { bus := b, accesses := outside a.toNat (.read a.toNat 0), effect := busRead b a.toNat }
  | .splitHighWrite b a v => some { bus := b, accesses := outside a.toNat (.write .word a.toNat v), effect := busWrite b .word a.toNat v }
  | .faultInject b i => some { bus := b, accesses := [.write .word Reg.fltInject (word i)], effect := faultInject b i }
  | .nmiDone b v => some { bus := b, accesses := [.write .word Reg.fltCtl (word (v.val + 8))], effect := fltCtlWrite b (word (v.val + 8)) }
  | .errRelease b v => some { bus := b, accesses := [.write .word Reg.fltCtl (word (v.val + 4))], effect := fltCtlWrite b (word (v.val + 4)) }
  | .reactWrite b i v => some { bus := b, accesses := [.write .word (Reg.fltReact i) v], effect := reactWrite b i v }
  | .captureClear b => some { bus := b, accesses := [.write .word Reg.fltCapStat 0x80000000], effect := captureClear b }
  | .nvmRecordRead b => some { bus := b, accesses := [.write .word Reg.nvmRecCmd 1], effect := recordCommand b false }
  | .nvmRecordWrite b => some { bus := b, accesses := [.write .word Reg.nvmRecCmd 2], effect := recordCommand b true }
  | .mramScrubStart b => some { bus := b, accesses := [.write .word Reg.nvmCtl 1], effect := mramScrubStart b }
  | .keyAreaRead b slot w => some { bus := b, accesses := [.read (Reg.nvmKey slot.val w.val) 0], effect := busRead b (Reg.nvmKey slot.val w.val) }
  | .sysModeReqReset b => some { bus := b, accesses := [.write .word Reg.sysModeReq 0], effect := modeRequest b (some .reset) }
  | .sysModeReqLoad b => some { bus := b, accesses := [.write .word Reg.sysModeReq 1], effect := modeRequest b (some .load) }
  | .sysModeReqCalibrate b => some { bus := b, accesses := [.write .word Reg.sysModeReq 2], effect := modeRequest b (some .calibrate) }
  | .sysModeReqHold b => some { bus := b, accesses := [.write .word Reg.sysModeReq 3], effect := modeRequest b (some .hold) }
  | .sysModeReqRun b => some { bus := b, accesses := [.write .word Reg.sysModeReq 4], effect := modeRequest b (some .run) }
  | .sysModeReqKennel b => some { bus := b, accesses := [.write .word Reg.sysModeReq 5], effect := modeRequest b (some .kennel) }
  | .registerWrite b width a v => some { bus := b, accesses := outside a.toNat (.write width a.toNat v), effect := busWrite b width a.toNat v }
  | .txQueueOffer sender session type flags seq payload =>
    some { bus := { master := if sender then .memberB else .memberA, secure := false },
           accesses := [.offer { msgOf sender session type flags seq payload with sender := 0 }],
           effect := txQueueOffer { master := if sender then .memberB else .memberA, secure := false }
             (msgOf sender session type flags seq payload) }
  | _ => none

/-! ### The access log (R306, R313, R318) -/

/-- The entries that accesses leave: a read's with the value that it returns. -/
def entriesOf (s : Engine) (b : Bus) (l : List LogEntry) : List LogEntry :=
  if b.master = .flp then l.map fun _ => .firmware
  else l.map fun e =>
    match e with
    | .read a _ => .read a (if decoded a && a % 4 == 0 then readValue s b a else 0)
    | e => e

/-- Whether an access is the one that an entry logs. -/
def LogEntry.logs (e access : LogEntry) : Bool :=
  match e, access with
  | .read a _, .read a' _ => a == a'
  | e, x => e == x

/-- Whether the first entries of a log are those of some accesses. -/
def matchesLog (log accesses : List LogEntry) : Bool :=
  decide (accesses.length ≤ log.length) && (log.zip accesses).all fun p => p.1.logs p.2

/-- Reads receive what their entries hold. -/
def giveReads (b : Bus) (es : List LogEntry) (s : Engine) : Engine :=
  es.foldl (fun s e => match e with | .read _ v => give b v s | _ => s) s

/-- A sequence-guarded write. -/
def guardedWrite (e : LogEntry) : Bool :=
  match e with
  | .write _ a _ => decide (Reg.schReq 0 ≤ a ∧ a ≤ Reg.schReq 5) || a == Reg.rteSeqLo || a == Reg.rteSeqHi || a == Reg.rteCmd
  | .offer _ => true
  | _ => false

/-- An access of the follower of a rehearsal (R318, R319): it waits for a log entry to match; a read receives the entry's value, a guarded
write reaches its port, another write is blocked, and a difference ends the swap. -/
def follow (c : Instr) (x : BusCmd) (s : Engine) : Engine :=
  let log := ((s.logOf s.pak.overlapFrom).filter (· != .firmware)).drop s.pak.followed
  let n := x.accesses.length
  if log.length < n then { s with pak.followHeld := s.pak.followHeld ++ [c] }
  else if matchesLog log x.accesses then
    let s := giveReads x.bus (log.take n) { s with pak.followed := s.pak.followed + n }
    if x.accesses.all guardedWrite then x.effect s else s
  else
    match s.standbyMember with
    | some b => diverge b s
    | none => s

/-- A follower's access, after those that wait. -/
def followNext (s : Engine) (c : Instr) : Engine :=
  match busOf c with
  | none => s
  | some x =>
    if !s.follows x.bus then s
    else if s.pak.followHeld.isEmpty then follow c x s
    else { s with pak.followHeld := s.pak.followHeld ++ [c] }

/-- The follower's accesses that wait are tried against the log as it stands. -/
def resumeFollow (s : Engine) : Engine := s.pak.followHeld.foldl followNext { s with pak.followHeld := [] }

/-- A change of the log, after which the follower's accesses that waited before it are tried. -/
def whileFollowed (s t : Engine) : Engine := if s.pak.followHeld.isEmpty then t else resumeFollow t

/-- No room is left in this cycle's log for some more entries, or earlier accesses wait already. -/
def logFull (n : Nat) (s : Engine) : Bool := !s.pak.held.isEmpty || decide (4096 < s.log.length + n)

/-- A command that waits for link space in the next cycle. -/
def holdCommand (c : Instr) (s : Engine) : Engine := { s with pak.held := s.pak.held ++ [c] }.putRbit Reg.pakStat 15 true

/-- A live access of the ACTIVE member: the link takes its entry, then it reaches its target. -/
def live (c : Instr) (x : BusCmd) (s : Engine) : Engine :=
  let es := entriesOf s x.bus x.accesses
  if logFull es.length s then holdCommand c s else whileFollowed s (x.effect (s.enterLog es))

/-- An access in a replay: matched against the next entries, or, at the first difference and past the end, live with all that follow. -/
def replayed (c : Instr) (x : BusCmd) (log : List LogEntry) (s : Engine) : Engine :=
  if matchesLog log x.accesses then
    giveReads x.bus (log.take x.accesses.length) { s with pak.replay := some (log.drop x.accesses.length) }
  else live c x { s with pak.replay := none }

/-- A command of the bus. -/
def issue (c : Instr) (x : BusCmd) (s : Engine) : Engine :=
  if s.mode = .reset || x.accesses.isEmpty then x.effect s
  else if s.reaches x.bus then
    match s.pak.replay with
    | some log => if x.bus.master = .flp then live c x s else replayed c x log s
    | none => live c x s
  else if s.follows x.bus then followNext s c
  else x.effect s

def State.bus (s : State) (c : Instr) : Host.Outcome State Fault Refusal :=
  match busOf c with
  | some x => s.runAt (turnOf x.bus) (issue c x)
  | none => .next s

/-! ### The work of the firmware -/

/-- The rows of FLP: what the firmware of the ACTIVE member does with a received frame. -/
def flpOf (c : Instr) : Option (Engine → Engine) :=
  match c with
  | .connect n m => some (connect n m)
  | .disconnect n m => some (disconnect n m)
  | .flpPermute n m => some (flpPermute n m)
  | .flpPin n m => some (flpPin n m)
  | .flpUnpin n m => some (flpUnpin n m)
  | .queryRoute n m => some (queryRoute n m)
  | .queryElement n m => some (queryElement n m)
  | .subscribe n m => some (subscribe n m)
  | .ledgerRead n m => some (ledgerRead n m)
  | .ledgerAck n m => some (ledgerAck n m)
  | .gateLoad n m => some (gateLoad n m)
  | .modeReq n m => some (modeReq n m)
  | .calReq n m => some (calReq n m)
  | .imageLoad n m => some (imageLoad n m)
  | .keyEnroll n m => some (keyEnroll n m)
  | .keyRevoke n m => some (keyRevoke n m)
  | .keyOwn n m => some (keyOwn n m)
  | .faultRead n m => some (faultRead n m)
  | .faultReadClear n m => some (faultReadClear n m)
  | .regRead n m => some (regRead n m)
  | .regWrite n m => some (regWrite n m)
  | .flpUnknownType n type m => some (flpUnknownType n type m)
  | _ => none

/-- Rows in which the firmware acts by itself. -/
def firmwareOf (c : Instr) : Option (Engine → Engine) :=
  match c with
  | .outcomeNotify => some outcomeNotify
  | .noteNotify => some noteNotify
  | .faultNotify => some faultNotify
  | .ledgerNotify => some ledgerNotify
  | .modeNotify => some modeNotify
  | .telemetryPeriod n => some (telemetryPeriod n)
  | .ledgerDrain => some ledgerDrain
  | _ => none

/-- A received frame in the input buffers of every member that is not OFF or FENCED (R305). DESIGN CHOICE (log 66): the row of a frame is
what the firmware does with it, in the cycle whose input it is. -/
def receive (c : Instr) (s : Engine) : Engine :=
  let runs (b : Bool) : Bool := s.role b != .off && s.role b != .fenced
  s.onlyIf (sessionsOpen s) fun s => { s with pak.inputs := s.pak.inputs ++ [{ cycle := s.pak.cycle, inA := runs false, inB := runs true, cmd := c }] }

/-- A replay with nothing left to match ends with the first access that is live (R313). -/
def endReplay (s : Engine) : Engine := if s.pak.replay = some [] then { s with pak.replay := none } else s

/-- The firmware works through a row; with its log full the row waits for the next cycle. -/
def runFirmware (c : Instr) (f : Engine → Engine) (s : Engine) : Engine :=
  if s.mode = .reset || s.activeMember.isNone then f s
  else if logFull 1 s then holdCommand c s
  else whileFollowed s (f (endReplay s))

def State.flp (s : State) (c : Instr) : Host.Outcome State Fault Refusal :=
  match flpOf c with
  | some f => s.runAt 0 fun e => runFirmware c f (receive c e)
  | none => .next s

def State.firmware (s : State) (c : Instr) : Host.Outcome State Fault Refusal :=
  match firmwareOf c with
  | some f => s.run (runFirmware c f)
  | none => .next s

/-! ### Boundaries (R306, R318, R319, R337) -/

/-- A command that has waited: an access of a member that is no longer ACTIVE never leaves it. -/
def reissue (s : Engine) (c : Instr) : Engine :=
  match busOf c with
  | some x => if s.reaches x.bus then issue c x s else s
  | none =>
    match flpOf c with
    | some f => if s.activeMember.isSome then runFirmware c f s else holdCommand c s
    | none =>
      match firmwareOf c with
      | some f => runFirmware c f s
      | none => s

/-- Commands that wait for link space go on. -/
def resumeHeld (s : Engine) : Engine := s.pak.held.foldl reissue { s with pak.held := [] }

/-- A rehearsal has ended: what its follower still waits for goes on in the role that it has now (R318, R319). -/
def endFollow (s : Engine) : Engine :=
  if s.pak.overlap then s else s.pak.followHeld.foldl reissue { s with pak.followHeld := [] }

/-- A boundary, with what waits for it. -/
def cycleBoundary (ceA ceB : Nat) (s : Engine) : Engine :=
  s.onlyIf (s.mode ≠ .reset && decide (s.pak.boundary + 25000 ≤ s.tick)) fun s =>
    resumeHeld (closeRevoked (pakCycleBoundary ceA ceB s))

/-! ### Meanings -/

def execPakCycleBoundary (ceA ceB : Nat) (s : State) : Host.Outcome State Fault Refusal := s.run (cycleBoundary ceA ceB)

def execTakeover (s : State) : Host.Outcome State Fault Refusal := s.run fun e => endFollow (takeover e)

def execRoleExchange (s : State) : Host.Outcome State Fault Refusal := s.run fun e => endFollow (roleExchange e)

def execRefChange (b : Bus) (v : Word) (s : State) : Host.Outcome State Fault Refusal := s.bus (.refChange b v)

def execRteAdd (b : Bus) (input output : Fin 512) (tenant : Fin 64) (s : State) : Host.Outcome State Fault Refusal := s.bus (.rteAdd b input output tenant)

def execRteRemove (b : Bus) (input output : Fin 512) (s : State) : Host.Outcome State Fault Refusal := s.bus (.rteRemove b input output)

def execRtePermute (b : Bus) (s : State) : Host.Outcome State Fault Refusal := s.bus (.rtePermute b)

def execRtePin (b : Bus) (input output : Fin 512) (s : State) : Host.Outcome State Fault Refusal := s.bus (.rtePin b input output)

def execRteUnpin (b : Bus) (input : Fin 512) (s : State) : Host.Outcome State Fault Refusal := s.bus (.rteUnpin b input)

/-- An operation code that R71 does not list; a listed one is no term of this row. -/
def execRteBadOp (b : Bus) (op : Fin 16) (s : State) : Host.Outcome State Fault Refusal :=
  if wellFormed (.rteBadOp b op) then s.bus (.rteBadOp b op) else .refused (.illFormed "RTE_BAD_OP")

def execRteAbort (b : Bus) (s : State) : Host.Outcome State Fault Refusal := s.bus (.rteAbort b)

def execDrvResume (b : Bus) (v : Word) (s : State) : Host.Outcome State Fault Refusal := s.bus (.drvResume b v)

def execDrvFltFifoRead (b : Bus) (s : State) : Host.Outcome State Fault Refusal := s.bus (.drvFltFifoRead b)

def execScentCtlWrite (b : Bus) (g : Fin 8) (v : Word) (s : State) : Host.Outcome State Fault Refusal := s.bus (.scentCtlWrite b g v)

def execLaneCfgWrite (b : Bus) (l : Fin 544) (v : Word) (s : State) : Host.Outcome State Fault Refusal := s.bus (.laneCfgWrite b l v)

def execLpEnClear (b : Bus) (k : Fin 33) (s : State) : Host.Outcome State Fault Refusal := s.bus (.lpEnClear b k)

def execLpEnSet (b : Bus) (k : Fin 33) (s : State) : Host.Outcome State Fault Refusal := s.bus (.lpEnSet b k)

def execLpStep (b : Bus) (c : Lp) (s : State) : Host.Outcome State Fault Refusal := s.bus (.lpStep b c)

def execCbankSwapReq (b : Bus) (k : Fin 33) (s : State) : Host.Outcome State Fault Refusal := s.bus (.cbankSwapReq b k)

def execGswapCommit (b : Bus) (v : Word) (s : State) : Host.Outcome State Fault Refusal := s.bus (.gswapCommit b v)

def execCalApply (b : Bus) (s : State) : Host.Outcome State Fault Refusal := s.bus (.calApply b)

def execCalAbort (b : Bus) (s : State) : Host.Outcome State Fault Refusal := s.bus (.calAbort b)

def execCalRecal (b : Bus) (regions : Byte) (s : State) : Host.Outcome State Fault Refusal := s.bus (.calRecal b regions)

def execCalFull (b : Bus) (s : State) : Host.Outcome State Fault Refusal := s.bus (.calFull b)

def execCalDataWrite (b : Bus) (v : Word) (s : State) : Host.Outcome State Fault Refusal := s.bus (.calDataWrite b v)

def execCalDataRead (b : Bus) (s : State) : Host.Outcome State Fault Refusal := s.bus (.calDataRead b)

def execSubmitAdd (b : Bus) (input output : Fin 512) (tenant : Fin 64) (q : SubmitWords) (s : State) : Host.Outcome State Fault Refusal := s.bus (.submitAdd b input output tenant q)

def execSubmitRemove (b : Bus) (input output : Fin 512) (q : SubmitWords) (s : State) : Host.Outcome State Fault Refusal := s.bus (.submitRemove b input output q)

def execSubmitPermute (b : Bus) (q : SubmitWords) (s : State) : Host.Outcome State Fault Refusal := s.bus (.submitPermute b q)

def execSubmitPin (b : Bus) (input output : Fin 512) (q : SubmitWords) (s : State) : Host.Outcome State Fault Refusal := s.bus (.submitPin b input output q)

def execSubmitUnpin (b : Bus) (input : Fin 512) (q : SubmitWords) (s : State) : Host.Outcome State Fault Refusal := s.bus (.submitUnpin b input q)

def execTbRateWrite (b : Bus) (t : Fin 64) (v : Word) (s : State) : Host.Outcome State Fault Refusal := s.bus (.tbRateWrite b t v)

def execTbBurstWrite (b : Bus) (t : Fin 64) (v : Word) (s : State) : Host.Outcome State Fault Refusal := s.bus (.tbBurstWrite b t v)

def execGlCommit (b : Bus) (discard : Bool) (s : State) : Host.Outcome State Fault Refusal := s.bus (.glCommit b discard)

def execGlDiscard (b : Bus) (s : State) : Host.Outcome State Fault Refusal := s.bus (.glDiscard b)

def execGlStartNsWrite (b : Bus) (v : Word) (s : State) : Host.Outcome State Fault Refusal := s.bus (.glStartNsWrite b v)

def execSchCancel (b : Bus) (s : State) : Host.Outcome State Fault Refusal := s.bus (.schCancel b)

def execSchEnWrite (b : Bus) (en : Bool) (s : State) : Host.Outcome State Fault Refusal := s.bus (.schEnWrite b en)

def execSchOutRead (b : Bus) (s : State) : Host.Outcome State Fault Refusal := s.bus (.schOutRead b)

def execTimRateWrite (b : Bus) (v : Word) (s : State) : Host.Outcome State Fault Refusal := s.bus (.timRateWrite b v)

def execTimAdjust (b : Bus) (v : Word) (s : State) : Host.Outcome State Fault Refusal := s.bus (.timAdjust b v)

def execTimSet (b : Bus) (v : Word) (s : State) : Host.Outcome State Fault Refusal := s.bus (.timSet b v)

def execNowCapture (b : Bus) (s : State) : Host.Outcome State Fault Refusal := s.bus (.nowCapture b)

def execTimSrcWrite (b : Bus) (v : Fin 4) (s : State) : Host.Outcome State Fault Refusal := s.bus (.timSrcWrite b v)

def execCmpArm (b : Bus) (c : Fin 64) (periodic : Bool) (s : State) : Host.Outcome State Fault Refusal := s.bus (.cmpArm b c periodic)

def execCmpDisarm (b : Bus) (c : Fin 64) (periodic : Bool) (s : State) : Host.Outcome State Fault Refusal := s.bus (.cmpDisarm b c periodic)

def execCmpNsWrite (b : Bus) (c : Fin 64) (v : Word) (s : State) : Host.Outcome State Fault Refusal := s.bus (.cmpNsWrite b c v)

def execToutEnable (b : Bus) (k : Fin 4) (pol periodic : Bool) (s : State) : Host.Outcome State Fault Refusal := s.bus (.toutEnable b k pol periodic)

def execToutNsWrite (b : Bus) (k : Fin 4) (v : Word) (s : State) : Host.Outcome State Fault Refusal := s.bus (.toutNsWrite b k v)

def execLedgerFifoRead (b : Bus) (s : State) : Host.Outcome State Fault Refusal := s.bus (.ledgerFifoRead b)

def execLedgerTake (b : Bus) (t : Fin 64) (s : State) : Host.Outcome State Fault Refusal := s.bus (.ledgerTake b t)

def execEvtCfgRequest (b : Bus) (v : Word) (s : State) : Host.Outcome State Fault Refusal := s.bus (.evtCfgRequest b v)

def execHostTrigger (b : Bus) (v : Byte) (s : State) : Host.Outcome State Fault Refusal := s.bus (.hostTrigger b v)

def execSdClear (b : Bus) (v : Word) (s : State) : Host.Outcome State Fault Refusal := s.bus (.sdClear b v)

def execEbktCapWrite (b : Bus) (v : Word) (s : State) : Host.Outcome State Fault Refusal := s.bus (.ebktCapWrite b v)

def execThmLimitWrite (b : Bus) (which : Fin 3) (v : Word) (s : State) : Host.Outcome State Fault Refusal := s.bus (.thmLimitWrite b which v)

def execSeqDraw (b : Bus) (s : State) : Host.Outcome State Fault Refusal := s.bus (.seqDraw b)

def execSeqBaseLoad (b : Bus) (v : Word) (s : State) : Host.Outcome State Fault Refusal := s.bus (.seqBaseLoad b v)

def execSwapReq (b : Bus) (s : State) : Host.Outcome State Fault Refusal := s.bus (.swapReq b)

def execPtpTxStampRead (b : Bus) (s : State) : Host.Outcome State Fault Refusal := s.bus (.ptpTxStampRead b)

def execMdioStart (b : Bus) (v : Word) (s : State) : Host.Outcome State Fault Refusal := s.bus (.mdioStart b v)

def execPhyModeWrite (b : Bus) (v : Word) (s : State) : Host.Outcome State Fault Refusal := s.bus (.phyModeWrite b v)

def execResultRead (b : Bus) (r : ResultReg) (s : State) : Host.Outcome State Fault Refusal := s.bus (.resultRead b r)

/-- A read of the low half of a pair; any other address is read as the bus reads it. -/
def execSplitLowRead (b : Bus) (a : Word) (s : State) : Host.Outcome State Fault Refusal := s.bus (.splitLowRead b a)

/-- A write of the high half of a pair; any other address is written as the bus writes it. -/
def execSplitHighWrite (b : Bus) (a v : Word) (s : State) : Host.Outcome State Fault Refusal := s.bus (.splitHighWrite b a v)

def execFaultInject (b : Bus) (i : Fin 128) (s : State) : Host.Outcome State Fault Refusal := s.bus (.faultInject b i)

def execNmiDone (b : Bus) (v : Fin 4) (s : State) : Host.Outcome State Fault Refusal := s.bus (.nmiDone b v)

def execErrRelease (b : Bus) (v : Fin 4) (s : State) : Host.Outcome State Fault Refusal := s.bus (.errRelease b v)

def execReactWrite (b : Bus) (i : Fin 128) (v : Word) (s : State) : Host.Outcome State Fault Refusal := s.bus (.reactWrite b i v)

def execCaptureClear (b : Bus) (s : State) : Host.Outcome State Fault Refusal := s.bus (.captureClear b)

def execNvmRecordRead (b : Bus) (s : State) : Host.Outcome State Fault Refusal := s.bus (.nvmRecordRead b)

def execNvmRecordWrite (b : Bus) (s : State) : Host.Outcome State Fault Refusal := s.bus (.nvmRecordWrite b)

def execMramScrubStart (b : Bus) (s : State) : Host.Outcome State Fault Refusal := s.bus (.mramScrubStart b)

def execKeyAreaRead (b : Bus) (slot : Fin 66) (w : Fin 16) (s : State) : Host.Outcome State Fault Refusal := s.bus (.keyAreaRead b slot w)

def execSysModeReqReset (b : Bus) (s : State) : Host.Outcome State Fault Refusal := s.bus (.sysModeReqReset b)

def execSysModeReqLoad (b : Bus) (s : State) : Host.Outcome State Fault Refusal := s.bus (.sysModeReqLoad b)

def execSysModeReqCalibrate (b : Bus) (s : State) : Host.Outcome State Fault Refusal := s.bus (.sysModeReqCalibrate b)

def execSysModeReqHold (b : Bus) (s : State) : Host.Outcome State Fault Refusal := s.bus (.sysModeReqHold b)

def execSysModeReqRun (b : Bus) (s : State) : Host.Outcome State Fault Refusal := s.bus (.sysModeReqRun b)

def execSysModeReqKennel (b : Bus) (s : State) : Host.Outcome State Fault Refusal := s.bus (.sysModeReqKennel b)

def execRegisterWrite (b : Bus) (width : Width) (a v : Word) (s : State) : Host.Outcome State Fault Refusal := s.bus (.registerWrite b width a v)

def execTxQueueOffer (sender : Bool) (session : Fin 65) (type flags : Byte) (seq : BitVec 64) (payload : List Byte) (s : State) :
    Host.Outcome State Fault Refusal := s.bus (.txQueueOffer sender session type flags seq payload)

def execConnect (n : Fin 65) (m : HostMsg) (s : State) : Host.Outcome State Fault Refusal := s.flp (.connect n m)

def execDisconnect (n : Fin 65) (m : HostMsg) (s : State) : Host.Outcome State Fault Refusal := s.flp (.disconnect n m)

def execFlpPermute (n : Fin 65) (m : HostMsg) (s : State) : Host.Outcome State Fault Refusal := s.flp (.flpPermute n m)

def execFlpPin (n : Fin 65) (m : HostMsg) (s : State) : Host.Outcome State Fault Refusal :=
  if wellFormed (.flpPin n m) then s.flp (.flpPin n m) else .refused (.illFormed "FLP_PIN")

def execFlpUnpin (n : Fin 65) (m : HostMsg) (s : State) : Host.Outcome State Fault Refusal :=
  if wellFormed (.flpUnpin n m) then s.flp (.flpUnpin n m) else .refused (.illFormed "FLP_UNPIN")

def execQueryRoute (n : Fin 65) (m : HostMsg) (s : State) : Host.Outcome State Fault Refusal := s.flp (.queryRoute n m)

def execQueryElement (n : Fin 65) (m : HostMsg) (s : State) : Host.Outcome State Fault Refusal := s.flp (.queryElement n m)

def execSubscribe (n : Fin 65) (m : HostMsg) (s : State) : Host.Outcome State Fault Refusal := s.flp (.subscribe n m)

def execLedgerRead (n : Fin 65) (m : HostMsg) (s : State) : Host.Outcome State Fault Refusal := s.flp (.ledgerRead n m)

def execLedgerAck (n : Fin 65) (m : HostMsg) (s : State) : Host.Outcome State Fault Refusal := s.flp (.ledgerAck n m)

def execGateLoad (n : Fin 65) (m : HostMsg) (s : State) : Host.Outcome State Fault Refusal := s.flp (.gateLoad n m)

def execModeReq (n : Fin 65) (m : HostMsg) (s : State) : Host.Outcome State Fault Refusal := s.flp (.modeReq n m)

def execCalReq (n : Fin 65) (m : HostMsg) (s : State) : Host.Outcome State Fault Refusal := s.flp (.calReq n m)

def execImageLoad (n : Fin 65) (m : HostMsg) (s : State) : Host.Outcome State Fault Refusal := s.flp (.imageLoad n m)

def execKeyEnroll (n : Fin 65) (m : HostMsg) (s : State) : Host.Outcome State Fault Refusal :=
  if wellFormed (.keyEnroll n m) then s.flp (.keyEnroll n m) else .refused (.illFormed "KEY_ENROLL")

def execKeyRevoke (n : Fin 65) (m : HostMsg) (s : State) : Host.Outcome State Fault Refusal :=
  if wellFormed (.keyRevoke n m) then s.flp (.keyRevoke n m) else .refused (.illFormed "KEY_REVOKE")

def execKeyOwn (n : Fin 65) (m : HostMsg) (s : State) : Host.Outcome State Fault Refusal :=
  if wellFormed (.keyOwn n m) then s.flp (.keyOwn n m) else .refused (.illFormed "KEY_OWN")

def execFaultRead (n : Fin 65) (m : HostMsg) (s : State) : Host.Outcome State Fault Refusal :=
  if wellFormed (.faultRead n m) then s.flp (.faultRead n m) else .refused (.illFormed "FAULT_READ")

def execFaultReadClear (n : Fin 65) (m : HostMsg) (s : State) : Host.Outcome State Fault Refusal :=
  if wellFormed (.faultReadClear n m) then s.flp (.faultReadClear n m) else .refused (.illFormed "FAULT_READ_CLEAR")

def execRegRead (n : Fin 65) (m : HostMsg) (s : State) : Host.Outcome State Fault Refusal := s.flp (.regRead n m)

def execRegWrite (n : Fin 65) (m : HostMsg) (s : State) : Host.Outcome State Fault Refusal := s.flp (.regWrite n m)

def execFlpUnknownType (n : Fin 65) (type : Byte) (m : HostMsg) (s : State) : Host.Outcome State Fault Refusal :=
  if wellFormed (.flpUnknownType n type m) then s.flp (.flpUnknownType n type m) else .refused (.illFormed "FLP_UNKNOWN_TYPE")

def execOutcomeNotify (s : State) : Host.Outcome State Fault Refusal := s.firmware (.outcomeNotify)

def execNoteNotify (s : State) : Host.Outcome State Fault Refusal := s.firmware (.noteNotify)

def execFaultNotify (s : State) : Host.Outcome State Fault Refusal := s.firmware (.faultNotify)

def execLedgerNotify (s : State) : Host.Outcome State Fault Refusal := s.firmware (.ledgerNotify)

def execModeNotify (s : State) : Host.Outcome State Fault Refusal := s.firmware (.modeNotify)

def execTelemetryPeriod (n : Fin 65) (s : State) : Host.Outcome State Fault Refusal := s.firmware (.telemetryPeriod n)

def execLedgerDrain (s : State) : Host.Outcome State Fault Refusal := s.firmware (.ledgerDrain)

end Sys2Proof.Machine
end

