-- ==== Sys2Proof/Machine/Balls.lean ====
section
/-! DEFINITION. Which net each ball of the package carries and which fibre each port (R421 to R423, R426). -/

namespace Sys2Proof.Machine

open Sys2Proof

/-- The letters of the rows, in the order of their index 1 to 43 (R421). -/
def rowLetters : List String :=
  ["A", "B", "C", "D", "E", "F", "G", "H", "J", "K", "L", "M", "N", "P", "T", "U", "V", "W", "Y"] ++
  ["AA", "AB", "AC", "AD", "AE", "AF", "AG", "AH", "AJ", "AK", "AL", "AM", "AN", "AP", "AT", "AU", "AV", "AW", "AY"] ++
  ["BA", "BB", "BC", "BD", "BE"]

/-- Row index of a ball's letters. -/
def rowIndex (letters : String) : Option Nat := (rowLetters.findIdx? (· == letters)).map (· + 1)

inductive Net where
  | vss | vcore | vana | vaux | vpil | vhn | vhp | reserved
  | signal (name : String)
deriving DecidableEq, Repr

/-- The signals of a row of the signal field with their columns (R423). -/
def signalRow (r : Nat) : List (Nat × String) :=
  match r with
  | 43 => [(14, "REFCLK_P"), (16, "SG_TXP"), (18, "SG_RXP"), (20, "TIN_10M"), (22, "TOUT0"), (24, "TOUT2"), (26, "MDC"), (28, "SMBCLK"),
           (30, "PGOOD")]
  | 42 => [(15, "REFCLK_N"), (17, "SG_TXN"), (19, "SG_RXN"), (21, "TIN_PPS"), (23, "TOUT1"), (25, "TOUT3"), (27, "MDIO"), (29, "SMBDAT")]
  | 41 => [(14, "PORST_N"), (16, "BOOTSEL0"), (18, "BOOTSEL1"), (20, "ERR_N"), (22, "INT_N"), (24, "TCK"), (26, "TMS"), (28, "TDI"),
           (30, "TDO")]
  | 40 => [(15, "TRST_N")]
  | _ => []

/-- The net of an odd ball of the signal field; the other ones of row BB are reserved. -/
def signalBall (r c : Nat) : Net :=
  match (signalRow r).find? fun p => p.1 == c with
  | some p => .signal p.2
  | none => .reserved

/-- The net of ball (r, c), each from 1 to 43 (R422). -/
def ballNet (r c : Nat) : Net :=
  let d := min (min (r - 1) (c - 1)) (min (43 - r) (43 - c))
  if (r + c) % 2 = 0 then .vss
  else if 40 ≤ r ∧ 14 ≤ c ∧ c ≤ 30 then signalBall r c
  else if d ≤ 1 then .vss
  else if 10 ≤ d then .vcore
  else if 6 ≤ d then .vana
  else if d = 5 then .vhp
  else if d = 4 then .vhn
  else if d = 3 then .vpil
  else .vaux

/-- Every ball's net, row by row. -/
def ballNets : List Net := (List.range 43).flatMap fun r => (List.range 43).map fun c => ballNet (r + 1) (c + 1)

/-- The signals that the boundary-scan register covers, in no order that the spec gives (R418). -/
def signalBalls : List String := [43, 42, 41, 40].flatMap fun r => (signalRow r).map (·.2)

/-- The port of fibre k of ribbon F: whether it is an output, and its number; none where the variant has no such ribbon (R426). -/
def fibrePort (v : Variant) (ribbon k : Nat) : Option (Bool × Nat) :=
  if 32 ≤ k ∨ 32 ≤ ribbon then none
  else if ribbon % 16 < v.ports / 32 then some (decide (16 ≤ ribbon), 32 * (ribbon % 16) + k)
  else none

/-- The ribbon and the connector position of a port (R426). -/
def portFibre (isOut : Bool) (p : Nat) : Nat × Nat := ((if isOut then 16 else 0) + p / 32, p % 32 + 1)

end Sys2Proof.Machine
end

