-- ==== Sys2Proof/Machine/Package.lean ====
section
/-! DEFINITION. The small ports of the package: PGOOD, JTAG, the SMBus target and its recovery loader (R398, R413, R418 to R420). -/

namespace Sys2Proof.Machine

open Sys2Proof

/-! ### PGOOD (R413) -/

/-- A rail ceases to be good: the run of 100 µs starts again. -/
def railNotGood (r : Fin 6) (s : Engine) : Engine :=
  { s with sys.pgood := false, sys.railsGood := listSet s.sys.railsGood r.val false, sys.railLowAt := some s.tick }

/-- No rail has ceased to be good within 100 µs. -/
def railsSettled (s : Engine) : Bool :=
  match s.sys.railLowAt with
  | some t => decide (t + 25000 ≤ s.tick)
  | none => true

/-- Every rail has been good for 100 µs. -/
def pgoodRelease (s : Engine) : Engine :=
  s.onlyIf (railsSettled s) fun s => { s with sys.pgood := true, sys.railsGood := List.replicate 6 true }

/-! ### JTAG (R418) -/

def idcode (v : Variant) : Word := match v with | .pq512 => 0x151204D3 | .pq256 => 0x125604D3 | .pq128 => 0x112804D3

/-- Bits of a word, least significant first. -/
def wordBits (w : Word) : List Bool := (List.range 32).map (bit w)

/-- Levels of balls, which the spec gives no order in the boundary-scan register. -/
def freeBits (n : Nat) (s : Engine) : List Bool × Engine :=
  ((List.range n).map fun i => bit (Config.freeWord (s.freeCtr + i)) 0, { s with freeCtr := s.freeCtr + n })

/-- PORST_N is low. -/
def porstLow (s : Engine) : Bool := s.sys.phase == .porHeld

/-- The one-bit bypass register. -/
def jtagBypass (s : Engine) : Engine := { s with sys.jtag := .bypass, sys.jtagOut := [false] }

def jtagIdcode (s : Engine) : Engine := { s with sys.jtag := .idcode, sys.jtagOut := wordBits (idcode s.variant) }

/-- The balls sampled and shifted out, and the register loaded with what is shifted in. -/
def scanBalls (bits : List Bool) (s : Engine) : Engine :=
  let (out, s) := freeBits bits.length s
  { s with sys.jtagOut := out, sys.bsr := bits }

def jtagSamplePreload (bits : List Bool) (s : Engine) : Engine := scanBalls bits { s with sys.jtag := .samplePreload }

/-- EXTEST drives the balls while PORST_N is low, and acts as BYPASS while it is high. -/
def jtagExtest (bits : List Bool) (s : Engine) : Engine :=
  if porstLow s then scanBalls bits { s with sys.jtag := .extest } else { jtagBypass s with sys.jtag := .extest }

/-- Whether the boundary-scan register drives the balls. -/
def drivesBalls (s : Engine) : Bool := s.sys.jtag == .extest && porstLow s

/-! ### SMBus (R419) -/

/-- A read: not acknowledged in RESET. -/
def smbusRead (f : Engine → List Byte) (s : Engine) : Engine := s.unlessReset fun s => { s with sys.smbusOut := f s }

def smbusMode : Engine → Engine := smbusRead fun s => leBytes 2 (fld (sysModeWord s) 0 16)

def smbusTemp : Engine → Engine := smbusRead fun s =>
  leBytes 2 (if s.rbit Reg.thmStat 10 then fld (s.reg Reg.thmTj) 0 16 else 0x8000)

def smbusPower : Engine → Engine := smbusRead fun s => leBytes 2 (fld (s.reg Reg.pwrTotal) 0 16)

def smbusFaults : Engine → Engine := smbusRead fun s => wordBytes ((List.range 4).map fun w => s.reg (Reg.fltSticky w))

def smbusId : Engine → Engine := smbusRead fun s => leBytes 4 (peekSys s Reg.sysId).toNat

/-! ### The recovery loader (R398, R420) -/

/-- The commands 0x10 to 0x12, acknowledged in the recovery state only; the loader runs on the ACTIVE member. -/
def recovery (f : Engine → Engine) (s : Engine) : Engine :=
  s.onlyIf (s.mode ≠ .reset && s.sys.recovery && s.activeMember.isSome) f

/-- The slot that R366 chooses: an invalid one, else the one not selected. -/
def recSlot (s : Engine) : Bool :=
  (nextSlot (imageCommit s s.nvm.img.1) (imageCommit s s.nvm.img.2) (s.nvm.img.1.tiles == s.nvm.img.2.tiles)).1

/-- The load discarded with a status; the next block starts at offset 0. -/
def dropRecovery (st : Byte) (s : Engine) : Engine := { s with sys.recov := { status := st, next := 0, data := [] } }

/-- A complete tile checked, and written into the slot. -/
def recTile (ws : List Word) (next : Nat) (s : Engine) : Engine :=
  let slot := recSlot s
  let x := slotOf s.nvm.img slot
  let all := x.tiles ++ ws
  if tileOk all (all.length / 1024 - 1) then
    { s with nvm.img := putSlot s.nvm.img slot { x with tiles := all }, sys.recov := { status := 1, next := next, data := [] } }
  else dropRecovery 4 s

/-- The first block of a load: the slot's commit record is overwritten. -/
def startRecovery (s : Engine) : Engine :=
  let slot := recSlot s
  { s with nvm.img := putSlot s.nvm.img slot { tiles := [], commit := none } }

/-- A block of 128 image bytes. -/
def recBlock (offset : Word) (data : List Byte) : Engine → Engine := recovery fun s =>
  if offset.toNat ≠ s.sys.recov.next then dropRecovery 6 s
  else
    let s := if offset = 0 then startRecovery s else s
    let ws := s.sys.recov.data ++ wordsOf data
    let next := offset.toNat + 128
    if next % 4096 = 0 then recTile ws next s else { s with sys.recov := { status := 1, next := next, data := ws } }

/-- Verify and commit, then RESET requested. With no block received there is nothing to commit. -/
def recCommit (v : Byte) : Engine → Engine := recovery fun s =>
  if v ≠ 1 then s
  else if s.sys.recov.next = 0 then dropRecovery 5 s
  else
    let (good, s) := commitImage (recSlot s) s
    if good then requestMode (some .reset) (dropRecovery 3 s) else dropRecovery 5 s

def recStatus : Engine → Engine := recovery fun s => { s with sys.smbusOut := [s.sys.recov.status] }

/-! ### Meanings -/

def execRailNotGood (r : Fin 6) (s : State) : Host.Outcome State Fault Refusal := s.run (railNotGood r)

def execPgoodRelease (s : State) : Host.Outcome State Fault Refusal := s.run pgoodRelease

def execJtagBypass (s : State) : Host.Outcome State Fault Refusal := s.run jtagBypass

def execJtagIdcode (s : State) : Host.Outcome State Fault Refusal := s.run jtagIdcode

def execJtagSamplePreload (bits : List Bool) (s : State) : Host.Outcome State Fault Refusal := s.run (jtagSamplePreload bits)

def execJtagExtest (bits : List Bool) (s : State) : Host.Outcome State Fault Refusal := s.run (jtagExtest bits)

def execSmbusMode (s : State) : Host.Outcome State Fault Refusal := s.run smbusMode

def execSmbusTemp (s : State) : Host.Outcome State Fault Refusal := s.run smbusTemp

def execSmbusPower (s : State) : Host.Outcome State Fault Refusal := s.run smbusPower

def execSmbusFaults (s : State) : Host.Outcome State Fault Refusal := s.run smbusFaults

def execSmbusId (s : State) : Host.Outcome State Fault Refusal := s.run smbusId

/-- The protocol carries 128 image bytes. -/
def execRecData (offset : Word) (data : List Byte) (s : State) : Host.Outcome State Fault Refusal :=
  if recDataOk data then s.run (recBlock offset data) else .refused (.illFormed "REC_DATA")

def execRecCommit (v : Byte) (s : State) : Host.Outcome State Fault Refusal := s.run (recCommit v)

def execRecStatus (s : State) : Host.Outcome State Fault Refusal := s.run recStatus

end Sys2Proof.Machine
end

