-- ==== Sys2Proof/Machine/Dispatch.lean ====
section
/-! DEFINITION. One arm per command of spec/opcode_table.json: one direct call of its meaning. -/

namespace Sys2Proof.Machine

open Sys2Proof

def exec (i : Instr) (s : State) : Host.Outcome State Fault Refusal :=
  match i with
  | .refChange b v => Sys2Proof.Machine.execRefChange b v s
  | .refChangeComplete => Sys2Proof.Machine.execRefChangeComplete s
  | .pllLock => Sys2Proof.Machine.execPllLock s
  | .refLoss tin => Sys2Proof.Machine.execRefLoss tin s
  | .refReturn tin => Sys2Proof.Machine.execRefReturn tin s
  | .pllUnlock => Sys2Proof.Machine.execPllUnlock s
  | .pilotOn p => Sys2Proof.Machine.execPilotOn p s
  | .pilotLow p => Sys2Proof.Machine.execPilotLow p s
  | .pilotLowClear p => Sys2Proof.Machine.execPilotLowClear p s
  | .rteAdd b input output tenant => Sys2Proof.Machine.execRteAdd b input output tenant s
  | .rteRemove b input output => Sys2Proof.Machine.execRteRemove b input output s
  | .rtePermute b => Sys2Proof.Machine.execRtePermute b s
  | .rtePin b input output => Sys2Proof.Machine.execRtePin b input output s
  | .rteUnpin b input => Sys2Proof.Machine.execRteUnpin b input s
  | .rteBadOp b op => Sys2Proof.Machine.execRteBadOp b op s
  | .routeComplete => Sys2Proof.Machine.execRouteComplete s
  | .rteAbort b => Sys2Proof.Machine.execRteAbort b s
  | .buildStart => Sys2Proof.Machine.execBuildStart s
  | .buildComplete => Sys2Proof.Machine.execBuildComplete s
  | .verifyComplete flips => Sys2Proof.Machine.execVerifyComplete flips s
  | .reseed => Sys2Proof.Machine.execReseed s
  | .reseedComplete => Sys2Proof.Machine.execReseedComplete s
  | .scrubTile flips => Sys2Proof.Machine.execScrubTile flips s
  | .whistle missed => Sys2Proof.Machine.execWhistle missed s
  | .whistleAckCheck => Sys2Proof.Machine.execWhistleAckCheck s
  | .openCheck charges => Sys2Proof.Machine.execOpenCheck charges s
  | .leakDetect e excess since => Sys2Proof.Machine.execLeakDetect e excess since s
  | .drvResume b v => Sys2Proof.Machine.execDrvResume b v s
  | .drvFltFifoRead b => Sys2Proof.Machine.execDrvFltFifoRead b s
  | .kennelApply flips => Sys2Proof.Machine.execKennelApply flips s
  | .kennelWhistle missed => Sys2Proof.Machine.execKennelWhistle missed s
  | .kennelTileReload flips ue => Sys2Proof.Machine.execKennelTileReload flips ue s
  | .kennelScrubReload flips ue => Sys2Proof.Machine.execKennelScrubReload flips ue s
  | .scentStep => Sys2Proof.Machine.execScentStep s
  | .scentCtlWrite b g v => Sys2Proof.Machine.execScentCtlWrite b g v s
  | .conversionStart l => Sys2Proof.Machine.execConversionStart l s
  | .leashDecision l code => Sys2Proof.Machine.execLeashDecision l code s
  | .resultWrite l code => Sys2Proof.Machine.execResultWrite l code s
  | .sweepBoundary => Sys2Proof.Machine.execSweepBoundary s
  | .scanBoundary => Sys2Proof.Machine.execScanBoundary s
  | .sweepPauseStart => Sys2Proof.Machine.execSweepPauseStart s
  | .laneCfgWrite b l v => Sys2Proof.Machine.execLaneCfgWrite b l v s
  | .mpy c f x y => Sys2Proof.Machine.execMpy c f x y s
  | .mac c f x y => Sys2Proof.Machine.execMac c f x y s
  | .msu c f x y => Sys2Proof.Machine.execMsu c f x y s
  | .par c x y => Sys2Proof.Machine.execPar c x y s
  | .ftap c op acc x y => Sys2Proof.Machine.execFtap c op acc x y s
  | .clr c dst ld => Sys2Proof.Machine.execClr c dst ld s
  | .add c dst src ld => Sys2Proof.Machine.execAdd c dst src ld s
  | .sub c dst src ld => Sys2Proof.Machine.execSub c dst src ld s
  | .addd c dst dr ld => Sys2Proof.Machine.execAddd c dst dr ld s
  | .subd c dst dr ld => Sys2Proof.Machine.execSubd c dst dr ld s
  | .ldd c dst dr ld => Sys2Proof.Machine.execLdd c dst dr ld s
  | .neg c dst ld => Sys2Proof.Machine.execNeg c dst ld s
  | .abs c dst ld => Sys2Proof.Machine.execAbs c dst ld s
  | .asl c dst imm ld => Sys2Proof.Machine.execAsl c dst imm ld s
  | .asr c dst imm ld => Sys2Proof.Machine.execAsr c dst imm ld s
  | .max c dst src ld => Sys2Proof.Machine.execMax c dst src ld s
  | .min c dst src ld => Sys2Proof.Machine.execMin c dst src ld s
  | .cmp c dst src ld => Sys2Proof.Machine.execCmp c dst src ld s
  | .lim c dst dr ld => Sys2Proof.Machine.execLim c dst dr ld s
  | .rnd c dst ld => Sys2Proof.Machine.execRnd c dst ld s
  | .mova c dst src ld => Sys2Proof.Machine.execMova c dst src ld s
  | .tstd c dr ld => Sys2Proof.Machine.execTstd c dr ld s
  | .ldx c d ea => Sys2Proof.Machine.execLdx c d ea s
  | .ldy c d ea => Sys2Proof.Machine.execLdy c d ea s
  | .ldxa c d addr => Sys2Proof.Machine.execLdxa c d addr s
  | .stx c d ea => Sys2Proof.Machine.execStx c d ea s
  | .stxa c d addr => Sys2Proof.Machine.execStxa c d addr s
  | .sth c a ea shift => Sys2Proof.Machine.execSth c a ea shift s
  | .stl c a ea => Sys2Proof.Machine.execStl c a ea s
  | .ldi c rd v => Sys2Proof.Machine.execLdi c rd v s
  | .mov c rd rs => Sys2Proof.Machine.execMov c rd rs s
  | .upd c ea => Sys2Proof.Machine.execUpd c ea s
  | .nop c => Sys2Proof.Machine.execNop c s
  | .jmp c target => Sys2Proof.Machine.execJmp c target s
  | .jsr c target => Sys2Proof.Machine.execJsr c target s
  | .rts c => Sys2Proof.Machine.execRts c s
  | .brcc c cond target => Sys2Proof.Machine.execBrcc c cond target s
  | .dbnz c dr target => Sys2Proof.Machine.execDbnz c dr target s
  | .loop c len count => Sys2Proof.Machine.execLoop c len count s
  | .wait c cond => Sys2Proof.Machine.execWait c cond s
  | .waitComplete c => Sys2Proof.Machine.execWaitComplete c s
  | .clrf c mask => Sys2Proof.Machine.execClrf c mask s
  | .evt c => Sys2Proof.Machine.execEvt c s
  | .halt c => Sys2Proof.Machine.execHalt c s
  | .lpIllOp c w => Sys2Proof.Machine.execLpIllOp c w s
  | .lpHang k => Sys2Proof.Machine.execLpHang k s
  | .lpEnClear b k => Sys2Proof.Machine.execLpEnClear b k s
  | .lpEnSet b k => Sys2Proof.Machine.execLpEnSet b k s
  | .lpStep b c => Sys2Proof.Machine.execLpStep b c s
  | .cbankSwapReq b k => Sys2Proof.Machine.execCbankSwapReq b k s
  | .gswapCommit b v => Sys2Proof.Machine.execGswapCommit b v s
  | .calApply b => Sys2Proof.Machine.execCalApply b s
  | .calCopyComplete => Sys2Proof.Machine.execCalCopyComplete s
  | .calAbort b => Sys2Proof.Machine.execCalAbort b s
  | .calRecal b regions => Sys2Proof.Machine.execCalRecal b regions s
  | .calFull b => Sys2Proof.Machine.execCalFull b s
  | .calAgeTrigger r => Sys2Proof.Machine.execCalAgeTrigger r s
  | .calRoundStart => Sys2Proof.Machine.execCalRoundStart s
  | .calCompute => Sys2Proof.Machine.execCalCompute s
  | .calFullRound => Sys2Proof.Machine.execCalFullRound s
  | .calStore => Sys2Proof.Machine.execCalStore s
  | .calDataWrite b v => Sys2Proof.Machine.execCalDataWrite b v s
  | .calDataRead b => Sys2Proof.Machine.execCalDataRead b s
  | .submitAdd b input output tenant q => Sys2Proof.Machine.execSubmitAdd b input output tenant q s
  | .submitRemove b input output q => Sys2Proof.Machine.execSubmitRemove b input output q s
  | .submitPermute b q => Sys2Proof.Machine.execSubmitPermute b q s
  | .submitPin b input output q => Sys2Proof.Machine.execSubmitPin b input output q s
  | .submitUnpin b input q => Sys2Proof.Machine.execSubmitUnpin b input q s
  | .schIssue => Sys2Proof.Machine.execSchIssue s
  | .refillEdge => Sys2Proof.Machine.execRefillEdge s
  | .tbRateWrite b t v => Sys2Proof.Machine.execTbRateWrite b t v s
  | .tbBurstWrite b t v => Sys2Proof.Machine.execTbBurstWrite b t v s
  | .glCommit b discard => Sys2Proof.Machine.execGlCommit b discard s
  | .glDiscard b => Sys2Proof.Machine.execGlDiscard b s
  | .glValidationEnd => Sys2Proof.Machine.execGlValidationEnd s
  | .glActivate => Sys2Proof.Machine.execGlActivate s
  | .glDefaultActivate => Sys2Proof.Machine.execGlDefaultActivate s
  | .glStartNsWrite b v => Sys2Proof.Machine.execGlStartNsWrite b v s
  | .armDecision => Sys2Proof.Machine.execArmDecision s
  | .deadlineMissed => Sys2Proof.Machine.execDeadlineMissed s
  | .schCancel b => Sys2Proof.Machine.execSchCancel b s
  | .schEnWrite b en => Sys2Proof.Machine.execSchEnWrite b en s
  | .schOutRead b => Sys2Proof.Machine.execSchOutRead b s
  | .timRateWrite b v => Sys2Proof.Machine.execTimRateWrite b v s
  | .timAdjust b v => Sys2Proof.Machine.execTimAdjust b v s
  | .timSet b v => Sys2Proof.Machine.execTimSet b v s
  | .timeStep => Sys2Proof.Machine.execTimeStep s
  | .nowCapture b => Sys2Proof.Machine.execNowCapture b s
  | .timSrcWrite b v => Sys2Proof.Machine.execTimSrcWrite b v s
  | .ptpServoUpdate t1 t2 t3 t4 sync resp => Sys2Proof.Machine.execPtpServoUpdate t1 t2 t3 t4 sync resp s
  | .ptpLoss => Sys2Proof.Machine.execPtpLoss s
  | .ppsEdge k => Sys2Proof.Machine.execPpsEdge k s
  | .ppsLoss => Sys2Proof.Machine.execPpsLoss s
  | .cmpArm b c periodic => Sys2Proof.Machine.execCmpArm b c periodic s
  | .cmpDisarm b c periodic => Sys2Proof.Machine.execCmpDisarm b c periodic s
  | .cmpMatch c missed => Sys2Proof.Machine.execCmpMatch c missed s
  | .cmpNsWrite b c v => Sys2Proof.Machine.execCmpNsWrite b c v s
  | .toutEnable b k pol periodic => Sys2Proof.Machine.execToutEnable b k pol periodic s
  | .toutEdge k => Sys2Proof.Machine.execToutEdge k s
  | .toutNsWrite b k v => Sys2Proof.Machine.execToutNsWrite b k v s
  | .minuteBoundary => Sys2Proof.Machine.execMinuteBoundary s
  | .ledgerRecordSplit => Sys2Proof.Machine.execLedgerRecordSplit s
  | .ledgerFifoPush => Sys2Proof.Machine.execLedgerFifoPush s
  | .ledgerFifoRead b => Sys2Proof.Machine.execLedgerFifoRead b s
  | .ledgerTake b t => Sys2Proof.Machine.execLedgerTake b t s
  | .ledgerDrain => Sys2Proof.Machine.execLedgerDrain s
  | .checkpoint => Sys2Proof.Machine.execCheckpoint s
  | .eventDeliver => Sys2Proof.Machine.execEventDeliver s
  | .evtCfgRequest b v => Sys2Proof.Machine.execEvtCfgRequest b v s
  | .evtCfgApply => Sys2Proof.Machine.execEvtCfgApply s
  | .hostTrigger b v => Sys2Proof.Machine.execHostTrigger b v s
  | .railReport rs => Sys2Proof.Machine.execRailReport rs s
  | .railUvTrip r uv => Sys2Proof.Machine.execRailUvTrip r uv s
  | .uvBlankEnd hp hn => Sys2Proof.Machine.execUvBlankEnd hp hn s
  | .modelUpdate => Sys2Proof.Machine.execModelUpdate s
  | .shutdownRecord => Sys2Proof.Machine.execShutdownRecord s
  | .domainRemoval => Sys2Proof.Machine.execDomainRemoval s
  | .sdClear b v => Sys2Proof.Machine.execSdClear b v s
  | .ebktCapWrite b v => Sys2Proof.Machine.execEbktCapWrite b v s
  | .thmLimitWrite b which v => Sys2Proof.Machine.execThmLimitWrite b which v s
  | .pakCycleBoundary ceA ceB => Sys2Proof.Machine.execPakCycleBoundary ceA ceB s
  | .deltaPost => Sys2Proof.Machine.execDeltaPost s
  | .deltaApply => Sys2Proof.Machine.execDeltaApply s
  | .pakLockstep m => Sys2Proof.Machine.execPakLockstep m s
  | .pakSramUe m tainted => Sys2Proof.Machine.execPakSramUe m tainted s
  | .pakCfsig m => Sys2Proof.Machine.execPakCfsig m s
  | .pakHeartbeat => Sys2Proof.Machine.execPakHeartbeat s
  | .pakLink => Sys2Proof.Machine.execPakLink s
  | .memberReset m => Sys2Proof.Machine.execMemberReset m s
  | .selfTestComplete m pass => Sys2Proof.Machine.execSelfTestComplete m pass s
  | .noStandbyTimeout => Sys2Proof.Machine.execNoStandbyTimeout s
  | .takeover => Sys2Proof.Machine.execTakeover s
  | .coldClaim => Sys2Proof.Machine.execColdClaim s
  | .seqDraw b => Sys2Proof.Machine.execSeqDraw b s
  | .seqBaseLoad b v => Sys2Proof.Machine.execSeqBaseLoad b v s
  | .swapReq b => Sys2Proof.Machine.execSwapReq b s
  | .swapDue => Sys2Proof.Machine.execSwapDue s
  | .rehearsalStart => Sys2Proof.Machine.execRehearsalStart s
  | .roleExchange => Sys2Proof.Machine.execRoleExchange s
  | .resyncComplete => Sys2Proof.Machine.execResyncComplete s
  | .connect n m => Sys2Proof.Machine.execConnect n m s
  | .disconnect n m => Sys2Proof.Machine.execDisconnect n m s
  | .flpPermute n m => Sys2Proof.Machine.execFlpPermute n m s
  | .flpPin n m => Sys2Proof.Machine.execFlpPin n m s
  | .flpUnpin n m => Sys2Proof.Machine.execFlpUnpin n m s
  | .queryRoute n m => Sys2Proof.Machine.execQueryRoute n m s
  | .queryElement n m => Sys2Proof.Machine.execQueryElement n m s
  | .subscribe n m => Sys2Proof.Machine.execSubscribe n m s
  | .ledgerRead n m => Sys2Proof.Machine.execLedgerRead n m s
  | .ledgerAck n m => Sys2Proof.Machine.execLedgerAck n m s
  | .gateLoad n m => Sys2Proof.Machine.execGateLoad n m s
  | .modeReq n m => Sys2Proof.Machine.execModeReq n m s
  | .calReq n m => Sys2Proof.Machine.execCalReq n m s
  | .imageLoad n m => Sys2Proof.Machine.execImageLoad n m s
  | .keyEnroll n m => Sys2Proof.Machine.execKeyEnroll n m s
  | .keyRevoke n m => Sys2Proof.Machine.execKeyRevoke n m s
  | .keyOwn n m => Sys2Proof.Machine.execKeyOwn n m s
  | .faultRead n m => Sys2Proof.Machine.execFaultRead n m s
  | .faultReadClear n m => Sys2Proof.Machine.execFaultReadClear n m s
  | .regRead n m => Sys2Proof.Machine.execRegRead n m s
  | .regWrite n m => Sys2Proof.Machine.execRegWrite n m s
  | .flpUnknownType n type m => Sys2Proof.Machine.execFlpUnknownType n type m s
  | .tcpConnect => Sys2Proof.Machine.execTcpConnect s
  | .tlsHandshake h => Sys2Proof.Machine.execTlsHandshake h s
  | .handshakeFail => Sys2Proof.Machine.execHandshakeFail s
  | .idleTimeout n => Sys2Proof.Machine.execIdleTimeout n s
  | .telemetryPeriod n => Sys2Proof.Machine.execTelemetryPeriod n s
  | .outcomeNotify => Sys2Proof.Machine.execOutcomeNotify s
  | .noteNotify => Sys2Proof.Machine.execNoteNotify s
  | .faultNotify => Sys2Proof.Machine.execFaultNotify s
  | .ledgerNotify => Sys2Proof.Machine.execLedgerNotify s
  | .modeNotify => Sys2Proof.Machine.execModeNotify s
  | .arpRequest ip => Sys2Proof.Machine.execArpRequest ip s
  | .icmpEcho ip data => Sys2Proof.Machine.execIcmpEcho ip data s
  | .closedPortFrame tcp port => Sys2Proof.Machine.execClosedPortFrame tcp port s
  | .frameDrop k => Sys2Proof.Machine.execFrameDrop k s
  | .ptpEventReceive frame source k best => Sys2Proof.Machine.execPtpEventReceive frame source k best s
  | .delayReqTx seqId k => Sys2Proof.Machine.execDelayReqTx seqId k s
  | .ptpTxStampRead b => Sys2Proof.Machine.execPtpTxStampRead b s
  | .mdioStart b v => Sys2Proof.Machine.execMdioStart b v s
  | .mdioComplete data => Sys2Proof.Machine.execMdioComplete data s
  | .phyModeWrite b v => Sys2Proof.Machine.execPhyModeWrite b v s
  | .linkUp => Sys2Proof.Machine.execLinkUp s
  | .linkDown => Sys2Proof.Machine.execLinkDown s
  | .mgtLinkDown => Sys2Proof.Machine.execMgtLinkDown s
  | .txQueueOffer sender session type flags seq payload => Sys2Proof.Machine.execTxQueueOffer sender session type flags seq payload s
  | .resultRead b r => Sys2Proof.Machine.execResultRead b r s
  | .splitLowRead b a => Sys2Proof.Machine.execSplitLowRead b a s
  | .splitHighWrite b a v => Sys2Proof.Machine.execSplitHighWrite b a v s
  | .faultReport found held => Sys2Proof.Machine.execFaultReport found held s
  | .blockResetRelease => Sys2Proof.Machine.execBlockResetRelease s
  | .faultLogRecord => Sys2Proof.Machine.execFaultLogRecord s
  | .chipReset => Sys2Proof.Machine.execChipReset s
  | .pairBroken src => Sys2Proof.Machine.execPairBroken src s
  | .pairRestored src => Sys2Proof.Machine.execPairRestored src s
  | .shadowClose => Sys2Proof.Machine.execShadowClose s
  | .captureWindowEnd => Sys2Proof.Machine.execCaptureWindowEnd s
  | .faultInject b src => Sys2Proof.Machine.execFaultInject b src s
  | .nmiDone b v => Sys2Proof.Machine.execNmiDone b v s
  | .errRelease b v => Sys2Proof.Machine.execErrRelease b v s
  | .reactWrite b src v => Sys2Proof.Machine.execReactWrite b src v s
  | .captureClear b => Sys2Proof.Machine.execCaptureClear b s
  | .nvmRecordRead b => Sys2Proof.Machine.execNvmRecordRead b s
  | .nvmRecordWrite b => Sys2Proof.Machine.execNvmRecordWrite b s
  | .nvmRecordComplete corrected ue => Sys2Proof.Machine.execNvmRecordComplete corrected ue s
  | .nvmTimeout => Sys2Proof.Machine.execNvmTimeout s
  | .imageScrub flips held => Sys2Proof.Machine.execImageScrub flips held s
  | .mramScrubStart b => Sys2Proof.Machine.execMramScrubStart b s
  | .scrubRecord corrected ue => Sys2Proof.Machine.execScrubRecord corrected ue s
  | .scrubComplete => Sys2Proof.Machine.execScrubComplete s
  | .scrubDue => Sys2Proof.Machine.execScrubDue s
  | .keyAreaRead b slot w => Sys2Proof.Machine.execKeyAreaRead b slot w s
  | .kennelRebuild => Sys2Proof.Machine.execKennelRebuild s
  | .bootSlotSelect ue => Sys2Proof.Machine.execBootSlotSelect ue s
  | .imageDistribute => Sys2Proof.Machine.execImageDistribute s
  | .porstAssert => Sys2Proof.Machine.execPorstAssert s
  | .porstRelease pins => Sys2Proof.Machine.execPorstRelease pins s
  | .resetRelease pins => Sys2Proof.Machine.execResetRelease pins s
  | .loadComplete => Sys2Proof.Machine.execLoadComplete s
  | .sysModeReqReset b => Sys2Proof.Machine.execSysModeReqReset b s
  | .sysModeReqLoad b => Sys2Proof.Machine.execSysModeReqLoad b s
  | .sysModeReqCalibrate b => Sys2Proof.Machine.execSysModeReqCalibrate b s
  | .sysModeReqHold b => Sys2Proof.Machine.execSysModeReqHold b s
  | .sysModeReqRun b => Sys2Proof.Machine.execSysModeReqRun b s
  | .sysModeReqKennel b => Sys2Proof.Machine.execSysModeReqKennel b s
  | .modeTransition => Sys2Proof.Machine.execModeTransition s
  | .smbusMode => Sys2Proof.Machine.execSmbusMode s
  | .smbusTemp => Sys2Proof.Machine.execSmbusTemp s
  | .smbusPower => Sys2Proof.Machine.execSmbusPower s
  | .smbusFaults => Sys2Proof.Machine.execSmbusFaults s
  | .smbusId => Sys2Proof.Machine.execSmbusId s
  | .recData offset data => Sys2Proof.Machine.execRecData offset data s
  | .recCommit v => Sys2Proof.Machine.execRecCommit v s
  | .recStatus => Sys2Proof.Machine.execRecStatus s
  | .jtagBypass => Sys2Proof.Machine.execJtagBypass s
  | .jtagIdcode => Sys2Proof.Machine.execJtagIdcode s
  | .jtagSamplePreload bits => Sys2Proof.Machine.execJtagSamplePreload bits s
  | .jtagExtest bits => Sys2Proof.Machine.execJtagExtest bits s
  | .railNotGood r => Sys2Proof.Machine.execRailNotGood r s
  | .pgoodRelease => Sys2Proof.Machine.execPgoodRelease s
  | .registerWrite b width a v => Sys2Proof.Machine.execRegisterWrite b width a v s
  | .lostConnection n => Sys2Proof.Machine.execLostConnection n s
  | .dtlsAssociation h => Sys2Proof.Machine.execDtlsAssociation h s

end Sys2Proof.Machine
end

