-- ==== Sys2Proof/Safety.lean ====
section
/-! DEFINITION. What counts as a safe state and a completed command: the words in which the statements are made. -/

namespace Sys2Proof.Safety

open Sys2Proof Sys2Proof.Machine

/-! ### Completed commands -/

/-- The engine with a command's accesses in the cycle's log (R306), before its effect. -/
def logged (c : Instr) (s : State) : Engine :=
  match busOf c with
  | some x => if x.accesses = [] then s.eng else s.eng.enterLog (entriesOf s.eng x.bus x.accesses)
  | none => s.eng

/-- The place in the TICK that a command leaves: an access its own, a received frame the first, an event of the engine the last (R304,
R339). -/
def turnAfter (c : Instr) : Nat :=
  match busOf c with
  | some x => turnOf x.bus
  | none => if (flpOf c).isSome then 0 else 2

/-- Command c answers the next state with that engine and the same queue; the place in the TICK is the one that c leaves. -/
def becomes (c : Instr) (s : State) (t : Engine) : Prop := exec c s = .next { s with eng := { t with turn := turnAfter c } }

/-- Command c answers a next state in which the queue is as it was and `P` holds of the engine, but for its place in the TICK. -/
def runs (c : Instr) (s : State) (P : Engine → Prop) : Prop := ∃ t, becomes c s t ∧ P t

/-- As `runs`, with the engine that has the command's accesses logged, before their effect, and the engine after it. -/
def enters (c : Instr) (s : State) (P : Engine → Engine → Prop) : Prop := runs c s (P (logged c s))

/-- As `becomes`, from the engine that has the command's accesses logged. -/
def applies (c : Instr) (s : State) (f : Engine → Engine) : Prop := becomes c s (f (logged c s))

/-- Command c answers a next state and changes nothing but the place in the TICK. -/
def idles (c : Instr) (s : State) : Prop := becomes c s s.eng

/-- Every register word outside a list is as it was. -/
def regsBut (l : List Nat) (s t : Engine) : Prop := ∀ a, a ∉ l → t.reg a = s.reg a

/-- The Pack holds nothing back: no replay runs, nothing waits for link space or for a log entry, and the cycle's log has room for the
accesses of any row (R306, R313, R318). -/
abbrev packReady (e : Engine) : Prop :=
  e.pak.replay = none ∧ e.pak.held = [] ∧ e.pak.followHeld = [] ∧ e.log.length + 6 ≤ 4096

/-- A register access of this master takes effect: the engine is outside RESET, the master is the ACTIVE member (R303), its place in the
TICK has not passed (R304), and the Pack holds nothing back. -/
abbrev may (s : State) (b : Bus) : Prop :=
  s.eng.mode ≠ .reset ∧ s.eng.reaches b = true ∧ s.eng.turn ≤ turnOf b ∧ packReady s.eng

/-- The fault sources whose reports stand on their pairs, oldest first. -/
def reports (s : Engine) : List (Fin 128 × Word) := s.flt.waiting.map fun r => (r.source, r.locus)

/-- The events emitted and not yet sampled, oldest first. -/
def events (s : Engine) : List Nat := s.evt.emitted.map Emitted.producer

/-! ### Route commands -/

/-- The sequence number that a member has staged for RTE_CMD (R304). -/
def stagedSeq (s : State) (m : Bool) : Nat :=
  (get0 s.eng.sch.stage (stageKey m 6)).toNat * 2 ^ 32 + (get0 s.eng.sch.stage (stageKey m 5)).toNat

/-- A direct write of RTE_CMD: the operator's request, without a deadline (R73, R221). -/
def directReq (s : State) (m : Bool) (cmd : Word) : SchReq :=
  { cmd := cmd, requester := 64, seq := stagedSeq s m, deadline := none, submitted := s.eng.tick, direct := true }

/-- The commands that write RTE_CMD, each with the word it writes. -/
def directWrite : Instr → Option (Bus × Word)
  | .rteAdd b i o t => some (b, routeWord 1 i o t)
  | .rteRemove b i o => some (b, routeWord 2 i o 0)
  | .rtePermute b => some (b, routeWord 3 0 0 0)
  | .rtePin b i o => some (b, routeWord 4 i o 0)
  | .rteUnpin b i => some (b, routeWord 5 i 0 0)
  | .rteBadOp b op => some (b, routeWord op 0 0 0)
  | _ => none

/-- The staged number is larger than LAST_SEQ, or none has been accepted since reset (R73). -/
abbrev routeNumber (s : State) (m : Bool) : Prop :=
  s.eng.rte.accepted = false ∨ (s.eng.reg Reg.rteLastSeqHi).toNat * 2 ^ 32 + (s.eng.reg Reg.rteLastSeqLo).toNat < stagedSeq s m

/-- A command of that member is accepted and its mode allows it (R71 to R73). -/
abbrev routeFree (s : State) (m : Bool) : Prop :=
  routeNumber s m ∧ s.eng.rte.job = none ∧ s.eng.rte.held = none ∧ (s.eng.mode = .hold ∨ s.eng.mode = .run)

/-- The engine that has accepted a route command: LAST_SEQ, VALID 0, and the command issued (R72, R73). -/
def accepts (c : Instr) (s : State) (r : SchReq) : Engine :=
  let e := (logged c s).setRegs [(Reg.rteLastSeqLo, word r.seq), (Reg.rteLastSeqHi, word (r.seq / 2 ^ 32))]
  let e := e.putRbit Reg.rteResult 31 false
  { e with rte.accepted := true, sch.issued := some { req := r, cost := 0, done := false } }

/-- A request goes into computation on what stands at its acceptance: the target map, VRAIL and the live calibration words
(R71, R80, R199). -/
def computing (op : RouteOp) (input output tenant : Nat) (r : SchReq) (e : Engine) : Engine :=
  { e with rte.job := some { op := op, input := input, output := output, tenant := tenant, seq := r.seq, target := e.rte.target,
                             vrail := e.rfld Reg.rteVrail 0 16, words := e.cal.live.words, start := e.tick, aborted := false,
                             cancelled := false } }

/-- The current map carries the connection that the base map has at an input (R67). -/
def sameConnection (s : State) (i : Nat) : Prop :=
  mapConn (get0 s.eng.rte.cur i) = true ∧ mapOut (get0 s.eng.rte.cur i) = mapOut (get0 s.eng.rte.base i) ∧
  mapTenant (get0 s.eng.rte.cur i) = mapTenant (get0 s.eng.rte.base i)

/-- The registers of a route result (R79, R80). -/
def resultRegs : List Nat := [Reg.rteResult, Reg.rteResultSeqLo, Reg.rteResultSeqHi, Reg.rteEnergy, Reg.rteCycles]

/-! ### Submissions -/

/-- The rows SUBMIT_ADD to SUBMIT_UNPIN: the master, the word of SCH_REQ0, and the other five (R216). -/
def submits : Instr → Option (Bus × Word × SubmitWords)
  | .submitAdd b i o t q => some (b, routeWord 1 i o t, q)
  | .submitRemove b i o q => some (b, routeWord 2 i o 0, q)
  | .submitPermute b q => some (b, routeWord 3 0 0 0, q)
  | .submitPin b i o q => some (b, routeWord 4 i o 0, q)
  | .submitUnpin b i q => some (b, routeWord 5 i 0 0, q)
  | _ => none

/-- The sequence number of a submission. -/
def submitSeq (q : SubmitWords) : Nat := q.seqHi.toNat * 2 ^ 32 + q.seqLo.toNat

/-- The request of a submission on the present edge; a deadline of zero is none (R216). -/
def submission (s : State) (cmd : Word) (q : SubmitWords) : SchReq :=
  { cmd := cmd, requester := q.requester, seq := submitSeq q, submitted := s.eng.tick, direct := false,
    deadline := if q.dlNs = 0 ∧ q.dlSec = 0 then none
      else some ((s.eng.nowSec / 2 ^ 32 * 2 ^ 32 + q.dlSec.toNat) * 1000000000 + q.dlNs.toNat) }

/-- The scheduler accepts a submission's number: the first since reset, or one above SCH_LAST_SEQ_HI and _LO (R217). -/
abbrev submitNumber (s : State) (q : SubmitWords) : Prop :=
  s.eng.sch.accepted = false ∨ (s.eng.reg Reg.schLastSeqHi).toNat * 2 ^ 32 + (s.eng.reg Reg.schLastSeqLo).toNat < submitSeq q

/-- An outcome report for a request of this edge: outcome, detail and requester in its fields, its number and its time (R236). -/
def reported (e : Engine) (ns : Word) (outcome detail : Nat) (r : SchReq) (t : Engine) : Prop :=
  ∃ w, t.sch.outs = e.sch.outs ++ [(w, r.seq, ns)] ∧ fld w 24 4 = outcome ∧ fld w 16 4 = detail ∧ fld w 0 7 = r.requester % 128 ∧
    bit w 31 = true

/-- The registers that hold credit, by tenant. -/
def creditRegs : List Nat := (List.range 64).map Reg.schTbCredit

/-! ### Time -/

/-- A step by an offset, and one to a set time, requested on the present edge (R243). -/
def stepBy (s : State) (offset : Int) : TimeStep := { edge := s.eng.tick + 2, abs := none, offset := offset, link := false }
def stepTo (s : State) (ns : Nat) : TimeStep := { edge := s.eng.tick + 2, abs := some ns, offset := 0, link := false }

/-- A TICK edge that has nothing of its own to do: no FIRED report, no node words and no chip reset wait, no lock ends on it, and it is no
Pack boundary. -/
abbrev quietEdge (e : Engine) : Prop :=
  e.sch.fired = none ∧ e.pwr.published = [] ∧ e.flt.chip = none ∧ (∀ n, e.drv.lock ≠ .untilTick n) ∧
  e.tick + 1 ≠ e.pak.boundary + 25000 * (e.pak.stamps.length + 1)

/-! ### The drive array -/

/-- The word that a master's last read returned. -/
def lastRead (e : Engine) (b : Bus) : Word := get0 e.rdata (masterNo b.master)

/-- |ΔV| of an element at the last Whistle, in units of 1/65,536 V (R99). -/
def stepOf (s : State) (l : LastWhistle) (e : Nat) : Nat :=
  (liveVolts (livePacked s.eng e) - liveVolts (get0 l.oldLive e)).natAbs

/-- A scrub step is due: scrub is on, the loader idle, and 64 TICK have passed (R89). -/
abbrev scrubsNow (s : State) : Prop :=
  s.eng.mode ≠ .reset ∧ s.eng.rbit Reg.drvCtl 3 = true ∧ s.eng.drv.loader = .idle ∧ s.eng.drv.reseedDue = false ∧
  s.eng.drv.scrubFix = none ∧ s.eng.drv.scrubTick + 64 ≤ s.eng.tick

/-! ### Sense lanes -/

/-- The conversion of a slot that a lane starts on the present edge, neither STALE nor a dummy (R117, R122). -/
def newConv (s : State) (l : Fin 544) (slot half : Nat) (drive : Option Int) : Conv :=
  { slot := slot, half := half, seq := (s.eng.lane l).counter % 256, start := s.eng.tick, stale := false, dummy := false,
    range := (s.eng.lane l).range, addr := resultAddr l slot half, leash := false, pre := false, tdac := (s.eng.lane l).tdac,
    sample := none, drive := drive }

/-! ### Loop processors -/

/-- Machine `c.k` fetches, and its memories' protection finds nothing. -/
abbrev fetches (s : State) (c : Lp) : Prop := s.eng.lpRuns c.k = true ∧ c.ecc = .clean

/-- The machine goes on to its next address after `cycles` LOOP cycles. -/
def goesOn (k : Fin 33) (cycles : Nat) (e : Engine) : Engine :=
  e.onLp k fun x => { x.advance with act := x.act + cycles }

/-- Machine k with its state changed, gone on to its next address. -/
def machine (s : State) (k : Fin 33) (cycles : Nat) (f : LpState → LpState) : Engine := goesOn k cycles (s.eng.onLp k f)

/-- Machine k halts with a cause and the source that reports it (R165, R350). -/
def halts (k : Fin 33) (cause : Nat) (src : Fin 128) (e : Engine) : Engine :=
  (e.onLp k fun x => { x with halted := true, cause := cause, wait := none }).raise src (k.val * 2 ^ 24 + (e.lp k).pc.toNat)

/-- The ALU instructions that read and modify an accumulator, without their load: machine, accumulator, and the exact result
(R154). -/
def modifies : Instr → Option (Lp × Fin 4 × (LpState → Int))
  | .add c d n none => some (c, d, fun x => x.acc d + x.acc n)
  | .sub c d n none => some (c, d, fun x => x.acc d - x.acc n)
  | .addd c d r none => some (c, d, fun x => x.acc d + (x.d[r]).toInt * 2 ^ 16)
  | .subd c d r none => some (c, d, fun x => x.acc d - (x.d[r]).toInt * 2 ^ 16)
  | .neg c d none => some (c, d, fun x => -x.acc d)
  | .abs c d none => some (c, d, fun x => if x.acc d < 0 then -x.acc d else x.acc d)
  | .asl c d n none => some (c, d, fun x => x.acc d * 2 ^ n.val)
  | .asr c d n none => some (c, d, fun x => x.acc d / 2 ^ n.val)
  | .max c d n none => some (c, d, fun x => if x.acc n ≤ x.acc d then x.acc d else x.acc n)
  | .min c d n none => some (c, d, fun x => if x.acc d ≤ x.acc n then x.acc d else x.acc n)
  | .rnd c d none => some (c, d, fun x => (x.acc d + 2 ^ 15) / 2 ^ 16 * 2 ^ 16)
  | _ => none

/-- The rows of the loop processors: the machine that executes each. -/
def lpRowOf : Instr → Option Lp
  | .mpy c _ _ _ | .mac c _ _ _ | .msu c _ _ _ | .par c _ _ | .ftap c _ _ _ _ | .clr c _ _ | .add c _ _ _ | .sub c _ _ _
  | .addd c _ _ _ | .subd c _ _ _ | .ldd c _ _ _ | .neg c _ _ | .abs c _ _ | .asl c _ _ _ | .asr c _ _ _ | .max c _ _ _
  | .min c _ _ _ | .cmp c _ _ _ | .lim c _ _ _ | .rnd c _ _ | .mova c _ _ _ | .tstd c _ _ | .ldx c _ _ | .ldy c _ _
  | .ldxa c _ _ | .stx c _ _ | .stxa c _ _ | .sth c _ _ _ | .stl c _ _ | .ldi c _ _ | .mov c _ _ | .upd c _ | .nop c
  | .jmp c _ | .jsr c _ | .rts c | .brcc c _ _ | .dbnz c _ _ | .loop c _ _ | .wait c _ | .clrf c _ | .evt c | .halt c => some c
  | _ => none

/-! ### The Pack -/

/-- The detectors by which a member releases: the row's member, its source and its cause in PAK_LAST_SW (R309, R315). -/
def releaseRow : Instr → Option (Bool × Fin 128 × Nat)
  | .pakLockstep m => some (m, 8, 1)
  | .pakSramUe m false => some (m, 9, 2)
  | .pakCfsig m => some (m, 10, 3)
  | _ => none

/-- A member has been fenced by a detector: its source reported, its release kept, and of the rest of the Pack only the takeover, the replay,
the posted deltas and the watch over the STANDBY may differ. -/
def fencedBy (s : Engine) (m : Bool) (src : Fin 128) (cause : Nat) (t : Engine) : Prop :=
  t.member m = { s.member m with role := .fenced, released := some (s.tick, cause) } ∧ t.member (!m) = s.member (!m) ∧
  reports t = reports s ++ [(src, word (if m then 1 else 0))] ∧ t.flt = { s.flt with waiting := t.flt.waiting } ∧
  t.pak = { s.pak with a := t.pak.a, b := t.pak.b, takeover := t.pak.takeover, replay := t.pak.replay, posted := t.pak.posted,
                       noStandbySince := t.pak.noStandbySince, noStandbyReported := t.pak.noStandbyReported } ∧
  t = { s with pak := t.pak, flt := t.flt }

/-! ### The governor -/

/-- The allotment of R292 in mW: PWR_ALLOT up to 1,000, reduced by the throttle level on the smaller engines, and with the budget in use no
more than its headroom over the power that the Whistles of the update have not drawn. -/
def allotment (e : Engine) : Rat :=
  let a : Rat := (min 1000 (e.rfld Reg.pwrAllot 0 16) : Nat) * (if e.variant = .pq512 then 1 else ((8 - e.pwr.level : Nat) : Rat) / 8)
  let h : Rat := (e.rfld Reg.pwrBudget 0 16 : Nat) - (totalPower e - (e.pwr.eFired : Rat) / 100000000)
  if e.rbit Reg.pwrCtl 0 then max 0 (min a h) else a

/-! ### Registers -/

/-- A read of a master that has reached its target: the access logged, nothing returned yet. -/
def readBy (c : Instr) (s : State) (b : Bus) : Engine := give b 0 (logged c s)

/-- Registers whose writable fields a word access stores, with their masks (R15). -/
def storedRegs : List (Nat × Word) :=
  [(Reg.schGuard, 0xFFFF), (Reg.schLead, 0xFFFFFFFF), (Reg.rteVrail, 0xFFFF), (Reg.pwrBudget, 0xFFFF), (Reg.thmDiv, 0xFF),
   (Reg.nvmRecAddr, 0xFFFFC0), (Reg.mgtIp, 0xFFFFFFFF), (Reg.calTrig, 0x00FF00FF), (Reg.drvProbe, 0xFF), (Reg.snsCtl, 0xF03)]

/-- Registers whose fields a write of ones clears, with their masks (R15). -/
def clearedRegs : List (Nat × Word) :=
  [(Reg.timStat, 0xFC), (Reg.evtIrqPend, 0xFF), (Reg.schStat, 0x1F00), (Reg.rteStat, 0x18), (Reg.fltSticky 0, 0xFFFFFFFF),
   (Reg.pwrStat, 0xFF), (Reg.nvmStat, 0x1F00), (Reg.mgtStat, 0xE), (Reg.calStat, 0xF0), (Reg.snsStat, 0x3C)]

/-- Pairs whose two halves are plain register words (R341). -/
def plainPairs : List Nat :=
  [Reg.fltCapSecLo, Reg.rteLastSeqLo, Reg.rteResultSeqLo, Reg.schLastSeqLo, Reg.thmSdSecLo, Reg.nvmScrubSecLo]

/-- An access of anything but the PAK window. -/
def outsidePak : LogEntry → Bool
  | .read a _ | .write _ a _ => !inPak a
  | _ => true

/-! ### The fault collector -/

/-- One report waits, and the collector hears it as a new one: its source exists, its pair is whole, no shadow is open, and the edge before
was not sampled. -/
abbrev reportsOne (s : State) (r : Report) : Prop :=
  s.eng.mode ≠ .reset ∧ s.eng.flt.waiting = [r] ∧ sourceDefined r.source.val = true ∧ wireBroken s.eng r.source.val = false ∧
  s.eng.flt.shadows = [] ∧ s.eng.flt.sampled + 1 < s.eng.tick ∧ s.eng.flt.conseqHeld = []

/-- A record is in the fault log's next position, with its type, its capture and the sticky bits (R379), and no other word of the MRAM's single
records has changed. -/
def flogged (s : Engine) (type : Nat) (l : LogRecord) (t : Engine) : Prop :=
  t.nvm.flogCount = (s.nvm.flogCount + 1) % 2 ^ 24 ∧
  (let a := flogWord ((t.nvm.flogCount + 2047) % 2048)
   get0 t.nvm.raw a = putFld (word t.nvm.flogCount) 24 8 type ∧ get0 t.nvm.raw (a + 1) = word l.sec ∧
   get0 t.nvm.raw (a + 2) = word (l.sec / 2 ^ 32) ∧ get0 t.nvm.raw (a + 3) = word l.ns ∧ get0 t.nvm.raw (a + 4) = l.stat ∧
   get0 t.nvm.raw (a + 5) = l.info ∧ get0 t.nvm.raw (a + 6) = l.addr ∧ (∀ w < 4, get0 t.nvm.raw (a + 7 + w) = s.reg (Reg.fltSticky w)) ∧
   get0 t.nvm.raw (a + 15) = crc32c ((List.range 15).map fun i => get0 t.nvm.raw (a + i)) ∧
   ∀ x, x < a ∨ a + 16 ≤ x → get0 t.nvm.raw x = get0 s.nvm.raw x) ∧
  t.nvm = { s.nvm with raw := t.nvm.raw, flogCount := t.nvm.flogCount } ∧ t = { s with flt := t.flt, nvm := t.nvm }

/-! ### The Fliyna Link Protocol -/

/-- The rows of FLP: session, command code, whether the operator alone may send it, and the message (R336). -/
def flpRow : Instr → Option (Fin 65 × Nat × Bool × HostMsg)
  | .connect n m => some (n, 0x01, false, m)
  | .disconnect n m => some (n, 0x02, false, m)
  | .flpPermute n m => some (n, 0x03, true, m)
  | .flpPin n m | .flpUnpin n m => some (n, 0x04, true, m)
  | .queryRoute n m => some (n, 0x05, false, m)
  | .queryElement n m => some (n, 0x06, true, m)
  | .subscribe n m => some (n, 0x07, false, m)
  | .ledgerRead n m => some (n, 0x08, false, m)
  | .ledgerAck n m => some (n, 0x09, true, m)
  | .gateLoad n m => some (n, 0x0A, true, m)
  | .modeReq n m => some (n, 0x0B, true, m)
  | .calReq n m => some (n, 0x0C, true, m)
  | .imageLoad n m => some (n, 0x0D, true, m)
  | .keyEnroll n m | .keyRevoke n m | .keyOwn n m => some (n, 0x0E, true, m)
  | .faultRead n m | .faultReadClear n m => some (n, 0x0F, true, m)
  | .regRead n m => some (n, 0x10, true, m)
  | .regWrite n m => some (n, 0x11, true, m)
  | _ => none

/-- The rows that submit a request: session, message, the word of SCH_REQ0, and the deadline's nanoseconds and seconds (R216, R337). -/
def flpSubmits : Instr → Option (Fin 65 × Nat × HostMsg × Word × Nat × Word)
  | .connect n m =>
    some (n, 1, m, routeWord 1 (leAt m.payload 0 2) (leAt m.payload 2 2) (if n = 0 then leAt m.payload 4 1 else n.val - 1), leAt m.payload 8 4,
      wordAt m.payload 12)
  | .disconnect n m =>
    some (n, 2, m, routeWord 2 (leAt m.payload 0 2) (leAt m.payload 2 2) 0, leAt m.payload 8 4, wordAt m.payload 12)
  | .flpPermute n m => some (n, 3, m, routeWord 3 0 0 0, leAt m.payload 0 4, wordAt m.payload 4)
  | .flpPin n m => some (n, 4, m, routeWord 4 (leAt m.payload 0 2) (leAt m.payload 2 2) 0, 0, 0)
  | .flpUnpin n m => some (n, 4, m, routeWord 5 (leAt m.payload 0 2) 0 0, 0, 0)
  | _ => none

/-- The payload of a submitting row is one that R337 and R340 accept: its length, its fields, its ports' owners, and for PERMUTE no
request before it. -/
def flpAllowed (e : Engine) : Instr → Prop
  | .connect n m =>
    m.payload.length = 16 ∧ leAt m.payload 5 3 = 0 ∧ leAt m.payload 8 4 ≤ 999999999 ∧ leAt m.payload 0 2 < e.variant.ports ∧
    leAt m.payload 2 2 < e.variant.ports ∧ leAt m.payload 4 1 < 64 ∧ (n ≠ 0 → leAt m.payload 4 1 = 0) ∧
    ownsPort e (if n = 0 then leAt m.payload 4 1 else n.val - 1) false (leAt m.payload 0 2) = true ∧
    ownsPort e (if n = 0 then leAt m.payload 4 1 else n.val - 1) true (leAt m.payload 2 2) = true
  | .disconnect n m =>
    m.payload.length = 16 ∧ leAt m.payload 5 3 = 0 ∧ leAt m.payload 8 4 ≤ 999999999 ∧ leAt m.payload 0 2 < e.variant.ports ∧
    leAt m.payload 2 2 < e.variant.ports ∧ leAt m.payload 4 1 < 64 ∧ (n ≠ 0 → leAt m.payload 4 1 = 0) ∧
    ownsPort e (if n = 0 then leAt m.payload 4 1 else n.val - 1) false (leAt m.payload 0 2) = true ∧
    ownsPort e (if n = 0 then leAt m.payload 4 1 else n.val - 1) true (leAt m.payload 2 2) = true ∧
    (n = 0 ∨ foreignConn e (leAt m.payload 0 2) (leAt m.payload 2 2) (n.val - 1) = false)
  | .flpPermute n m =>
    n = 0 ∧ m.payload.length = 16 + 4 * e.variant.ports ∧ leAt m.payload 0 4 ≤ 999999999 ∧ leAt m.payload 8 8 = 0 ∧
    ((wordsOf (m.payload.drop 16)).any fun w => w &&& 0x40FFFE00#32 != 0) = false ∧ foreignInput e (wordsOf (m.payload.drop 16)) = none ∧
    permuteBusy e = false
  | .flpPin n m =>
    n = 0 ∧ m.payload.length = 8 ∧ leAt m.payload 4 1 = 0 ∧ leAt m.payload 5 3 = 0 ∧ leAt m.payload 0 2 < e.variant.ports ∧
    leAt m.payload 2 2 < e.variant.ports
  | .flpUnpin n m =>
    n = 0 ∧ m.payload.length = 8 ∧ leAt m.payload 4 1 = 1 ∧ leAt m.payload 5 3 = 0 ∧ leAt m.payload 0 2 < e.variant.ports
  | _ => False

/-- The firmware of the ACTIVE member works at once, and no swap is in progress. -/
abbrev firmwareRuns (s : State) : Prop := s.eng.activeMember.isSome = true ∧ packReady s.eng ∧ s.eng.pak.overlap = false

/-- A host message reaches the firmware on the present edge. -/
abbrev flpHeard (s : State) (n : Fin 65) : Prop :=
  sessionsOpen s.eng = true ∧ (s.eng.session n).tls = true ∧ firmwareRuns s ∧ s.eng.turn = 0 ∧ (∀ l ∈ s.eng.mgt.txLast, l < s.eng.pak.seq)

/-- A host message on an open connection passes checks 1 to 4 of R332 and has a number above the session's last; the engine's next numbers
lie above the transmit queue's last one. -/
abbrev flpTaken (s : State) (n : Fin 65) (m : HostMsg) : Prop :=
  flpHeard s n ∧ m.version = 1 ∧ m.length.toNat = m.payload.length ∧ m.payload.length ≤ 65536 ∧ m.session.toNat = n.val ∧
  m.sender = 0xFF ∧ (s.eng.session n).lastSeq < m.seq.toNat ∧ s.eng.pak.seq + 2 < 2 ^ 64

/-- The engine that has taken a message's number (R332). -/
def taken (c : Instr) (s : State) (n : Fin 65) (m : HostMsg) : Engine :=
  let e := receive c s.eng
  acceptSeq n m.seq.toNat (e.setSession n { e.session n with idleFrom := s.eng.tick })

/-- The engine's messages gain the one response to a command, with an engine number: STATUS, DETAIL and data (R333, R334). -/
def answers (s : Engine) (n : Fin 65) (type : Nat) (m : HostMsg) (seq code detail : Nat) (data : List Byte) (t : Engine) : Prop :=
  t.mgt.tx = s.mgt.tx ++
    [{ type := type, session := n.val, sender := if s.activeMember = some true then 1 else 0, flags := 1, seq := seq,
       payload := leBytes 8 m.seq.toNat ++ leBytes 2 code ++ leBytes 2 detail ++ leBytes 4 0 ++ data, dtls := false }] ∧
  t.mgt.txLast = some seq

/-- The bus of a member. -/
def memberBus (sender : Bool) : Bus := { master := if sender then .memberB else .memberA, secure := false }

/-- A handshake has failed with an alert: it is counted, and the sixteenth within one second is reported (R329, R345). -/
def handshakeFails (s : Engine) (inProgress : Nat) (alert : NetReply) (t : Engine) : Prop :=
  t.reg Reg.mgtCnt = putFld (s.reg Reg.mgtCnt) 0 16 (min 65535 (s.rfld Reg.mgtCnt 0 16 + 1)) ∧ regsBut [Reg.mgtCnt] s t ∧
  t.mgt = { s.mgt with handshakes := inProgress, replies := s.mgt.replies ++ [alert],
                       failures := (s.mgt.failures.filter fun f => decide (s.tick < f + 250000000)) ++ [s.tick] } ∧
  reports t = (if 16 ≤ t.mgt.failures.length then reports s ++ [(113, 0)] else reports s) ∧
  t.flt = { s.flt with waiting := t.flt.waiting } ∧ t = { s with regs := t.regs, mgt := t.mgt, flt := t.flt }

/-- The result record of a session once the report of its command is applied and the record read (R340). -/
def reported340 (e : Submitted) (w ns : Word) (s : Engine) : ResultRec :=
  { valid := true, fresh := false, outcome := fld w 24 4, detail := fld w 16 4, cells := e.cells, blinks := e.blinks, reqSeq := e.hostSeq,
    sec := reportSec s ns.toNat, ns := ns.toNat }

/-- The engine's messages gain one notification or telemetry message of a type. -/
def notifies (s : Engine) (n : Fin 65) (type flags : Nat) (payload : List Byte) (dtls : Bool) (t : Engine) : Prop :=
  t.mgt.tx = s.mgt.tx ++
    [{ type := type, session := n.val, sender := if s.activeMember = some true then 1 else 0, flags := flags, seq := s.pak.seq,
       payload := payload, dtls := dtls }]

/-- A message as member firmware offers it to the transmit queue (R333). -/
def offered (sender : Bool) (n : Fin 65) (type flags : Byte) (seq : BitVec 64) (p : List Byte) : Msg :=
  { type := type.toNat, session := n.val, sender := if sender then 1 else 0, flags := flags.toNat, seq := seq.toNat, payload := p,
    dtls := false }

/-- What the firmware's messages and its bookkeeping change: the transmit queue, the engine's numbers, the inputs and the access log, and
the sessions. -/
def firmwareOnly (s t : Engine) : Prop :=
  t = { s with
    mgt := { s.mgt with tx := t.mgt.tx, txLast := t.mgt.txLast }, fw := { s.fw with sessions := t.fw.sessions },
    pak := { s.pak with seq := t.pak.seq, inputs := t.pak.inputs, logs := t.pak.logs }, nvm := { s.nvm with raw := t.nvm.raw } }

/-- The number of a message is in its session's record of the MRAM, and the rest of the MRAM's single records is as it was (R332, R378). -/
def numberKept (s : Engine) (n : Fin 65) (m : HostMsg) (t : Engine) : Prop :=
  get0 t.nvm.raw (sessWord n.val) = word m.seq.toNat ∧
  ∀ a, a < sessWord n.val ∨ sessWord n.val + 16 ≤ a → get0 t.nvm.raw a = get0 s.nvm.raw a

/-- Beside its response a command has changed nothing but its session, which is x now, and the session's record. -/
def answeredWith (s : Engine) (n : Fin 65) (m : HostMsg) (x : Session) (t : Engine) : Prop :=
  firmwareOnly s t ∧ t.session n = x ∧ (∀ k, k ≠ n → t.session k = s.session k) ∧ numberKept s n m t

/-- Beside its response a command has changed nothing but its session's number and idle time, and the session's record. -/
def answeredOnly (s : Engine) (n : Fin 65) (m : HostMsg) (t : Engine) : Prop :=
  answeredWith s n m { s.session n with lastSeq := m.seq.toNat, idleFrom := s.tick } t

/-! ### Modes -/

/-- The rows that write SYS_MODE_REQ. -/
def modeRow : Instr → Option (Bus × Mode)
  | .sysModeReqReset b => some (b, .reset)
  | .sysModeReqLoad b => some (b, .load)
  | .sysModeReqCalibrate b => some (b, .calibrate)
  | .sysModeReqHold b => some (b, .hold)
  | .sysModeReqRun b => some (b, .run)
  | .sysModeReqKennel b => some (b, .kennel)
  | _ => none

/-- The table of R391 for requests: no entry, an entry that accepts, or the reason for which the entry refuses. -/
def acceptsMode (e : Engine) (now asked : Mode) : Option (Option (Fin 16)) :=
  let ledger : Option (Fin 16) := if e.fw.ring = [] ∧ (∀ t : Fin 64, e.led.acc[t] = none) then none else some 6
  let ready : Option (Fin 16) :=
    if e.rbit Reg.thmStat 7 = true then some 5
    else if e.drv.clamped = false ∧ e.rbit Reg.sysPilotStat 0 = true ∧ 3 ≤ e.sys.sweepsSinceKennel.getD 0 then none
    else some 4
  match now, asked with
  | .kennel, .reset | .calibrate, .reset => some ledger
  | .load, .reset => if e.sys.recovery then some ledger else none
  | .calibrate, .kennel | .hold, .kennel | .run, .kennel | .hold, .run | .run, .hold => some none
  | .hold, .calibrate =>
    if ∀ i < e.variant.ports, mapConn (get0 e.rte.cur i) = false ∧ mapConn (get0 e.rte.base i) = false then some none else some (some 3)
  | .kennel, .calibrate | .kennel, .hold => some ready
  | .calibrate, .hold => if e.cal.phase = 4 then some (some 7) else some none
  | _, _ => none

/-! ### Safe states -/

/-- In RESET every clamp is closed (R102). -/
abbrev clampedInReset (s : State) : Prop := s.eng.mode = .reset → s.eng.drv.clamped = true

/-- Every waiting command spells a transfer of its row. -/
abbrev queueWellFormed (s : State) : Prop := ∀ c ∈ s.pending, wellFormed c = true

end Sys2Proof.Safety
end

