-- ==== Sys2Proof/Certificates/Slice0/Obligations.lean ====
section
/-! DEFINITION. What the model is to be proved of: one statement per group of commands, from the numbered rules of spec/. -/

open Sys2Proof Sys2Proof.Machine Sys2Proof.Safety

/-- A change of reference begins with the write of SRC and ends with SWITCHING 0 (R31). A missing reference is marked; the selected one's
loss enters holdover and reports CLK_REF_LOSS; its return ends it (R32); a loss of lock reports CLK_PLL_UNLOCK (R33). In RESET, whose
registers are held, the reference is noted as missing or present; what a loss of lock does there is the model's choice (log 86). -/
def Obligations.ClockReferences : Prop :=
  (∀ (s : State) (b : Bus) (v : Word), may s b → s.eng.switching = false →
    enters (.refChange b v) s fun e t =>
      t.reg Reg.sysClkCtl = v &&& 1 ∧ t.switching = (bit v 0 != s.eng.activeSrc) ∧ t.activeSrc = s.eng.activeSrc ∧
      (bit v 0 ≠ s.eng.activeSrc → t.clk = { s.eng.clk with target := bit v 0 }) ∧ (bit v 0 = s.eng.activeSrc → t.clk = s.eng.clk) ∧
      regsBut [Reg.sysClkCtl, Reg.sysClkStat] s.eng t ∧ t = { e with regs := t.regs, clk := t.clk }) ∧
  (∀ (s : State) (b : Bus) (v : Word), may s b → s.eng.switching = true →
    applies (.refChange b v) s fun e => e.setReg Reg.sysClkCtl (v &&& 1)) ∧
  (∀ s : State, s.eng.mode ≠ .reset → s.eng.switching = true →
    runs .refChangeComplete s fun t =>
      t.activeSrc = s.eng.clk.target ∧ t.switching = (bit (s.eng.reg Reg.sysClkCtl) 0 != s.eng.clk.target) ∧
      t.rbit Reg.sysClkStat 3 = s.eng.missing s.eng.clk.target ∧
      regsBut [Reg.sysClkStat] s.eng t ∧ t = { s.eng with regs := t.regs, clk := t.clk }) ∧
  (∀ (s : State) (tin : Bool), s.eng.mode ≠ .reset → s.eng.missing tin = false → s.eng.activeSrc = tin →
    runs (.refLoss tin) s fun t =>
      t.missing tin = true ∧ t.rbit Reg.sysClkStat 3 = true ∧ t.rbit Reg.sysClkStat (if tin then 5 else 4) = true ∧
      reports t = reports s.eng ++ [(0, 0)] ∧ regsBut [Reg.sysClkStat] s.eng t ∧
      t = { s.eng with regs := t.regs, clk := t.clk, flt := t.flt }) ∧
  (∀ (s : State) (tin : Bool), s.eng.mode ≠ .reset → s.eng.missing tin = false → s.eng.activeSrc ≠ tin →
    runs (.refLoss tin) s fun t =>
      t.missing tin = true ∧ t.rbit Reg.sysClkStat 3 = s.eng.rbit Reg.sysClkStat 3 ∧
      t.rbit Reg.sysClkStat (if tin then 5 else 4) = true ∧ regsBut [Reg.sysClkStat] s.eng t ∧
      t = { s.eng with regs := t.regs, clk := t.clk }) ∧
  (∀ (s : State) (tin : Bool), s.eng.mode ≠ .reset → s.eng.missing tin = true →
    runs (.refReturn tin) s fun t =>
      t.missing tin = false ∧ t.missing (!tin) = s.eng.missing (!tin) ∧ t.rbit Reg.sysClkStat 3 = t.missing s.eng.activeSrc ∧
      regsBut [Reg.sysClkStat] s.eng t ∧ t = { s.eng with regs := t.regs, clk := t.clk }) ∧
  (∀ s : State, s.eng.mode ≠ .reset → s.eng.locked = true →
    runs .pllUnlock s fun t =>
      t.locked = false ∧ t.rbit Reg.sysClkStat 6 = true ∧ reports t = reports s.eng ++ [(1, 0)] ∧
      regsBut [Reg.sysClkStat] s.eng t ∧ t = { s.eng with regs := t.regs, flt := t.flt }) ∧
  (∀ (s : State) (tin : Bool), s.eng.mode = .reset →
    (runs (.refLoss tin) s fun t => t.missing tin = true ∧ t.missing (!tin) = s.eng.missing (!tin) ∧ t = { s.eng with clk := t.clk }) ∧
    runs (.refReturn tin) s fun t => t.missing tin = false ∧ t.missing (!tin) = s.eng.missing (!tin) ∧ t = { s.eng with clk := t.clk })

/-- RESET is left for LOAD on the first edge with LOCK = 1 once RESET is released; its release samples BOOTSEL (R386 to R388, R391). With
BOOTSEL 0b11 the engine is in the recovery state (R398). References that are missing then show their sticky bits, and the selected one
holdover and its report (R32). -/
def Obligations.LoadEntry : Prop :=
  (∀ s : State, s.eng.sys.phase = .released → s.eng.locked = false → s.eng.missing s.eng.activeSrc = false →
    runs .pllLock s fun t =>
      t.mode = .load ∧ t.locked = true ∧ t.sys.phase = .out ∧ t.sys.recovery = (s.eng.sys.bootsel == 3) ∧ t.divTick = s.eng.tick ∧
      t.pak.cycle = 0 ∧ t.pak.boundary = s.eng.tick ∧
      t.rbit Reg.sysClkStat 4 = (s.eng.rbit Reg.sysClkStat 4 || s.eng.missing false) ∧
      t.rbit Reg.sysClkStat 5 = (s.eng.rbit Reg.sysClkStat 5 || s.eng.missing true) ∧ regsBut [Reg.sysClkStat] s.eng t ∧
      t = { s.eng with regs := t.regs, mode := t.mode, divTick := t.divTick, sys := t.sys, pak := t.pak, sch := t.sch }) ∧
  (∀ s : State, s.eng.sys.phase = .out → s.eng.locked = false →
    runs .pllLock s fun t => t.locked = true ∧ regsBut [Reg.sysClkStat] s.eng t ∧ t = { s.eng with regs := t.regs }) ∧
  (∀ (s : State) (pins : Fin 4), s.eng.sys.phase = .porHeld →
    becomes (.porstRelease pins) s { s.eng with sys := { s.eng.sys with phase := .released, bootsel := pins } }) ∧
  (∀ (s : State) (pins : Fin 4) (n : Nat), s.eng.sys.phase = .timed n → n + 25000 ≤ s.eng.tick →
    runs (.resetRelease pins) s fun t =>
      t.sys.bootsel = pins ∧
      (s.eng.locked = true → t.mode = .load ∧ t.sys.phase = .out ∧ t.divTick = s.eng.tick ∧ t.sys.recovery = (pins == 3) ∧
        reports t = reports s.eng ++ (if s.eng.missing s.eng.activeSrc then [(0, 0)] else []) ∧
        (s.eng.missing s.eng.activeSrc = true → t.rbit Reg.sysClkStat 3 = true)) ∧
      (s.eng.locked = false → t = { s.eng with sys := { s.eng.sys with phase := .released, bootsel := pins } }) ∧
      regsBut [Reg.sysClkStat] s.eng t ∧
      t = { s.eng with regs := t.regs, mode := t.mode, divTick := t.divTick, sys := t.sys, pak := t.pak, sch := t.sch, flt := t.flt }) ∧
  (∀ (s : State) (pins : Fin 4) (n : Nat), s.eng.sys.phase = .timed n → s.eng.tick < n + 25000 → idles (.resetRelease pins) s)

/-- The pilot's ON and LOW, against the set power of the image in use: ON is set at 90 % of it while the laser is enabled (R49); LOW is
set after 100 µs below 50 % and reported as PIL_LOW, and clears after 100 µs at or above it (R50). On leaving thermal shutdown the Kennel
image follows ON (R298). A reading on the other side of its threshold changes POWER alone. -/
def Obligations.PilotMonitor : Prop :=
  (∀ (s : State) (p : Fin 4096), s.eng.mode ≠ .reset → s.eng.sys.pilotOn = true → 9 * s.eng.pilotSet ≤ 10 * p.val →
    runs (.pilotOn p) s fun t =>
      t.rbit Reg.sysPilotStat 0 = true ∧ t.rfld Reg.sysPilotStat 16 12 = p.val ∧
      t.rbit Reg.sysPilotStat 2 = s.eng.rbit Reg.sysPilotStat 2 ∧
      (s.eng.pwr.recovering = false → regsBut [Reg.sysPilotStat] s.eng t ∧ t = { s.eng with regs := t.regs }) ∧
      (s.eng.pwr.recovering = true → s.eng.drv.clampHeld = false → s.eng.drv.loader = .idle →
        t.drv = { s.eng.drv with loader := .kennel false false s.eng.tick } ∧ regsBut [Reg.sysPilotStat] s.eng t ∧
        t = { s.eng with regs := t.regs, drv := t.drv })) ∧
  (∀ (s : State) (p : Fin 4096), s.eng.mode ≠ .reset → s.eng.sys.pilotOn = true → 2 * p.val < s.eng.pilotSet →
    s.eng.rbit Reg.sysPilotStat 2 = false →
    runs (.pilotLow p) s fun t =>
      t.rbit Reg.sysPilotStat 2 = true ∧ t.rbit Reg.sysPilotStat 3 = true ∧ t.rfld Reg.sysPilotStat 16 12 = p.val ∧
      reports t = reports s.eng ++ [(2, 0)] ∧ regsBut [Reg.sysPilotStat] s.eng t ∧
      t = { s.eng with regs := t.regs, flt := t.flt }) ∧
  (∀ (s : State) (p : Fin 4096), s.eng.mode ≠ .reset → s.eng.rbit Reg.sysPilotStat 2 = true → s.eng.pilotSet ≤ 2 * p.val →
    runs (.pilotLowClear p) s fun t =>
      t.rbit Reg.sysPilotStat 2 = false ∧ t.rbit Reg.sysPilotStat 3 = s.eng.rbit Reg.sysPilotStat 3 ∧
      t.rfld Reg.sysPilotStat 16 12 = p.val ∧ regsBut [Reg.sysPilotStat] s.eng t ∧ t = { s.eng with regs := t.regs }) ∧
  (∀ (s : State) (p : Fin 4096), s.eng.mode ≠ .reset → s.eng.sys.pilotOn = true →
    (10 * p.val < 9 * s.eng.pilotSet → becomes (.pilotOn p) s (setPilotPower p s.eng)) ∧
    (s.eng.pilotSet ≤ 2 * p.val → becomes (.pilotLow p) s (setPilotPower p s.eng)) ∧
    (s.eng.rbit Reg.sysPilotStat 2 = true → 2 * p.val < s.eng.pilotSet → becomes (.pilotLowClear p) s (setPilotPower p s.eng)))

/-- A route command on a free engine with a larger sequence number is accepted: RTE_LAST_SEQ_LO and _HI take it and VALID clears (R72,
R73); then ADD, REMOVE and PERMUTE that pass validation go into computation, and PIN and UNPIN set or clear the pin of the connection in
the base map, and in the current map where it has the same connection, and end OK at once (R67, R71, R74). An operation code outside ADD
to UNPIN ends BAD_OP and route commands outside HOLD and RUN end MODE (R71); a sequence number not above RTE_LAST_SEQ_HI/LO and a busy
engine are dropped with no result, setting only DUP or CMD_LOST (R72, R73). -/
def Obligations.RouteCommands : Prop :=
  (∀ (s : State) (b : Bus) (m : Bool) (i o : Fin 512) (t : Fin 64), may s b → s.eng.memberOf b = some m → routeFree s m →
    i.val < s.eng.variant.ports → o.val < s.eng.variant.ports → mapConn (get0 s.eng.rte.base i) = false →
    (∀ k < s.eng.variant.ports, mapConn (get0 s.eng.rte.base k) = true → mapOut (get0 s.eng.rte.base k) ≠ o.val) →
    becomes (.rteAdd b i o t) s (computing .add i o t (directReq s m (routeWord 1 i o t)) (accepts (.rteAdd b i o t) s (directReq s m (routeWord 1 i o t))))) ∧
  (∀ (s : State) (b : Bus) (m : Bool) (i o : Fin 512), may s b → s.eng.memberOf b = some m → routeFree s m →
    i.val < s.eng.variant.ports → o.val < s.eng.variant.ports → mapConn (get0 s.eng.rte.base i) = true →
    mapOut (get0 s.eng.rte.base i) = o.val → mapPinned (get0 s.eng.rte.base i) = false →
    becomes (.rteRemove b i o) s (computing .remove i o 0 (directReq s m (routeWord 2 i o 0)) (accepts (.rteRemove b i o) s (directReq s m (routeWord 2 i o 0))))) ∧
  (∀ (s : State) (b : Bus) (m : Bool), may s b → s.eng.memberOf b = some m → routeFree s m →
    validate s.eng .permute (directReq s m (routeWord 3 0 0 0)) = none →
    becomes (.rtePermute b) s (computing .permute 0 0 0 (directReq s m (routeWord 3 0 0 0)) (accepts (.rtePermute b) s (directReq s m (routeWord 3 0 0 0))))) ∧
  (∀ (s : State) (b : Bus) (m : Bool) (i o : Fin 512), may s b → s.eng.memberOf b = some m → routeFree s m →
    i.val < s.eng.variant.ports → o.val < s.eng.variant.ports → mapConn (get0 s.eng.rte.base i) = true →
    mapOut (get0 s.eng.rte.base i) = o.val →
    enters (.rtePin b i o) s fun e t =>
      get0 t.rte.base i = putBit (get0 s.eng.rte.base i) 30 true ∧
      (∀ k, k ≠ i.val → get0 t.rte.base k = get0 s.eng.rte.base k ∧ get0 t.rte.cur k = get0 s.eng.rte.cur k) ∧
      (sameConnection s i → get0 t.rte.cur i = putBit (get0 s.eng.rte.cur i) 30 true) ∧
      (¬ sameConnection s i → get0 t.rte.cur i = get0 s.eng.rte.cur i) ∧ t.sch.issued = none ∧
      t.rfld Reg.rteResult 24 4 = 0 ∧ t.rbit Reg.rteResult 31 = true ∧ t.reg Reg.rteResultSeqLo = word (stagedSeq s m) ∧
      regsBut (Reg.rteLastSeqLo :: Reg.rteLastSeqHi :: resultRegs) s.eng t ∧
      t = { e with regs := t.regs, rte := t.rte, sch := t.sch, fw := t.fw }) ∧
  (∀ (s : State) (b : Bus) (m : Bool) (i : Fin 512), may s b → s.eng.memberOf b = some m → routeFree s m →
    i.val < s.eng.variant.ports → mapConn (get0 s.eng.rte.base i) = true →
    enters (.rteUnpin b i) s fun e t =>
      get0 t.rte.base i = putBit (get0 s.eng.rte.base i) 30 false ∧
      (∀ k, k ≠ i.val → get0 t.rte.base k = get0 s.eng.rte.base k ∧ get0 t.rte.cur k = get0 s.eng.rte.cur k) ∧
      (sameConnection s i → get0 t.rte.cur i = putBit (get0 s.eng.rte.cur i) 30 false) ∧
      (¬ sameConnection s i → get0 t.rte.cur i = get0 s.eng.rte.cur i) ∧ t.sch.issued = none ∧
      t.rfld Reg.rteResult 24 4 = 0 ∧ t.rbit Reg.rteResult 31 = true ∧ t.reg Reg.rteResultSeqLo = word (stagedSeq s m) ∧
      regsBut (Reg.rteLastSeqLo :: Reg.rteLastSeqHi :: resultRegs) s.eng t ∧
      t = { e with regs := t.regs, rte := t.rte, sch := t.sch, fw := t.fw }) ∧
  (∀ (s : State) (b : Bus) (m : Bool) (op : Fin 16), may s b → s.eng.memberOf b = some m → routeFree s m → op.val = 0 ∨ 5 < op.val →
    runs (.rteBadOp b op) s fun t =>
      t.rfld Reg.rteResult 24 4 = 6 ∧ t.rbit Reg.rteResult 31 = true ∧ t.sch.issued = none ∧ t.rte.base = s.eng.rte.base ∧
      t.rte.cur = s.eng.rte.cur ∧ t.reg Reg.rteResultSeqLo = word (stagedSeq s m) ∧
      regsBut (Reg.rteLastSeqLo :: Reg.rteLastSeqHi :: Reg.schStat :: resultRegs) s.eng t) ∧
  (∀ (s : State) (c : Instr) (b : Bus) (m : Bool) (w : Word), directWrite c = some (b, w) → wellFormed c = true → may s b →
    s.eng.memberOf b = some m → routeNumber s m → s.eng.rte.job = none → s.eng.rte.held = none → s.eng.mode ≠ .hold → s.eng.mode ≠ .run →
    runs c s fun t =>
      t.rfld Reg.rteResult 24 4 = 5 ∧ t.rbit Reg.rteResult 31 = true ∧ t.sch.issued = none ∧ t.rte.base = s.eng.rte.base ∧
      t.rte.cur = s.eng.rte.cur ∧ t.rte.job = none) ∧
  (∀ (s : State) (c : Instr) (b : Bus) (m : Bool) (w : Word), directWrite c = some (b, w) → wellFormed c = true → may s b →
    s.eng.memberOf b = some m → s.eng.rte.accepted = true →
    stagedSeq s m ≤ (s.eng.reg Reg.rteLastSeqHi).toNat * 2 ^ 32 + (s.eng.reg Reg.rteLastSeqLo).toNat →
    applies c s fun e => e.putRbit Reg.rteStat 3 true) ∧
  (∀ (s : State) (c : Instr) (b : Bus) (m : Bool) (w : Word), directWrite c = some (b, w) → wellFormed c = true → may s b →
    s.eng.memberOf b = some m → routeNumber s m → (s.eng.rte.job.isSome = true ∨ s.eng.rte.held.isSome = true) →
    applies c s fun e => e.putRbit Reg.rteStat 4 true)

/-- A computation ends OK: its result is ready, waits for the builder and is the base map, and its request holds its charge: 2 units per
changed cell and the flat cost for a tenant, taken from its credit after a refill on the same edge, nothing for the operator (R62, R68,
R72, R74, R222, R224). It ends PINNED_CONFLICT where the looping algorithm finds no route (R66), ABORTED after RTE_CTL.ABORT (R76), and
BASE_CANCELLED where its base was cancelled (R75; before ABORTED where both hold: the model's choice, log 88): such a result shows no
changed cell and no blink, and leaves the maps alone. In HOLD or RUN the builder takes the waiting result as the commit when the staged
half is free, and writes the staged entry of every element of a changed cell, in both planes, with the live tables for its new state, and
no other entry (R24, R37, R72); at its end the commit waits built in HOLD, and in RUN its verification is asked for, which locks the
staged half (R22, R232). -/
def Obligations.RouteResults : Prop :=
  (∀ (s : State) (j : RouteJob) (i : Issued) (r : RouteResult), s.eng.rte.job = some j → s.eng.sch.issued = some i →
    j.cancelled = false → j.aborted = false → computeRoute s.eng j = some r →
    runs .routeComplete s fun t =>
      t.rte = { s.eng.rte with job := none, held := some r, base := r.map, cellsBase := r.cells, cellmap := r.cells,
                               changed := r.changed, blink := r.blink } ∧
      t.rfld Reg.rteResult 30 2 = 3 ∧ t.rfld Reg.rteResult 24 4 = 0 ∧ t.rfld Reg.rteResult 0 13 = r.changed.length % 2 ^ 13 ∧
      t.rfld Reg.rteResult 13 10 = r.blink.length % 2 ^ 10 ∧ t.reg Reg.rteEnergy = word r.energy ∧
      t.reg Reg.rteCycles = word (min (4 * (s.eng.tick - j.start)) 0xFFFF) ∧ t.reg Reg.rteResultSeqLo = word j.seq ∧
      t.reg Reg.rteResultSeqHi = word (j.seq / 2 ^ 32) ∧
      t.sch.issued = some { i with
        cost := if i.req.requester < 64 then 2 * r.changed.length + s.eng.rfld Reg.schCost 0 16 else 0, done := true } ∧
      (i.req.requester < 64 → 0 < 2 * r.changed.length + s.eng.rfld Reg.schCost 0 16 →
        t.reg (Reg.schTbCredit i.req.requester) =
          wordOfInt (max (-(2 ^ 31)) (creditOf (refillEdge s.eng) i.req.requester - (2 * r.changed.length + s.eng.rfld Reg.schCost 0 16 : Nat)))) ∧
      regsBut (creditRegs ++ resultRegs) s.eng t ∧
      (64 ≤ i.req.requester ∨ refillEdge s.eng = s.eng → t.sch = { s.eng.sch with issued := t.sch.issued } ∧ t.pwr = s.eng.pwr) ∧
      (64 ≤ i.req.requester → regsBut resultRegs s.eng t) ∧
      t.fw = { s.eng.fw with submitted := t.fw.submitted } ∧
      t = { s.eng with regs := t.regs, rte := t.rte, sch := t.sch, pwr := t.pwr, fw := t.fw }) ∧
  (∀ (s : State) (j : RouteJob) (i : Issued), s.eng.rte.job = some j → s.eng.sch.issued = some i →
    (j.cancelled = true ∨ j.aborted = true ∨ computeRoute s.eng j = none) →
    runs .routeComplete s fun t =>
      t.rte = { s.eng.rte with job := none, cellmap := s.eng.rte.cellsBase, changed := [], blink := [] } ∧
      t.sch.issued = none ∧ t.rfld Reg.rteResult 30 2 = 3 ∧
      t.rfld Reg.rteResult 24 4 = (if j.cancelled then 8 else if j.aborted then 7 else 1) ∧
      t.rfld Reg.rteResult 0 13 = 0 ∧ t.rfld Reg.rteResult 13 10 = 0 ∧
      t.reg Reg.rteResultSeqLo = word j.seq ∧ regsBut (Reg.schStat :: resultRegs) s.eng t ∧
      t.sch = { s.eng.sch with issued := none, outs := t.sch.outs } ∧ t.fw = { s.eng.fw with submitted := t.fw.submitted } ∧
      t = { s.eng with regs := t.regs, rte := t.rte, sch := t.sch, fw := t.fw }) ∧
  (∀ (s : State) (b : Bus) (j : RouteJob), may s b → s.eng.rte.job = some j →
    applies (.rteAbort b) s fun e => { e with rte := { s.eng.rte with job := some { j with aborted := true } } }) ∧
  (∀ (s : State) (h : RouteResult) (i : Issued), s.eng.rte.held = some h → s.eng.sch.issued = some i →
    (s.eng.mode = .hold ∨ s.eng.mode = .run) → s.eng.builderFree = true → s.eng.drv.lock = .free →
    runs .buildStart s fun t =>
      t.rte = { s.eng.rte with held := none } ∧
      t.sch = { s.eng.sch with issued := none, commit := some { req := i.req, cost := i.cost, result := h, stage := .building } } ∧
      (∀ e ∈ elementsOf s.eng.variant h.changed,
        get0 t.drv.staged e = entryFor s.eng.cal.live.words e (h.cells.contains (cellOf s.eng.variant e))) ∧
      (∀ e, e ∉ elementsOf s.eng.variant h.changed → get0 t.drv.staged e = get0 s.eng.drv.staged e) ∧
      t.drv = { s.eng.drv with staged := t.drv.staged, crcStaged := t.drv.crcStaged, dirty := t.drv.dirty, rangeHold := t.drv.rangeHold } ∧
      t = { s.eng with rte := t.rte, sch := t.sch, drv := t.drv }) ∧
  (∀ (s : State) (c : Commit), s.eng.sch.commit = some c → c.stage = .building → s.eng.mode = .hold →
    becomes .buildComplete s { s.eng with sch.commit := some { c with stage := .built } }) ∧
  (∀ (s : State) (c : Commit), s.eng.sch.commit = some c → c.stage = .building → s.eng.mode = .run →
    becomes .buildComplete s { s.eng with
      sch.commit := some { c with stage := .verifying }, drv.loader := .verify s.eng.tick, drv.lock := .held })

/-- A pass that finds every dirty tile right transfers those tiles to the cells' staged registers and reports the commit verified (R86).
Of the wrong tiles the first in ascending order sets TILE_ERR and DRV_VERIFY and raises SET_TILE_CRC; the right ones are transferred, and
the commit, or the fold of full calibration, is cancelled (R87). The re-seed of a cancelled commit restores every dirty tile of the staged
half, and of the cells' staged registers, from the active half, clears the marks and releases the staged half (R88). A scrub step checks
one tile and goes on to the next, with an area that begins anew after its last tile and a locked staged half skipped (R89): a wrong staged
tile is re-seeded from the active half, or cancels a commit that is being built or awaits its verification; a wrong active tile is
reported as BAD_HALF; a wrong Kennel tile is reloaded and reported only if it is still wrong (R434). -/
def Obligations.DriveLoader : Prop :=
  (∀ (s : State) (n : Nat), s.eng.drv.loader = .verify n → s.eng.drv.reseedDue = false →
    (∀ t ∈ s.eng.drv.dirty, tileCrc s.eng.drv.staged t = get0 s.eng.drv.crcStaged t) →
    becomes (.verifyComplete []) s { s.eng with
      drv := { s.eng.drv with
        loader := .idle, cellStaged := s.eng.drv.dirty.foldl (copyTile s.eng.drv.staged) s.eng.drv.cellStaged },
      sch := { s.eng.sch with commit := s.eng.sch.commit.map fun c => { c with stage := .waiting s.eng.tick false } } }) ∧
  (∀ (s : State) (n : Nat) (c : Commit) (t0 : Nat) (l1 l2 : List Nat) (flips : List (Nat × Word)), s.eng.drv.loader = .verify n →
    s.eng.drv.reseedDue = false → s.eng.drv.dirty = l1 ++ t0 :: l2 → t0 < 256 → s.eng.sch.commit = some c → c.stage = .verifying →
    (∀ t ∈ l1, tileCrc (upset s.eng.drv.staged flips) t = get0 s.eng.drv.crcStaged t) →
    tileCrc (upset s.eng.drv.staged flips) t0 ≠ get0 s.eng.drv.crcStaged t0 →
    runs (.verifyComplete flips) s fun t =>
      t.rbit Reg.drvStat 8 = true ∧ t.rfld Reg.drvVerify 16 8 = t0 ∧ t.rbit Reg.drvVerify 15 = false ∧ t.rbit Reg.drvVerify 14 = false ∧
      reports t = reports s.eng ++ [(64, word t0)] ∧ t.sch.commit = none ∧
      (s.eng.rte.held = none → s.eng.sch.outs.length < 64 → reported s.eng (word s.eng.nowSubNs) 6 0 c.req t) ∧
      t.drv = { s.eng.drv with
        staged := upset s.eng.drv.staged flips, loader := .idle, reseedDue := true, lock := .held, cellStaged := t.drv.cellStaged } ∧
      t.drv.cellStaged = (s.eng.drv.dirty.filter fun x =>
        tileCrc (upset s.eng.drv.staged flips) x == get0 s.eng.drv.crcStaged x).foldl
          (copyTile (upset s.eng.drv.staged flips)) s.eng.drv.cellStaged ∧
      t = { s.eng with regs := t.regs, flt := t.flt, drv := t.drv, evt := t.evt, rte := t.rte, sch := t.sch }) ∧
  (∀ (s : State) (n t0 : Nat) (l : List Nat) (flips : List (Nat × Word)), s.eng.drv.loader = .verify n →
    s.eng.drv.reseedDue = false → s.eng.drv.dirty = t0 :: l → t0 < 256 → s.eng.sch.commit = none → s.eng.cal.fold = .building →
    tileCrc (upset s.eng.drv.staged flips) t0 ≠ get0 s.eng.drv.crcStaged t0 →
    runs (.verifyComplete flips) s fun t =>
      t.rbit Reg.drvStat 8 = true ∧ t.rfld Reg.drvVerify 16 8 = t0 ∧ reports t = reports s.eng ++ [(64, word t0)] ∧
      t.cal.fold = .none ∧ t.cal.phase = 0 ∧ t.rfld Reg.calStat 28 4 = 4 ∧ t.drv.reseedDue = true ∧ t.drv.lock = .held ∧
      t.drv.loader = .idle ∧ t = { s.eng with regs := t.regs, flt := t.flt, drv := t.drv, cal := t.cal, fw := t.fw }) ∧
  (∀ s : State, s.eng.drv.reseedDue = true →
    becomes .reseed s { s.eng with drv.reseedDue := false, drv.loader := .reseed s.eng.tick, drv.lock := .held }) ∧
  (∀ (s : State) (n : Nat), s.eng.drv.loader = .reseed n → s.eng.drv.waiting = [] →
    runs .reseedComplete s fun t =>
      (∀ tile ∈ s.eng.drv.dirty, ∀ i < 256, get0 t.drv.staged (256 * tile + i) = get0 s.eng.drv.active (256 * tile + i) ∧
        get0 t.drv.cellStaged (256 * tile + i) = get0 s.eng.drv.active (256 * tile + i)) ∧
      (∀ e, e / 256 ∉ s.eng.drv.dirty → get0 t.drv.staged e = get0 s.eng.drv.staged e ∧
        get0 t.drv.cellStaged e = get0 s.eng.drv.cellStaged e) ∧
      t.drv = { s.eng.drv with
        staged := t.drv.staged, cellStaged := t.drv.cellStaged, crcStaged := t.drv.crcStaged, rangeHold := t.drv.rangeHold, dirty := [],
        loader := .idle, reseedDue := false, lock := .free } ∧
      regsBut [Reg.drvStat] s.eng t ∧ (s.eng.drv.rangeHold = [] → t.regs = s.eng.regs) ∧
      t = { s.eng with regs := t.regs, drv := t.drv }) ∧
  (∀ s : State, scrubsNow s → s.eng.drv.scrubArea = 1 →
    tileCrc s.eng.drv.active s.eng.drv.scrubTile = get0 s.eng.drv.crcActive s.eng.drv.scrubTile →
    becomes (.scrubTile []) s { s.eng with
      drv.scrubArea := if s.eng.drv.scrubTile + 1 < s.eng.variant.tiles then 1 else 2,
      drv.scrubTile := if s.eng.drv.scrubTile + 1 < s.eng.variant.tiles then s.eng.drv.scrubTile + 1 else 0, drv.scrubTick := s.eng.tick }) ∧
  (∀ s : State, scrubsNow s → s.eng.drv.scrubArea = 0 → s.eng.stagedLocked = true → 1 < s.eng.variant.tiles →
    tileCrc s.eng.drv.active 0 = get0 s.eng.drv.crcActive 0 →
    becomes (.scrubTile []) s { s.eng with drv.scrubArea := 1, drv.scrubTile := 1, drv.scrubTick := s.eng.tick }) ∧
  (∀ (s : State) (flips : List (Nat × Word)), scrubsNow s → s.eng.drv.scrubArea = 1 → s.eng.drv.scrubTile < 256 →
    s.eng.drv.crcActive ≠ [] →
    tileCrc (upset s.eng.drv.active flips) s.eng.drv.scrubTile ≠ get0 s.eng.drv.crcActive s.eng.drv.scrubTile →
    runs (.scrubTile flips) s fun t =>
      t.rbit Reg.drvStat 8 = true ∧ t.rbit Reg.drvVerify 15 = true ∧ t.rfld Reg.drvVerify 16 8 = s.eng.drv.scrubTile ∧
      reports t = reports s.eng ++ [(64, word (s.eng.drv.scrubTile + 256))] ∧ regsBut [Reg.drvStat, Reg.drvVerify] s.eng t ∧
      t.drv = { s.eng.drv with active := upset s.eng.drv.active flips, scrubArea := t.drv.scrubArea, scrubTile := t.drv.scrubTile,
                               scrubTick := s.eng.tick } ∧
      t = { s.eng with regs := t.regs, drv := t.drv, flt := t.flt }) ∧
  (∀ (s : State) (flips : List (Nat × Word)), scrubsNow s → s.eng.drv.scrubArea = 0 → s.eng.stagedLocked = false →
    s.eng.drv.scrubTile < 256 → s.eng.drv.crcStaged ≠ [] → s.eng.unverifiedCommit = false → s.eng.cal.fold ≠ .building →
    tileCrc (upset s.eng.drv.staged flips) s.eng.drv.scrubTile ≠ get0 s.eng.drv.crcStaged s.eng.drv.scrubTile →
    runs (.scrubTile flips) s fun t =>
      t.rbit Reg.drvStat 8 = true ∧ t.rbit Reg.drvVerify 15 = false ∧ t.rfld Reg.drvVerify 16 8 = s.eng.drv.scrubTile ∧
      reports t = reports s.eng ++ [(64, word s.eng.drv.scrubTile)] ∧
      (∀ i < 256, get0 t.drv.staged (256 * s.eng.drv.scrubTile + i) = get0 s.eng.drv.active (256 * s.eng.drv.scrubTile + i)) ∧
      t.drv.dirty = s.eng.drv.dirty.filter (· != s.eng.drv.scrubTile) ∧ t.drv.active = s.eng.drv.active ∧
      t.drv.cellActive = s.eng.drv.cellActive ∧
      regsBut [Reg.drvStat, Reg.drvVerify] s.eng t ∧ t = { s.eng with regs := t.regs, drv := t.drv, flt := t.flt }) ∧
  (∀ (s : State) (flips : List (Nat × Word)), scrubsNow s → s.eng.drv.scrubArea = 0 → s.eng.stagedLocked = false →
    s.eng.drv.scrubTile < 256 → s.eng.drv.crcStaged ≠ [] → s.eng.unverifiedCommit = true →
    tileCrc (upset s.eng.drv.staged flips) s.eng.drv.scrubTile ≠ get0 s.eng.drv.crcStaged s.eng.drv.scrubTile →
    runs (.scrubTile flips) s fun t =>
      t.rbit Reg.drvStat 8 = true ∧ t.rfld Reg.drvVerify 16 8 = s.eng.drv.scrubTile ∧
      reports t = reports s.eng ++ [(64, word s.eng.drv.scrubTile)] ∧ t.sch.commit = none ∧ t.drv.reseedDue = true ∧
      t.drv.lock = .held ∧ t.drv.active = s.eng.drv.active ∧ t.drv.cellActive = s.eng.drv.cellActive) ∧
  (∀ (s : State) (flips : List (Nat × Word)), scrubsNow s → s.eng.drv.scrubArea = 2 → s.eng.drv.kennelCrc ≠ [] →
    tileCrc (upset s.eng.drv.kennelBuf flips) s.eng.drv.scrubTile ≠ get0 s.eng.drv.kennelCrc s.eng.drv.scrubTile →
    runs (.scrubTile flips) s fun t =>
      t.drv.scrubFix = some s.eng.drv.scrubTile ∧
      t.drv = { s.eng.drv with kennelBuf := upset s.eng.drv.kennelBuf flips, scrubArea := t.drv.scrubArea, scrubTile := t.drv.scrubTile,
                               scrubTick := s.eng.tick, scrubFix := t.drv.scrubFix } ∧
      t = { s.eng with drv := t.drv }) ∧
  (∀ (s : State) (tile : Nat), s.eng.drv.scrubFix = some tile →
    runs (.kennelScrubReload [] none) s fun t =>
      get0 t.drv.kennelCrc tile = tileCrc s.eng.nvm.kenSel tile ∧
      (∀ i < 256, get0 t.drv.kennelBuf (256 * tile + i) = get0 s.eng.nvm.kenSel (256 * tile + i)) ∧
      (∀ e, e / 256 ≠ tile → get0 t.drv.kennelBuf e = get0 s.eng.drv.kennelBuf e) ∧
      t.drv = { s.eng.drv with scrubFix := none, kennelBuf := t.drv.kennelBuf, kennelCrc := t.drv.kennelCrc } ∧
      t = { s.eng with drv := t.drv }) ∧
  (∀ (s : State) (tile : Nat) (a : Fin 16777216), s.eng.drv.scrubFix = some tile → tile < 256 →
    runs (.kennelScrubReload [] (some a)) s fun t =>
      t.rbit Reg.drvStat 8 = true ∧ t.rbit Reg.drvVerify 14 = true ∧ t.rfld Reg.drvVerify 16 8 = tile ∧
      reports t = reports s.eng ++ [(104, word a), (64, word (tile + 512))] ∧
      t.drv = { s.eng.drv with scrubFix := none, kennelBuf := t.drv.kennelBuf, kennelCrc := t.drv.kennelCrc } ∧
      regsBut [Reg.drvStat, Reg.drvVerify] s.eng t ∧ t = { s.eng with regs := t.regs, drv := t.drv, flt := t.flt })

/-- The Whistle of a commit (R62, R74, R90 to R93): on an acknowledging branch a cell whose registers differ loads its staged word and
every other cell keeps its own; setpoint memory keeps a copy in the active half; the commit's map is the current map with the pins of the
base map; the Whistle is counted; its FIRED report is due; and comparator 0 is disarmed. -/
def Obligations.WhistleEffect : Prop :=
  ∀ (s : State) (missed : List (Fin 34)) (c : Commit), s.eng.mode ≠ .reset → commitDue s.eng = some c →
    runs (.whistle missed) s fun t =>
      (∀ e, get0 t.drv.cellActive e = if branchOf s.eng e ∈ missed.map Fin.val then get0 s.eng.drv.cellActive e
        else get0 s.eng.drv.cellStaged e) ∧
      t.drv.active = s.eng.drv.staged ∧ t.drv.staged = s.eng.drv.staged ∧ t.drv.cellStaged = s.eng.drv.cellStaged ∧ t.drv.dirty = [] ∧
      t.drv.lock = .untilTick (s.eng.tick + 1) ∧ t.drv.kennelFlag = false ∧ t.drv.clamped = s.eng.drv.clamped ∧
      t.rte = { s.eng.rte with cur := withPins s.eng.variant s.eng.rte.base c.result.map, cellsCur := c.result.cells } ∧
      t.reg Reg.drvWhistleCnt = s.eng.reg Reg.drvWhistleCnt + 1 ∧
      t.sch = { s.eng.sch with commit := none, wPrev := s.eng.tick, fired := some (s.eng.tick, c.req, word s.eng.nowSubNs), eResv := 0 } ∧
      t.rbit (Reg.timCmpCtl 0) 0 = false ∧ t.rbit (Reg.timCmpStat 0) 0 = true ∧ t.tim.cmps[0].armed = none ∧
      t.pwr.blankEnd = some (s.eng.tick + 500) ∧ t.pwr.eFired = s.eng.pwr.eFired + c.result.energy ∧
      events t = events s.eng ++ [0xA2] ∧
      t = { s.eng with regs := t.regs, drv := t.drv, sns := t.sns, lps := t.lps, rte := t.rte, sch := t.sch, led := t.led, pwr := t.pwr,
                       tim := t.tim, evt := t.evt }

/-- At T + 4 each silent branch is marked in ACKMAP and DRV_WHISTLE_ACK is reported once for the lowest; where none is silent nothing is
(R93). DRV_RESUME takes one element, or all with bit 31, out of suspension, and DRV_FLT_FIFO gives its oldest entry (R101). An element
whose step reaches MIN_DV and whose charge stays below PCT of the expected one is suspended and OPEN is raised with it as the locus; one
that draws the expected charge is not. A static output current above LIMIT that has held for its dwell, with no output step in the last
250 TICK, suspends its element and raises LEAK; one at or below LIMIT, too short, or blanked, does nothing (R99 to R101). -/
def Obligations.DriveChecks : Prop :=
  (∀ (s : State) (l : LastWhistle) (b : Nat) (bs : List Nat), s.eng.drv.last = some l → l.ackChecked = false → l.edge + 4 ≤ s.eng.tick →
    l.missed.foldl (fun acc b => insertNat b acc) [] = b :: bs →
    runs .whistleAckCheck s fun t =>
      t.rbit Reg.drvStat 9 = true ∧ t.reg Reg.drvAckmapLo = s.eng.reg Reg.drvAckmapLo ||| maskWord (b :: bs) 0 ∧
      t.reg Reg.drvAckmapHi = s.eng.reg Reg.drvAckmapHi ||| maskWord (b :: bs) 1 ∧ reports t = reports s.eng ++ [(18, word b)] ∧
      regsBut [Reg.drvStat, Reg.drvAckmapLo, Reg.drvAckmapHi] s.eng t ∧
      t = { s.eng with regs := t.regs, drv := { s.eng.drv with last := some { l with ackChecked := true } }, flt := t.flt }) ∧
  (∀ (s : State) (l : LastWhistle), s.eng.drv.last = some l → l.ackChecked = false → l.edge + 4 ≤ s.eng.tick → l.missed = [] →
    becomes .whistleAckCheck s { s.eng with drv := { s.eng.drv with last := some { l with ackChecked := true } } }) ∧
  (∀ (s : State) (b : Bus) (v : Word), may s b →
    applies (.drvResume b v) s fun e => { e with drv.susp := if bit v 31 then [] else e.drv.susp.filter (· != fld v 0 16) }) ∧
  (∀ (s : State) (b : Bus) (k e : Nat) (l : List (Nat × Nat)), may s b → s.eng.drv.fifo = (k, e) :: l → k < 4 → e < 65536 →
    enters (.drvFltFifoRead b) s fun e0 t =>
      fld (lastRead t b) 0 16 = e ∧ fld (lastRead t b) 16 2 = k ∧ bit (lastRead t b) 31 = true ∧
      t = { e0 with rdata := t.rdata, drv := { s.eng.drv with fifo := l } }) ∧
  (∀ (s : State) (l : LastWhistle) (e q : Nat), s.eng.mode ≠ .reset → s.eng.drv.last = some l → l.openChecked = false →
    l.edge + 19 ≤ s.eng.tick → s.eng.rbit Reg.drvCtl 0 = true → l.changed = [e] → s.eng.drv.fifo.length < 64 →
    s.eng.rfld Reg.drvOpenThr 8 8 * 65536 ≤ 10 * stepOf s l e →
    q * 100 * 65536 < s.eng.rfld Reg.drvOpenThr 0 7 * (capacitance s.eng.cal.live.words e * stepOf s l e * 1000) →
    becomes (.openCheck [(e, q)]) s ({ s.eng with
      drv := { s.eng.drv with last := some { l with openChecked := true }, susp := insertNat e s.eng.drv.susp,
                              fifo := s.eng.drv.fifo ++ [(1, e)] } }.raise 16 e)) ∧
  (∀ (s : State) (l : LastWhistle) (e q : Nat), s.eng.mode ≠ .reset → s.eng.drv.last = some l → l.openChecked = false →
    l.edge + 19 ≤ s.eng.tick → l.changed = [e] →
    s.eng.rfld Reg.drvOpenThr 0 7 * (capacitance s.eng.cal.live.words e * stepOf s l e * 1000) ≤ q * 100 * 65536 →
    becomes (.openCheck [(e, q)]) s { s.eng with drv.last := some { l with openChecked := true } }) ∧
  (∀ (s : State) (e : Fin 34816) (excess since : Nat), s.eng.mode ≠ .reset → s.eng.drv.clamped = false → s.eng.rbit Reg.drvCtl 1 = true →
    e.val < s.eng.variant.elements → s.eng.drv.fifo.length < 64 → s.eng.rfld Reg.drvLeakThr 0 8 < excess →
    since + 2500 * s.eng.rfld Reg.drvLeakThr 16 8 ≤ s.eng.tick → leakBlanked s.eng e = false →
    becomes (.leakDetect e excess since) s ({ s.eng with
      drv := { s.eng.drv with susp := insertNat e.val s.eng.drv.susp, fifo := s.eng.drv.fifo ++ [(2, e.val)] } }.raise 17 e.val)) ∧
  (∀ (s : State) (e : Fin 34816) (excess since : Nat),
    (excess ≤ s.eng.rfld Reg.drvLeakThr 0 8 ∨ s.eng.tick < since + 2500 * s.eng.rfld Reg.drvLeakThr 16 8 ∨ leakBlanked s.eng e = true) →
    idles (.leakDetect e excess since) s)

/-- The Kennel pass that finds every tile of the buffer right, which LOAD first loads from MRAM, puts the image into the staged half and
the cells and arms its Whistle for the next TICK (R103, R104); a wrong tile sends it to MRAM, and after the reload it is verified again; a
tile that is wrong twice closes and holds every clamp (R105). The Kennel Whistle opens the clamps, loads every cell of an acknowledging
branch and sets KENNEL (R102, R103); in LOAD it enables the pilot (R49). -/
def Obligations.KennelImage : Prop :=
  (∀ (s : State) (r : Bool) (n : Nat), s.eng.drv.loader = .kennel false r n → s.eng.mode ≠ .load → badKennelTiles s.eng = [] →
    runs (.kennelApply []) s fun t =>
      t.drv = { s.eng.drv with staged := s.eng.drv.kennelBuf, crcStaged := s.eng.drv.kennelCrc, cellStaged := s.eng.drv.kennelBuf,
                               dirty := [], loader := .kennel true r s.eng.tick } ∧
      t.rbit (Reg.timCmpCtl 0) 0 = true ∧ t.tim.cmps[0].armed = some (s.eng.tick + 1) ∧ events t = events s.eng ++ [0xA3] ∧
      t = { s.eng with regs := t.regs, drv := t.drv, tim := t.tim, evt := t.evt }) ∧
  (∀ (s : State) (r : Bool) (n : Nat), s.eng.drv.loader = .kennel false r n → s.eng.mode = .load →
    runs (.kennelApply []) s fun t =>
      t.drv.kennelBuf = s.eng.nvm.kenSel ∧ t.drv.staged = s.eng.nvm.kenSel ∧ t.drv.cellStaged = s.eng.nvm.kenSel ∧
      t.drv.loader = .kennel true r s.eng.tick ∧ t.drv.cellActive = s.eng.drv.cellActive ∧ t.drv.active = s.eng.drv.active ∧
      t.rbit (Reg.timCmpCtl 0) 0 = true ∧ t = { s.eng with regs := t.regs, drv := t.drv, tim := t.tim, evt := t.evt }) ∧
  (∀ (s : State) (n tile : Nat) (l : List Nat), s.eng.drv.loader = .kennel false false n → s.eng.mode ≠ .load →
    badKennelTiles s.eng = tile :: l →
    becomes (.kennelApply []) s { s.eng with drv.loader := .kennelReload tile }) ∧
  (∀ (s : State) (n tile : Nat) (l : List Nat), s.eng.drv.loader = .kennel false true n → s.eng.mode ≠ .load → tile < 256 →
    badKennelTiles s.eng = tile :: l → s.eng.pwr.recovering = false →
    runs (.kennelApply []) s fun t =>
      t.drv = { s.eng.drv with loader := .idle, clamped := true, clampHeld := true } ∧ t.rbit Reg.drvVerify 14 = true ∧
      t.rbit Reg.drvStat 8 = true ∧ reports t = reports s.eng ++ [(19, word (tile + 512))]) ∧
  (∀ (s : State) (t0 : Nat), s.eng.drv.loader = .kennelReload t0 →
    runs (.kennelTileReload [] none) s fun t =>
      t.drv.loader = .kennel true true s.eng.tick ∧ t.drv.staged = t.drv.kennelBuf ∧ t.drv.cellStaged = t.drv.kennelBuf ∧
      (∀ tile ∈ badKennelTiles s.eng, ∀ i < 256, get0 t.drv.kennelBuf (256 * tile + i) = get0 s.eng.nvm.kenSel (256 * tile + i)) ∧
      (∀ e, e / 256 ∉ badKennelTiles s.eng → get0 t.drv.kennelBuf e = get0 s.eng.drv.kennelBuf e) ∧
      t.drv.cellActive = s.eng.drv.cellActive ∧ t.drv.active = s.eng.drv.active ∧
      t = { s.eng with regs := t.regs, drv := t.drv, tim := t.tim, evt := t.evt }) ∧
  (∀ (s : State) (missed : List (Fin 34)) (r : Bool) (n : Nat), s.eng.mode ≠ .reset → s.eng.drv.loader = .kennel true r n →
    n < s.eng.tick →
    runs (.kennelWhistle missed) s fun t =>
      (∀ e, get0 t.drv.cellActive e = if branchOf s.eng e ∈ missed.map Fin.val then get0 s.eng.drv.cellActive e
        else get0 s.eng.drv.cellStaged e) ∧
      t.drv.clamped = false ∧ t.drv.kennelFlag = true ∧ t.drv.active = s.eng.drv.staged ∧ t.drv.loader = .idle ∧
      t.reg Reg.drvWhistleCnt = s.eng.reg Reg.drvWhistleCnt + 1 ∧
      t.sys = { s.eng.sys with sweepsSinceKennel := some 0, pilotOn := if s.eng.mode = .load then true else s.eng.sys.pilotOn } ∧
      events t = events s.eng ++ [0xA2] ∧ t.led.held = [] ∧
      t = { s.eng with regs := t.regs, drv := t.drv, sns := t.sns, lps := t.lps, led := t.led, pwr := t.pwr, tim := t.tim, evt := t.evt,
                       sys := t.sys, sch := { s.eng.sch with eResv := 0 } })

/-- A step of the Scent generators, 1 µs or more after the last, adds FTW to every phase accumulator and forms each output from its table
word and AMP (R107); outside HOLD and RUN every output is 0 (R108); a step too soon does nothing. DRV_SCENT_CTL takes a write whose
element exists and refuses any other (R107). -/
def Obligations.ScentGenerators : Prop :=
  (∀ s : State, s.eng.mode ≠ .reset → s.eng.drv.scentTick + 250 ≤ s.eng.tick →
    runs .scentStep s fun t =>
      (∀ g < 8, t.reg (Reg.drvScentPhase g) = s.eng.reg (Reg.drvScentPhase g) + s.eng.reg (Reg.drvScentFtw g)) ∧
      (∀ g < s.eng.drv.scentOut.length, g < 8 → t.drv.scentOut.getD g 0 =
        if s.eng.mode = .hold ∨ s.eng.mode = .run then scentOutput s.eng g (t.reg (Reg.drvScentPhase g)) else 0) ∧
      (∀ a, (∀ g < 8, a ≠ Reg.drvScentPhase g) → a ≠ Reg.drvStat → t.reg a = s.eng.reg a) ∧
      t = { s.eng with regs := t.regs, drv := { s.eng.drv with
        scentOut := t.drv.scentOut, scentTick := s.eng.tick, stepped := t.drv.stepped } }) ∧
  (∀ s : State, s.eng.tick < s.eng.drv.scentTick + 250 → idles .scentStep s) ∧
  (∀ (s : State) (b : Bus) (g : Fin 8) (v : Word), may s b → fld v 16 16 < s.eng.variant.elements →
    enters (.scentCtlWrite b g v) s fun e t =>
      t.reg (Reg.drvScentCtl g) = v &&& 0xFFFF7F01#32 ∧ (∀ i < 32, i ≠ 10 → t.rbit Reg.drvStat i = s.eng.rbit Reg.drvStat i) ∧
      regsBut [Reg.drvScentCtl g, Reg.drvStat] s.eng t ∧ t = { e with regs := t.regs }) ∧
  (∀ (s : State) (b : Bus) (g : Fin 8) (v : Word), may s b → s.eng.variant.elements ≤ fld v 16 16 →
    applies (.scentCtlWrite b g v) s fun e => e.putRbit Reg.drvStat 12 true)

/-- The conversion at the head of a lane's sweep or scan starts on an edge at which TICK and SAR coincide, at 250 TICK spacing from the
boundary (R117, R119): it takes the lane's counter as SEQ, its slot, range, STALE and test DAC code, and its own result address (R122,
R124, R126, R405); a scheduled diagnostic of an element lane takes its channel in turn (R127); no other lane changes. The Leash decides on
the sample held 64 TICK later: it agrees with the comparison of the code within 1 LSB of a band edge (R131), and a change from inside to
outside is an event on the next edge (R117, R130); a conversion that is not judged is left as it is. A write of SNS_LANE_CFG is stored and
waits for its boundary (R129); a range above 5, a bandwidth above 2 and a slot that the lane does not have keep their fields, and a TEST
or PARK outside CALIBRATE is refused with SNS_STAT[5]. -/
def Obligations.Conversions : Prop :=
  (∀ (s : State) (l : Fin 544) (slot half : Nat) (rest : List (Nat × Nat × Bool)), s.eng.mode ≠ .reset → s.eng.coincident = true →
    (s.eng.lane l).todo = (slot, half, false) :: rest → slot < 68 →
    (if l.val < 512 then s.eng.sns.sweepStart else s.eng.sns.scanStart) + 250 * (s.eng.lane l).made ≤ s.eng.tick →
    (s.eng.lane l).testAct = false →
    runs (.conversionStart l) s fun t =>
      (∃ d, (s.eng.cal.phase ≠ 4 → d = none) ∧ t.lane l = { s.eng.lane l with
        convs := (s.eng.lane l).convs ++ [{ newConv s l slot half d with
          stale := decide (0 < (s.eng.lane l).staleLeft) || (s.eng.lane l).fstale.contains slot }],
        todo := rest, made := (s.eng.lane l).made + 1, counter := (s.eng.lane l).counter + 1,
        staleLeft := (s.eng.lane l).staleLeft - 1 }) ∧
      (∀ l' : Fin 544, l' ≠ l → t.lane l' = s.eng.lane l') ∧
      t.drv = { s.eng.drv with probes := t.drv.probes, scentHeld := t.drv.scentHeld, stepped := t.drv.stepped } ∧
      t.sns = { s.eng.sns with lanes := t.sns.lanes } ∧
      regsBut [Reg.drvStat] s.eng t ∧ t = { s.eng with regs := t.regs, drv := t.drv, sns := t.sns }) ∧
  (∀ (s : State) (l : Fin 544) (half : Nat) (rest : List (Nat × Nat × Bool)), s.eng.mode ≠ .reset → s.eng.coincident = true →
    l.val < 512 → (s.eng.lane l).todo = (73, half, false) :: rest → half < 2 →
    s.eng.sns.sweepStart + 250 * (s.eng.lane l).made ≤ s.eng.tick →
    runs (.conversionStart l) s fun t =>
      (∃ c, (t.lane l).convs = (s.eng.lane l).convs ++ [c] ∧ c.slot = 68 + 2 * ((s.eng.lane l).diagPhase % 2) + half ∧ c.half = half ∧
        c.seq = (s.eng.lane l).counter % 256 ∧ c.start = s.eng.tick ∧ c.dummy = false ∧ c.drive = none) ∧
      (t.lane l).todo = rest ∧ (t.lane l).diagPhase = (if half = 1 then ((s.eng.lane l).diagPhase + 1) % 4 else (s.eng.lane l).diagPhase) ∧
      (∀ l' : Fin 544, l' ≠ l → t.lane l' = s.eng.lane l')) ∧
  (∀ (s : State) (l : Fin 544) (code : Fin 4096) (c : Conv) (cs : List Conv), s.eng.mode ≠ .reset → (s.eng.lane l).convs = cs ++ [c] →
    c.start + 64 ≤ s.eng.tick → c.sample = none → judged s.eng l c = true →
    runs (.leashDecision l code) s fun t => ∃ o : Bool,
      (o = true → code.val < fld (leashEntry s.eng l c.slot) 0 12 + 1 ∨ fld (leashEntry s.eng l c.slot) 12 12 < code.val + 1) ∧
      (o = false → fld (leashEntry s.eng l c.slot) 0 12 ≤ code.val + 1 ∧ code.val ≤ fld (leashEntry s.eng l c.slot) 12 12 + 1) ∧
      t.lane l = { s.eng.lane l with convs := cs ++ [{ c with leash := o, sample := some code.val }] } ∧
      (∀ l' : Fin 544, l' ≠ l → t.lane l' = s.eng.lane l') ∧ (72 * l.val + c.slot ∈ t.sns.out ↔ o = true) ∧
      (o = true → 72 * l.val + c.slot ∉ s.eng.sns.out →
        t.rbit (Reg.snsLaneStat l) 8 = true ∧ t.rbit Reg.snsStat 2 = true ∧ regsBut [Reg.snsLaneStat l, Reg.snsStat] s.eng t ∧
        ({ producer := 0x40 + lpOfLane l, hop := 0, edge := s.eng.tick + 1 } : Emitted) ∈ t.evt.emitted) ∧
      (o = false ∨ 72 * l.val + c.slot ∈ s.eng.sns.out → t.regs = s.eng.regs ∧ t.evt = s.eng.evt) ∧
      t.sns = { s.eng.sns with lanes := t.sns.lanes, out := t.sns.out } ∧
      t = { s.eng with regs := t.regs, sns := t.sns, evt := t.evt, freeCtr := t.freeCtr }) ∧
  (∀ (s : State) (l : Fin 544) (code : Fin 4096) (c : Conv) (cs : List Conv), (s.eng.lane l).convs = cs ++ [c] →
    judged s.eng l c = false → idles (.leashDecision l code) s) ∧
  (∀ (s : State) (b : Bus) (l : Fin 544) (v : Word), may s b → fld v 0 3 < 6 → fld v 8 2 < 3 → hasSlot l (fld v 23 7) = true →
    ((bit v 31 = false ∧ bit v 30 = false) ∨ s.eng.mode = .calibrate) →
    enters (.laneCfgWrite b l v) s fun e t =>
      t.reg (Reg.snsLaneCfg l) = v &&& 0xFF8F0387#32 ∧ t.lane l = { s.eng.lane l with cfgWritten := true } ∧
      (∀ l' : Fin 544, l' ≠ l → t.lane l' = s.eng.lane l') ∧ regsBut [Reg.snsLaneCfg l] s.eng t ∧
      t = { e with regs := t.regs, sns := { s.eng.sns with lanes := t.sns.lanes } }) ∧
  (∀ (s : State) (b : Bus) (l : Fin 544) (v : Word), may s b → bit v 31 = false → bit v 30 = false →
    enters (.laneCfgWrite b l v) s fun e t =>
      t.rfld (Reg.snsLaneCfg l) 0 3 = (if fld v 0 3 < 6 then fld v 0 3 else s.eng.rfld (Reg.snsLaneCfg l) 0 3) ∧
      t.rfld (Reg.snsLaneCfg l) 8 2 = (if fld v 8 2 < 3 then fld v 8 2 else s.eng.rfld (Reg.snsLaneCfg l) 8 2) ∧
      t.rfld (Reg.snsLaneCfg l) 23 7 = (if hasSlot l (fld v 23 7) then fld v 23 7 else s.eng.rfld (Reg.snsLaneCfg l) 23 7) ∧
      regsBut [Reg.snsLaneCfg l] s.eng t ∧ t = { e with regs := t.regs, sns := { s.eng.sns with lanes := t.sns.lanes } }) ∧
  (∀ (s : State) (b : Bus) (l : Fin 544) (v : Word), may s b → (bit v 31 = true ∨ bit v 30 = true) → s.eng.mode ≠ .calibrate →
    enters (.laneCfgWrite b l v) s fun e t =>
      t.rbit Reg.snsStat 5 = true ∧ t.rbit (Reg.snsLaneCfg l) 31 = s.eng.rbit (Reg.snsLaneCfg l) 31 ∧
      t.rbit (Reg.snsLaneCfg l) 30 = s.eng.rbit (Reg.snsLaneCfg l) 30 ∧
      regsBut [Reg.snsLaneCfg l, Reg.snsStat] s.eng t ∧ t = { e with regs := t.regs, sns := { s.eng.sns with lanes := t.sns.lanes } })

/-- The result of a lane's oldest conversion is written 252 TICK after its start as one word (R122): code in [11:0], of a conversion that
the Leash has judged the code judged (R131), RANGE in [14:12], STALE in 15, LEASH in 16, slot in [23:17] and SEQ in [31:24]; it replaces
that slot's entry and no other result (R123, R405). The result of a dummy conversion is not written at all (R124). The checks on a result
(R125, R128): a REF code outside 2,007 to 2,089 and a TDAC code more than 10 % off its ideal each set their SNS_LANE_STAT bit and raise
the lane's fault; 4,095 sets OVR, and is reported in the fourth consecutive sweep or scan at RANGE 0. Stated for every element lane, and
for the port lanes of a machine whose port program does not run. -/
def Obligations.LaneResults : Prop :=
  (∀ (s : State) (l : Fin 544) (code : Fin 4096) (c : Conv) (rest : List Conv), s.eng.mode ≠ .reset →
    (s.eng.lane l).convs = c :: rest → c.start + 252 ≤ s.eng.tick → c.dummy = false → c.seq < 256 → c.slot < 72 → c.range < 8 →
    c.sample.getD code < 4096 →
    runs (.resultWrite l code) s fun t =>
      (t.lane l).convs = rest ∧ fld (get0 t.sns.results c.addr) 0 12 = c.sample.getD code ∧
      fld (get0 t.sns.results c.addr) 12 3 = c.range ∧
      bit (get0 t.sns.results c.addr) 15 = c.stale ∧ bit (get0 t.sns.results c.addr) 16 = c.leash ∧
      fld (get0 t.sns.results c.addr) 17 7 = c.slot ∧ fld (get0 t.sns.results c.addr) 24 8 = c.seq ∧
      (∀ a, a ≠ c.addr → get0 t.sns.results a = get0 s.eng.sns.results a) ∧ t.mode = s.eng.mode ∧ t.rte = s.eng.rte ∧
      t.cal = { s.eng.cal with points := t.cal.points } ∧ t.sch = s.eng.sch ∧ t.nvm = s.eng.nvm ∧ t.pak = s.eng.pak) ∧
  (∀ (s : State) (l : Fin 544) (code : Fin 4096) (c : Conv) (rest : List Conv), s.eng.mode ≠ .reset → (s.eng.lane l).convs = c :: rest →
    c.start + 252 ≤ s.eng.tick → c.dummy = true →
    runs (.resultWrite l code) s fun t =>
      (t.lane l).convs = rest ∧ t.sns.results = s.eng.sns.results ∧ t.regs = s.eng.regs ∧ t.drv = s.eng.drv ∧ t.flt = s.eng.flt) ∧
  (∀ (s : State) (l : Fin 544) (code : Fin 4096) (c : Conv) (rest : List Conv), s.eng.mode ≠ .reset →
    (l.val < 512 ∨ s.eng.portOn = false) → (s.eng.lane l).convs = c :: rest → c.start + 252 ≤ s.eng.tick → c.dummy = false → c.slot = 68 →
    c.sample = none → (code.val < 2007 ∨ 2089 < code.val ∧ code.val < 4095) →
    runs (.resultWrite l code) s fun t =>
      t.rbit (Reg.snsLaneStat l) 11 = true ∧ reports t = reports s.eng ++ [(33, word l)] ∧ regsBut [Reg.snsLaneStat l] s.eng t) ∧
  (∀ (s : State) (l : Fin 544) (code : Fin 4096) (c : Conv) (rest : List Conv), s.eng.mode ≠ .reset →
    (l.val < 512 ∨ s.eng.portOn = false) → (s.eng.lane l).convs = c :: rest → c.start + 252 ≤ s.eng.tick → c.dummy = false → c.slot = 71 →
    c.stale = false → c.sample = none → code.val < 4095 →
    25 * c.tdac < 2 * (32 * ((code.val : Int) - 64) - 125 * (c.tdac : Int)).natAbs →
    runs (.resultWrite l code) s fun t =>
      t.rbit (Reg.snsLaneStat l) 10 = true ∧ reports t = reports s.eng ++ [(32, word l)] ∧ regsBut [Reg.snsLaneStat l] s.eng t) ∧
  (∀ (s : State) (l : Fin 544) (code : Fin 4096) (c : Conv) (rest : List Conv), s.eng.mode ≠ .reset →
    (l.val < 512 ∨ s.eng.portOn = false) → (s.eng.lane l).convs = c :: rest → c.start + 252 ≤ s.eng.tick → c.dummy = false → c.slot < 68 →
    c.sample = none → code.val = 4095 →
    runs (.resultWrite l code) s fun t =>
      t.rbit (Reg.snsLaneStat l) 9 = true ∧
      reports t = reports s.eng ++
        (if (s.eng.lane l).range = 0 ∧ (s.eng.lane l).overRange = false ∧ 3 ≤ (s.eng.lane l).overRun then [(34, word l)] else []) ∧
      regsBut [Reg.snsLaneStat l] s.eng t)

/-- A sweep boundary (R119, R132): the next sweep begins on its edge, the sweep is counted, a cut one is marked (R121), suspensions reach
the loops, a machine's requested bank swap and its queues are taken (R161, R162, R167), an EN = 0 machine that is to start begins at
address 0 (R168), and the event is emitted. At the first boundary every section of the image takes effect, every machine is enabled, the
first scan begins too, and the Kennel image is requested (R388). A Whistle that is due on the edge comes first (R94, R132). A scan
boundary (R119): the next scan begins on its edge, the scan is counted, a cut one is marked (R121), LP32 forms PT from the words live now
(R199), and the event is emitted. A throttled sweep that has run its 34,000 TICK pauses, and no lane applies a probe (R290). -/
def Obligations.LaneBoundaries : Prop :=
  (∀ s : State, s.eng.mode ≠ .reset → s.eng.coincident = true → whistleDue s.eng = false → s.eng.sns.sweepRun = true →
    (sweepDue s.eng = true ∨ sweepCutDue s.eng = true) →
    runs .sweepBoundary s fun t =>
      t.sns.sweepRun = true ∧ t.sns.sweepStart = s.eng.tick ∧ t.sns.paused = false ∧ t.sns.sweepCut = false ∧
      t.reg Reg.snsSweepCnt = s.eng.reg Reg.snsSweepCnt + 1 ∧ (s.eng.sns.sweepCut = true → t.rbit Reg.snsStat 3 = true) ∧
      t.drv.suspLoop = s.eng.drv.susp ∧ t.pwr.pauseInForce = s.eng.pwr.pauseSet ∧ t.sns.results = s.eng.sns.results ∧
      t.mode = s.eng.mode ∧ (∃ l, events t = l ++ [0xA0]) ∧
      (∀ k : Fin 33, (s.eng.lp k).standard = false →
        (t.lp k).bankActive = ((s.eng.lp k).bankActive != (s.eng.lp k).swapReq) ∧ ((t.lp k).swapReq = true ↔ (s.eng.lp k).swapReq = true ∧ HalfWrite.swapAgain k ∈ s.eng.halfWrites) ∧ (t.lp k).trimQ = [] ∧
        (t.lp k).promo = [] ∧ ((s.eng.lp k).startIn = some 1 → (t.lp k).pc = 0 ∧ (t.lp k).halted = false ∧ (t.lp k).startIn = none))) ∧
  (∀ (s : State) (img : Image), s.eng.mode = .load → s.eng.coincident = true → whistleDue s.eng = false → s.eng.sns.sweepRun = false →
    s.eng.nvm.shadow = some img →
    runs .sweepBoundary s fun t =>
      t.nvm.image = some img ∧ t.nvm.shadow = none ∧ t.sns.sweepRun = true ∧ t.sns.scanRun = true ∧ t.sns.sweepStart = s.eng.tick ∧
      t.sns.scanStart = s.eng.tick ∧ (∀ k : Fin 33, t.reg (Reg.lpCtl k.val) = 1) ∧ t.reg Reg.mgtIp = img.ip ∧ t.mode = .load ∧
      t.drv.clamped = s.eng.drv.clamped ∧ (s.eng.drv.clampHeld = false → t.drv.loader = .kennel false false s.eng.tick)) ∧
  (∀ s : State, whistleDue s.eng = true → idles .sweepBoundary s ∧ idles .scanBoundary s) ∧
  (∀ s : State, s.eng.mode ≠ .reset → s.eng.coincident = true → whistleDue s.eng = false →
    (scanDue s.eng = true ∨ scanCutDue s.eng = true) →
    runs .scanBoundary s fun t =>
      t.sns.scanRun = true ∧ t.sns.scanStart = s.eng.tick ∧ t.sns.scanCut = false ∧
      t.reg Reg.snsPscanCnt = s.eng.reg Reg.snsPscanCnt + 1 ∧ (s.eng.sns.scanCut = true → t.rbit Reg.snsStat 4 = true) ∧
      t.cal = { s.eng.cal with portWords := s.eng.cal.live.words } ∧
      events t = events s.eng ++ [0xA1] ∧ t.sns.sweepStart = s.eng.sns.sweepStart ∧ t.sns.results = s.eng.sns.results ∧
      (∀ l : Fin 544, l.val < 512 → t.lane l = s.eng.lane l) ∧
      t = { s.eng with regs := t.regs, sns := t.sns, lps := t.lps, cal := t.cal, evt := t.evt }) ∧
  (∀ s : State, s.eng.sns.sweepRun = true → s.eng.sns.paused = false → 0 < s.eng.pwr.pauseInForce →
    s.eng.sns.sweepStart + 34000 ≤ s.eng.tick →
    runs .sweepPauseStart s fun t =>
      t.sns = { s.eng.sns with paused := true } ∧ t.drv.probes = [] ∧
      t.drv = { s.eng.drv with probes := [], scentHeld := t.drv.scentHeld, stepped := t.drv.stepped } ∧
      regsBut [Reg.drvStat] s.eng t ∧ t = { s.eng with regs := t.regs, drv := t.drv, sns := t.sns })

/-- Every instruction of a machine that fetches is taken: only that machine's state, and what its ports and reports reach, may change; the
other machines, the drive cells, the table PT, the maps, the calibration set and time do not (R136, R139, R154); of the registers only
DRV_SCENT_RESULT may; what a port passes on takes effect on the next edge. -/
def Obligations.MachineFrame : Prop :=
  ∀ (s : State) (i : Instr) (c : Lp), lpRowOf i = some c → fetches s c →
    runs i s fun t =>
      (∀ k, k ≠ c.k → t.lp k = s.eng.lp k) ∧ (∀ a, (∀ g < 8, a ≠ Reg.drvScentResult g) → t.reg a = s.eng.reg a) ∧
      t = { s.eng with regs := t.regs, lps := t.lps, due := t.due, evt := t.evt, flt := t.flt, freeCtr := t.freeCtr }

/-- ADD, SUB, ADDD, SUBD, NEG, ABS, ASL, ASR, MAX, MIN and RND (R145, R148, R154): an unclamped accumulator takes the exact result where
40 bits hold it, with Z and N of it and V = 0; else it takes full scale, is clamped, OVG and V are set; and a clamped one keeps its value
with V = 1. -/
def Obligations.AluResults : Prop :=
  (∀ (s : State) (i : Instr) (c : Lp) (d : Fin 4) (f : LpState → Int), modifies i = some (c, d, f) → fetches s c →
    (s.eng.lp c.k).clamp[d] = false → -(2 ^ 39) ≤ f (s.eng.lp c.k) → f (s.eng.lp c.k) < 2 ^ 39 →
    becomes i s (machine s c.k 1 fun x =>
      { x with a := x.a.set d (BitVec.ofInt 40 (f x)), fz := decide (f x = 0), fn := decide (f x < 0), fv := false })) ∧
  (∀ (s : State) (i : Instr) (c : Lp) (d : Fin 4) (f : LpState → Int), modifies i = some (c, d, f) → fetches s c →
    (s.eng.lp c.k).clamp[d] = false → 2 ^ 39 ≤ f (s.eng.lp c.k) →
    becomes i s (machine s c.k 1 fun x =>
      { x with a := x.a.set d (BitVec.ofInt 40 (2 ^ 39 - 1)), clamp := x.clamp.set d true, fz := false, fn := false, fv := true,
               sticky := x.sticky ||| 1 })) ∧
  (∀ (s : State) (i : Instr) (c : Lp) (d : Fin 4) (f : LpState → Int), modifies i = some (c, d, f) → fetches s c →
    (s.eng.lp c.k).clamp[d] = false → f (s.eng.lp c.k) < -(2 ^ 39) →
    becomes i s (machine s c.k 1 fun x =>
      { x with a := x.a.set d (BitVec.ofInt 40 (-(2 ^ 39))), clamp := x.clamp.set d true, fz := false, fn := true, fv := true,
               sticky := x.sticky ||| 1 })) ∧
  (∀ (s : State) (i : Instr) (c : Lp) (d : Fin 4) (f : LpState → Int), modifies i = some (c, d, f) → fetches s c →
    (s.eng.lp c.k).clamp[d] = true →
    becomes i s (machine s c.k 1 fun x =>
      { x with fz := decide (x.acc d = 0), fn := decide (x.acc d < 0), fv := true }))

/-- CLR, LDD and MOVA write an accumulator without reading it, the first two ending its clamp and MOVA copying the source's; CMP and TSTD
set the flags of the exact difference and of a data register; LIM holds an unclamped accumulator within ±L·2^16, a negative L acting as 0,
and sets LIM where that changes it (R145, R148, R154). An ALU instruction's parallel load reads its memory, updates its pointer and writes
its D register beside the operation, which reads the registers as they stood before (R150, R155); stated for ADDD of the loaded register
itself, from XM or Y space. -/
def Obligations.AluWrites : Prop :=
  (∀ (s : State) (c : Lp) (d : Fin 4), fetches s c →
    becomes (.clr c d none) s (machine s c.k 1 fun x =>
      { x with a := x.a.set d 0, clamp := x.clamp.set d false, fz := true, fn := false, fv := false })) ∧
  (∀ (s : State) (c : Lp) (d : Fin 4) (r : Fin 8), fetches s c →
    becomes (.ldd c d r none) s (machine s c.k 1 fun x =>
      { x with a := x.a.set d (BitVec.ofInt 40 ((x.d[r]).toInt * 2 ^ 16)), clamp := x.clamp.set d false,
               fz := decide (x.d[r] = 0), fn := decide ((x.d[r]).toInt < 0), fv := false })) ∧
  (∀ (s : State) (c : Lp) (d n : Fin 4), fetches s c →
    becomes (.mova c d n none) s (machine s c.k 1 fun x =>
      { x with a := x.a.set d x.a[n], clamp := x.clamp.set d x.clamp[n], fz := decide (x.acc n = 0), fn := decide (x.acc n < 0),
               fv := x.clamp[n] })) ∧
  (∀ (s : State) (c : Lp) (d n : Fin 4), fetches s c →
    becomes (.cmp c d n none) s (machine s c.k 1 fun x =>
      { x with fz := decide (x.acc d = x.acc n), fn := decide (x.acc d < x.acc n), fv := x.clamp[d] })) ∧
  (∀ (s : State) (c : Lp) (r : Fin 8), fetches s c →
    becomes (.tstd c r none) s (machine s c.k 1 fun x =>
      { x with fz := decide (x.d[r] = 0), fn := decide ((x.d[r]).toInt < 0), fv := false })) ∧
  (∀ (s : State) (c : Lp) (d : Fin 4) (r : Fin 8), fetches s c → (s.eng.lp c.k).clamp[d] = false →
    (s.eng.lp c.k).d[r].toInt * 2 ^ 16 < (s.eng.lp c.k).acc d → 0 ≤ (s.eng.lp c.k).d[r].toInt →
    becomes (.lim c d r none) s (machine s c.k 1 fun x =>
      { x with a := x.a.set d (BitVec.ofInt 40 ((x.d[r]).toInt * 2 ^ 16)), fz := decide (x.d[r] = 0), fn := false, fv := false,
               sticky := x.sticky ||| 8 })) ∧
  (∀ (s : State) (c : Lp) (d : Fin 4) (r : Fin 8), fetches s c → (s.eng.lp c.k).clamp[d] = false → (s.eng.lp c.k).d[r].toInt < 0 →
    (s.eng.lp c.k).acc d ≠ 0 →
    becomes (.lim c d r none) s (machine s c.k 1 fun x =>
      { x with a := x.a.set d 0, fz := true, fn := false, fv := false, sticky := x.sticky ||| 8 })) ∧
  (∀ (s : State) (c : Lp) (d : Fin 4) (r : Fin 8), fetches s c → (s.eng.lp c.k).clamp[d] = false →
    (s.eng.lp c.k).acc d ≤ (s.eng.lp c.k).d[r].toInt * 2 ^ 16 → -((s.eng.lp c.k).d[r].toInt * 2 ^ 16) ≤ (s.eng.lp c.k).acc d →
    becomes (.lim c d r none) s (machine s c.k 1 fun x =>
      { x with fz := decide (x.acc d = 0), fn := decide (x.acc d < 0), fv := false })) ∧
  (∀ (s : State) (c : Lp) (d : Fin 4) (r : Fin 8) (ea : Ea4), fetches s c → (s.eng.lp c.k).clamp[d] = false →
    -(2 ^ 39) ≤ (s.eng.lp c.k).acc d + (s.eng.lp c.k).d[r].toInt * 2 ^ 16 →
    (s.eng.lp c.k).acc d + (s.eng.lp c.k).d[r].toInt * 2 ^ 16 < 2 ^ 39 → ((s.eng.lp c.k).p[xPtr ea]).toNat < 0x4000 →
    becomes (.addd c d r (some { y := false, d := r, ea := ea })) s (machine s c.k 1 fun x =>
      LpState.loaded
        { x with a := x.a.set d (BitVec.ofInt 40 (x.acc d + (x.d[r]).toInt * 2 ^ 16)),
                 fz := decide (x.acc d + (x.d[r]).toInt * 2 ^ 16 = 0), fn := decide (x.acc d + (x.d[r]).toInt * 2 ^ 16 < 0), fv := false }
        r (halfLo (get0 x.xm (x.p[xPtr ea]).toNat)) ea.upd (xPtr ea))) ∧
  (∀ (s : State) (c : Lp) (d : Fin 4) (r : Fin 8) (ea : Ea4), fetches s c →
    becomes (.ldd c d r (some { y := true, d := r, ea := ea })) s (machine s c.k 1 fun x =>
      LpState.loaded
        { x with a := x.a.set d (BitVec.ofInt 40 ((x.d[r]).toInt * 2 ^ 16)), clamp := x.clamp.set d false,
                 fz := decide (x.d[r] = 0), fn := decide ((x.d[r]).toInt < 0), fv := false }
        r (yRead c.k ((s.eng.lp c.k).p[yPtr ea]).toNat s.eng) ea.upd (yPtr ea)))

/-- MPY, MAC and MSU (R144, R145, R153): with FRAC = 0 the product of two data registers, and with FRAC = 1 twice it, is set, added or
subtracted; −1 · −1 gives full scale with MV; the quad forms multiply one register by four in the four accumulators. PAR loads D registers
on both buses (R155). -/
def Obligations.Multiplies : Prop :=
  (∀ (s : State) (c : Lp) (k : Fin 4) (x y : Fin 8), fetches s c → (s.eng.lp c.k).frac = false →
    becomes (.mpy c (.single k x y) none none) s (machine s c.k 1 fun p =>
      { p with a := p.a.set k (BitVec.ofInt 40 ((p.d[x]).toInt * (p.d[y]).toInt)), clamp := p.clamp.set k false })) ∧
  (∀ (s : State) (c : Lp) (k : Fin 4) (x y : Fin 8), fetches s c → (s.eng.lp c.k).frac = true →
    (s.eng.lp c.k).d[x].toInt * (s.eng.lp c.k).d[y].toInt ≠ 2 ^ 30 →
    becomes (.mpy c (.single k x y) none none) s (machine s c.k 1 fun p =>
      { p with a := p.a.set k (BitVec.ofInt 40 (2 * ((p.d[x]).toInt * (p.d[y]).toInt))), clamp := p.clamp.set k false })) ∧
  (∀ (s : State) (c : Lp) (k : Fin 4) (x y : Fin 8), fetches s c → (s.eng.lp c.k).frac = true →
    (s.eng.lp c.k).d[x].toInt * (s.eng.lp c.k).d[y].toInt = 2 ^ 30 →
    becomes (.mpy c (.single k x y) none none) s (machine s c.k 1 fun p =>
      { p with a := p.a.set k (BitVec.ofInt 40 (2 ^ 31 - 1)), clamp := p.clamp.set k false, sticky := p.sticky ||| 4 })) ∧
  (∀ (s : State) (c : Lp) (k : Fin 4) (x y : Fin 8), fetches s c → (s.eng.lp c.k).frac = true → (s.eng.lp c.k).clamp[k] = false →
    (s.eng.lp c.k).d[x].toInt * (s.eng.lp c.k).d[y].toInt ≠ 2 ^ 30 →
    -(2 ^ 39) ≤ (s.eng.lp c.k).acc k + 2 * ((s.eng.lp c.k).d[x].toInt * (s.eng.lp c.k).d[y].toInt) →
    (s.eng.lp c.k).acc k + 2 * ((s.eng.lp c.k).d[x].toInt * (s.eng.lp c.k).d[y].toInt) < 2 ^ 39 →
    becomes (.mac c (.single k x y) none none) s (machine s c.k 1 fun p =>
      { p with a := p.a.set k (BitVec.ofInt 40 (p.acc k + 2 * ((p.d[x]).toInt * (p.d[y]).toInt))) })) ∧
  (∀ (s : State) (c : Lp) (k : Fin 4) (x y : Fin 8), fetches s c → (s.eng.lp c.k).frac = true → (s.eng.lp c.k).clamp[k] = false →
    (s.eng.lp c.k).d[x].toInt * (s.eng.lp c.k).d[y].toInt ≠ 2 ^ 30 →
    -(2 ^ 39) ≤ (s.eng.lp c.k).acc k - 2 * ((s.eng.lp c.k).d[x].toInt * (s.eng.lp c.k).d[y].toInt) →
    (s.eng.lp c.k).acc k - 2 * ((s.eng.lp c.k).d[x].toInt * (s.eng.lp c.k).d[y].toInt) < 2 ^ 39 →
    becomes (.msu c (.single k x y) none none) s (machine s c.k 1 fun p =>
      { p with a := p.a.set k (BitVec.ofInt 40 (p.acc k - 2 * ((p.d[x]).toInt * (p.d[y]).toInt))) })) ∧
  (∀ (s : State) (c : Lp) (x : Fin 8), fetches s c → (s.eng.lp c.k).frac = false →
    runs (.mpy c (.qx x) none none) s fun t =>
      ∀ (j : Fin 4), (t.lp c.k).acc j = (s.eng.lp c.k).d[x].toInt * ((s.eng.lp c.k).d[(⟨j.val + 4, by omega⟩ : Fin 8)]).toInt ∧
        (t.lp c.k).clamp[j] = false) ∧
  (∀ (s : State) (c : Lp) (lx ly : MacLoad), fetches s c → ((s.eng.lp c.k).p[xPtr lx.ea]).toNat < 0x4000 →
    becomes (.par c (some lx) (some ly)) s (machine s c.k 1 fun x =>
      (x.loaded lx.d (halfLo (get0 x.xm (x.p[xPtr lx.ea]).toNat)) lx.ea.upd (xPtr lx.ea)).loaded ly.d
        (yRead c.k ((s.eng.lp c.k).p[yPtr ly.ea]).toNat s.eng) ly.ea.upd (yPtr ly.ea)))

/-- LDX, LDY, LDXA, STX, STXA, STH and STL on XM and Y space (R146, R150, R154), and FTAP (R157), which multiplies the X word by the Y
word, shifts the X word to the next address, and loads both. LDI and MOV write D, P, N and M registers (R143); UPD updates a pointer alone
(R150): linear, circular within its buffer, or bit-reversed. The ports of an element machine and the results in its X space (R139, R141,
R142, R161, R162): a promotion entry and a trim pass on to the next edge, TRIM_SEL is stored and read back, the low half of a result
latches its high half, which the next address then gives, and an address without a word reads 0, takes no write and sets UA. -/
def Obligations.MemoryAndMoves : Prop :=
  (∀ (s : State) (c : Lp) (d : Fin 8) (ea : Ea5), fetches s c → ((s.eng.lp c.k).p[ea.p]).toNat < 0x4000 →
    becomes (.ldx c d ea) s (machine s c.k 1 fun x => x.loaded d (halfLo (get0 x.xm (x.p[ea.p]).toNat)) ea.upd ea.p)) ∧
  (∀ (s : State) (c : Lp) (d : Fin 8) (ea : Ea5), fetches s c →
    becomes (.ldy c d ea) s (machine s c.k 1 fun x => x.loaded d (yRead c.k ((s.eng.lp c.k).p[ea.p]).toNat s.eng) ea.upd ea.p)) ∧
  (∀ (s : State) (c : Lp) (d : Fin 8) (a : Fin 32768), fetches s c → a.val < 0x4000 →
    becomes (.ldxa c d a) s (machine s c.k 1 fun x => { x with d := x.d.set d (halfLo (get0 x.xm a)) })) ∧
  (∀ (s : State) (c : Lp) (d : Fin 8) (ea : Ea5), fetches s c → ((s.eng.lp c.k).p[ea.p]).toNat < 0x4000 →
    becomes (.stx c d ea) s (machine s c.k 1 fun x =>
      LpState.update { x with xm := put0 x.xm (x.p[ea.p]).toNat (word (x.d[d]).toNat) } ea.upd ea.p)) ∧
  (∀ (s : State) (c : Lp) (d : Fin 8) (a : Fin 32768), fetches s c → a.val < 0x4000 →
    becomes (.stxa c d a) s (machine s c.k 1 fun x => { x with xm := put0 x.xm a (word (x.d[d]).toNat) })) ∧
  (∀ (s : State) (c : Lp) (a : Fin 4) (ea : Ea5) (sh : Fin 32), fetches s c → ((s.eng.lp c.k).p[ea.p]).toNat < 0x4000 → sh.val < 16 →
    -32768 ≤ ((s.eng.lp c.k).acc a * 2 ^ sh.val + 2 ^ 15) / 2 ^ 16 → ((s.eng.lp c.k).acc a * 2 ^ sh.val + 2 ^ 15) / 2 ^ 16 ≤ 32767 →
    becomes (.sth c a ea sh) s (machine s c.k 1 fun x =>
      LpState.update { x with
        xm := put0 x.xm (x.p[ea.p]).toNat (word (BitVec.ofInt 16 ((x.acc a * 2 ^ sh.val + 2 ^ 15) / 2 ^ 16)).toNat) } ea.upd ea.p)) ∧
  (∀ (s : State) (c : Lp) (a : Fin 4) (ea : Ea5), fetches s c → ((s.eng.lp c.k).p[ea.p]).toNat < 0x4000 → 32767 < (s.eng.lp c.k).acc a →
    becomes (.stl c a ea) s (machine s c.k 1 fun x =>
      LpState.update { x with xm := put0 x.xm (x.p[ea.p]).toNat 0x7FFF, sticky := x.sticky ||| 2 } ea.upd ea.p)) ∧
  (∀ (s : State) (c : Lp) (k : Fin 4) (x y : MacLoad), fetches s c → (s.eng.lp c.k).frac = false →
    ((s.eng.lp c.k).p[xPtr x.ea]).toNat < 0x3FFF →
    becomes (.ftap c .set k x y) s (machine s c.k 1 fun p =>
      ({ p with
          a := p.a.set k (BitVec.ofInt 40 ((halfLo (get0 p.xm (p.p[xPtr x.ea]).toNat)).toInt *
            (yRead c.k ((s.eng.lp c.k).p[yPtr y.ea]).toNat s.eng).toInt)),
          clamp := p.clamp.set k false,
          xm := put0 p.xm ((p.p[xPtr x.ea]).toNat + 1) (word (halfLo (get0 p.xm (p.p[xPtr x.ea]).toNat)).toNat) : LpState }.loaded
        x.d (halfLo (get0 p.xm (p.p[xPtr x.ea]).toNat)) x.ea.upd (xPtr x.ea)).loaded
        y.d (yRead c.k ((s.eng.lp c.k).p[yPtr y.ea]).toNat s.eng) y.ea.upd (yPtr y.ea))) ∧
  (∀ (s : State) (c : Lp) (d : Fin 8) (v : Half), fetches s c →
    becomes (.ldi c ⟨d.val, by omega⟩ v) s (machine s c.k 1 fun x => { x with d := x.d.set d v })) ∧
  (∀ (s : State) (c : Lp) (p n : Fin 8), fetches s c →
    becomes (.mov c ⟨0x08 + p.val, by omega⟩ ⟨0x10 + n.val, by omega⟩) s
      (machine s c.k 1 fun x => { x with p := x.p.set p ((x.n[n]).setWidth 15) })) ∧
  (∀ (s : State) (c : Lp) (m d : Fin 8), fetches s c → modeOf (s.eng.lp c.k).d[d] = 0 →
    becomes (.mov c ⟨0x18 + m.val, by omega⟩ ⟨d.val, by omega⟩) s (machine s c.k 1 fun x => { x with m := x.m.set m x.d[d] })) ∧
  (∀ (s : State) (c : Lp) (p : Fin 8), fetches s c → modeOf (s.eng.lp c.k).m[p] = 0 →
    becomes (.upd c { upd := .plus, p := p }) s (machine s c.k 1 fun x =>
      { x with p := x.p.set p (BitVec.ofInt 15 ((x.p[p]).toNat + (x.n[p]).toInt)) })) ∧
  (∀ (s : State) (c : Lp) (p : Fin 8) (base off len : Nat), fetches s c → modeOf (s.eng.lp c.k).m[p] = 1 →
    circLen (s.eng.lp c.k).m[p] = len → base % 2 ^ ceilLog2 len = 0 → off < len → ((s.eng.lp c.k).p[p]).toNat = base + off →
    ((s.eng.lp c.k).n[p]).toInt = 1 →
    runs (.upd c { upd := .plus, p := p }) s fun t =>
      ((t.lp c.k).p[p]).toNat = base + (if off + 1 < len then off + 1 else 0) ∧
      (∀ q : Fin 8, q ≠ p → (t.lp c.k).p[q] = (s.eng.lp c.k).p[q])) ∧
  (∀ (s : State) (c : Lp) (d : Fin 8) (a : Fin 32768), fetches s c → c.k.val < 32 → 0x6100 ≤ a.val → a.val < 0x6200 →
    becomes (.stxa c d a) s (goesOn c.k 1 { s.eng with due := s.eng.due ++ [.promo c.k (a.val - 0x6100) (s.eng.lp c.k).d[d]] })) ∧
  (∀ (s : State) (c : Lp) (d : Fin 8), fetches s c → c.k.val < 32 →
    becomes (.stxa c d 0x6200) s (machine s c.k 1 fun x => { x with trimSel := x.d[d] })) ∧
  (∀ (s : State) (c : Lp) (d : Fin 8), fetches s c → c.k.val < 32 →
    becomes (.stxa c d 0x6201) s (goesOn c.k 1 { s.eng with
      due := s.eng.due ++ [.trim c.k ((s.eng.lp c.k).trimSel.toNat % 2048) ((s.eng.lp c.k).trimSel.getLsbD 15) (s.eng.lp c.k).d[d]] })) ∧
  (∀ (s : State) (c : Lp) (d : Fin 8), fetches s c → c.k.val < 32 →
    becomes (.ldxa c d 0x6200) s (machine s c.k 2 fun x => { x with d := x.d.set d x.trimSel })) ∧
  (∀ (s : State) (c : Lp) (d : Fin 8) (a : Fin 32768) (j slot h : Nat), fetches s c → c.k.val < 32 → j < 16 → slot < 72 → h < 2 →
    a.val = 0x4000 + 0x200 * j + 4 * slot + 2 * h →
    becomes (.ldxa c d a) s (machine s c.k 2 fun x =>
      { x with d := x.d.set d (halfLo (seenResult s.eng (lpLane c.k j) slot h)),
               half := some (a.val + 1, halfHi (seenResult s.eng (lpLane c.k j) slot h)) })) ∧
  (∀ (s : State) (c : Lp) (d : Fin 8) (a : Fin 32768) (j slot h : Nat) (v : Half), fetches s c → c.k.val < 32 → j < 16 → slot < 72 → h < 2 →
    a.val = 0x4000 + 0x200 * j + 4 * slot + 2 * h + 1 → (s.eng.lp c.k).half = some (a.val, v) →
    becomes (.ldxa c d a) s (machine s c.k 2 fun x => { x with d := x.d.set d v })) ∧
  (∀ (s : State) (c : Lp) (d : Fin 8) (a : Fin 32768), fetches s c → c.k.val < 32 → 0x6080 ≤ a.val → a.val < 0x6100 →
    becomes (.ldxa c d a) s (machine s c.k 2 fun x => { x with d := x.d.set d 0, sticky := x.sticky ||| 16 })) ∧
  (∀ (s : State) (c : Lp) (d : Fin 8) (a : Fin 32768), fetches s c → c.k.val < 32 → 0x4000 ≤ a.val → a.val < 0x6100 →
    becomes (.stxa c d a) s (machine s c.k 1 fun x => { x with sticky := x.sticky ||| 16 }))

/-- JMP, JSR, RTS, BRcc, DBNZ, LOOP, NOP, CLRF and HALT outside a LOOP body (R147, R153, R154, R156): the next address, the return stack,
the counted register and the loop, with two cycles for a taken branch; HALT halts with CAUSE 6 at the next address. At the last
instruction of a LOOP body the machine begins the next iteration, and after the last one goes on behind the body (R156). -/
def Obligations.ControlFlow : Prop :=
  (∀ (s : State) (c : Lp) (t : Fin 8192), fetches s c → (s.eng.lp c.k).loop = none →
    becomes (.jmp c t) s (s.eng.onLp c.k fun x => { x with pc := BitVec.ofNat 13 t, act := x.act + 2 })) ∧
  (∀ (s : State) (c : Lp) (t : Fin 8192), fetches s c → (s.eng.lp c.k).loop = none → (s.eng.lp c.k).stack.length < 8 →
    becomes (.jsr c t) s (s.eng.onLp c.k fun x =>
      { x with stack := (x.pc + 1) :: x.stack, pc := BitVec.ofNat 13 t, act := x.act + 2 })) ∧
  (∀ (s : State) (c : Lp) (a : BitVec 13) (l : List (BitVec 13)), fetches s c → (s.eng.lp c.k).loop = none →
    (s.eng.lp c.k).stack = a :: l →
    becomes (.rts c) s (s.eng.onLp c.k fun x => { x with stack := l, pc := a, act := x.act + 2 })) ∧
  (∀ (s : State) (c : Lp) (t : Fin 8192), fetches s c → (s.eng.lp c.k).loop = none →
    becomes (.brcc c 1 t) s (if (s.eng.lp c.k).fz then s.eng.onLp c.k (fun x => { x with pc := BitVec.ofNat 13 t, act := x.act + 2 })
      else goesOn c.k 1 s.eng)) ∧
  (∀ (s : State) (c : Lp) (r : Fin 8) (t : Fin 8192), fetches s c → (s.eng.lp c.k).loop = none →
    becomes (.dbnz c r t) s (if (s.eng.lp c.k).d[r] = 1 then machine s c.k 1 (fun x => { x with d := x.d.set r 0 })
      else s.eng.onLp c.k fun x => { x with d := x.d.set r (x.d[r] - 1), pc := BitVec.ofNat 13 t, act := x.act + 2 })) ∧
  (∀ (s : State) (c : Lp) (len : Fin 32) (n : Fin 4096), fetches s c → (s.eng.lp c.k).loop = none →
    (s.eng.lp c.k).pc.toNat + 1 + len.val ≤ 0x1FFF → n.val ≠ 0 →
    becomes (.loop c len (.imm n)) s (s.eng.onLp c.k fun x =>
      { x with loop := some { first := x.pc.toNat + 1, len := len.val + 1, left := n.val }, pc := x.pc + 1, act := x.act + 1 })) ∧
  (∀ (s : State) (c : Lp), fetches s c → becomes (.nop c) s (goesOn c.k 1 s.eng)) ∧
  (∀ (s : State) (c : Lp) (mask : Byte), fetches s c →
    becomes (.clrf c mask) s (machine s c.k 1 fun x => { x with sticky := x.sticky &&& ~~~mask })) ∧
  (∀ (s : State) (c : Lp), fetches s c → (s.eng.lp c.k).loop = none →
    becomes (.halt c) s (s.eng.onLp c.k fun x => { x with pc := x.pc + 1, act := x.act + 1, halted := true, cause := 6, wait := none })) ∧
  (∀ (s : State) (c : Lp) (b : LoopBody), fetches s c → (s.eng.lp c.k).loop = some b → (s.eng.lp c.k).pc.toNat = b.first + b.len - 1 →
    (1 < b.left → becomes (.nop c) s (s.eng.onLp c.k fun x =>
      { x with pc := BitVec.ofNat 13 b.first, loop := some { b with left := b.left - 1 }, act := x.act + 1 })) ∧
    (b.left ≤ 1 → becomes (.nop c) s (s.eng.onLp c.k fun x => { x with pc := x.pc + 1, loop := none, act := x.act + 1 })))

/-- A WAIT whose condition does not hold stalls the machine at its address (R160); WAIT on a pending event takes it and goes on (R160,
R268); WAIT_COMPLETE lets a machine of a program of its own whose event is pending go on; EVT emits the machine's own event with its
HOPSRC (R164, R268). A machine halts with its cause and reports it (R137, R152, R156, R165): LP_ILL_OP on an undefined word, and on a
control instruction inside a LOOP body; LP_STACK on a ninth JSR and on RTS of an empty stack; LP_ECC on an uncorrectable word, whatever
the instruction; LP_HANG when its watchdog runs out, of a machine stalled in a WAIT also where EN was cleared. -/
def Obligations.WaitsAndHalts : Prop :=
  (∀ (s : State) (c : Lp), fetches s c → (s.eng.lp c.k).loop = none →
    becomes (.wait c 1) s (s.eng.onLp c.k fun x => { x with waitHit := false, wait := some .sweep, act := x.act + 1 })) ∧
  (∀ (s : State) (c : Lp), fetches s c → (s.eng.lp c.k).loop = none → (s.eng.lp c.k).evPend.getLsbD 0 = true →
    runs (.wait c 4) s fun t =>
      t.lp c.k = { s.eng.lp c.k with
        evPend := (s.eng.lp c.k).evPend &&& 2, hopSrc := (s.eng.lp c.k).evHop.getD 0 0 + 1, wait := none, waitHit := false,
        wdogFrom := s.eng.tick, pc := (s.eng.lp c.k).pc + 1, act := (s.eng.lp c.k).act + 1 } ∧
      t = { s.eng with lps := t.lps }) ∧
  (∀ (s : State) (c : Lp), s.eng.mode ≠ .reset → s.eng.lpEn c.k = true → (s.eng.lp c.k).halted = false → (s.eng.lp c.k).startIn = none →
    (s.eng.lp c.k).standard = false → (s.eng.lp c.k).wait = some .ev1 → (s.eng.lp c.k).evPend.getLsbD 1 = true → c.ecc = .clean →
    (s.eng.lp c.k).loop = none →
    runs (.waitComplete c) s fun t =>
      t.lp c.k = { s.eng.lp c.k with
        evPend := (s.eng.lp c.k).evPend &&& 1, hopSrc := (s.eng.lp c.k).evHop.getD 1 0 + 1, wait := none, waitHit := false,
        wdogFrom := s.eng.tick, pc := (s.eng.lp c.k).pc + 1 } ∧
      t = { s.eng with lps := t.lps }) ∧
  (∀ (s : State) (c : Lp), fetches s c →
    becomes (.evt c) s (goesOn c.k 1 (s.eng.emitHop (0x70 + c.k.val) (s.eng.lp c.k).hopSrc))) ∧
  (∀ (s : State) (c : Lp) (w : Word), fetches s c → wellFormed (.lpIllOp c w) = true →
    becomes (.lpIllOp c w) s (halts c.k 2 48 s.eng)) ∧
  (∀ (s : State) (c : Lp) (t : Fin 8192), fetches s c → (s.eng.lp c.k).loop.isSome = true →
    becomes (.jmp c t) s (halts c.k 2 48 s.eng)) ∧
  (∀ (s : State) (c : Lp) (t : Fin 8192), fetches s c → (s.eng.lp c.k).loop = none → 8 ≤ (s.eng.lp c.k).stack.length →
    becomes (.jsr c t) s (halts c.k 3 49 s.eng)) ∧
  (∀ (s : State) (c : Lp), fetches s c → (s.eng.lp c.k).loop = none → (s.eng.lp c.k).stack = [] →
    becomes (.rts c) s (halts c.k 3 49 s.eng)) ∧
  (∀ (s : State) (i : Instr) (c : Lp), lpRowOf i = some c → s.eng.lpRuns c.k = true → c.ecc = .uncorrectable →
    becomes i s (halts c.k 4 50 s.eng)) ∧
  (∀ (s : State) (k : Fin 33), s.eng.lpCounts k = true → s.eng.rfld (Reg.lpWdog k.val) 0 8 ≠ 0 →
    s.eng.rfld (Reg.lpWdog k.val) 0 8 * 1024 ≤ 2 * (s.eng.tick - (s.eng.lp k).wdogFrom) →
    becomes (.lpHang k) s (halts k 5 51 s.eng))

/-- Run control (R167, R168, R170): in LOAD and CALIBRATE EN = 0 halts a machine that fetches with CAUSE 1, EN = 1 has a halted machine
start at the next sweep boundary, and STEP takes one instruction of a machine so halted; in other modes writes of EN do nothing. A bank
swap requested for one machine, or for all that LP_GSWAP names, waits for its sweep boundary. -/
def Obligations.RunControl : Prop :=
  (∀ (s : State) (b : Bus) (k : Fin 33), may s b → s.eng.lpHostMode = true → s.eng.lpRuns k = true →
    applies (.lpEnClear b k) s fun e => (e.putRbit (Reg.lpCtl k.val) 0 false).onLp k fun x =>
      { x with halted := true, cause := 1, wait := none }) ∧
  (∀ (s : State) (b : Bus) (k : Fin 33), may s b → s.eng.lpHostMode = true → s.eng.lpEn k = false → (s.eng.lp k).halted = true →
    (s.eng.lp k).startIn = none →
    applies (.lpEnSet b k) s fun e => (e.putRbit (Reg.lpCtl k.val) 0 true).onLp k fun x => { x with startIn := some 1 }) ∧
  (∀ (s : State) (b : Bus) (k : Fin 33), may s b → s.eng.lpHostMode = false →
    (applies (.lpEnClear b k) s fun e => e) ∧ applies (.lpEnSet b k) s fun e => e) ∧
  (∀ (s : State) (b : Bus) (c : Lp) (i : Instr) (f : LpEffect), may s b → s.eng.lpHostMode = true → (s.eng.lp c.k).halted = true →
    (s.eng.lp c.k).cause = 1 → (s.eng.lp c.k).startIn = none → (s.eng.lp c.k).wait = none → c.ecc = .clean →
    lpDecode c (get0 (s.eng.lp c.k).pm (s.eng.lp c.k).pc.toNat) = some i → lpEffect i = some f →
    applies (.lpStep b c) s (lpTake c.k f)) ∧
  (∀ (s : State) (b : Bus) (k : Fin 33), may s b →
    ((s.eng.lp k).swapReq = false → applies (.cbankSwapReq b k) s fun e => e.onLp k fun x => { x with swapReq := true }) ∧
    ((s.eng.lp k).swapReq = true →
      applies (.cbankSwapReq b k) s fun e => { e with halfWrites := HalfWrite.swapAgain k :: e.halfWrites })) ∧
  (∀ (s : State) (b : Bus) (v : Word), may s b →
    enters (.gswapCommit b v) s fun e t =>
      (∀ k : Fin 33, t.lp k = if (if k.val < 32 then s.eng.rbit Reg.lpGswapLo k.val else bit v 0) then
        { s.eng.lp k with swapReq := true } else s.eng.lp k) ∧
      (∀ k : Fin 33, (if k.val < 32 then s.eng.rbit Reg.lpGswapLo k.val else bit v 0) = true → (s.eng.lp k).swapReq = true →
        HalfWrite.swapAgain k ∈ t.halfWrites) ∧ t = { e with lps := t.lps, halfWrites := t.halfWrites })

/-- APPLY asks for a swap, again where a request stands (R403), and while a window accumulates abandons the round too (R198, R207); RECAL
adds regions to PENDING in the modes that take triggers and nothing in the others (R214), and a region's age adds it (R201); ABORT ends a
round with ABORTED, its regions pending again and its result (R207); FULL is refused with REASON MODE outside CALIBRATE and LIGHT with
light on an input (R208), and otherwise begins its first round from the live set. CAL_DATA writes the shadow word that CAL_PTR names,
within the bits that word has, and nothing where LIVE = 1 or no such word is, and advances INDEX; during a copy-forward the write is held
(R198); it reads the live or the shadow word and advances INDEX (R215). -/
def Obligations.CalibrationCommands : Prop :=
  (∀ (s : State) (b : Bus), may s b → s.eng.cal.phase ≠ 1 ∨ s.eng.cal.windowOpen = false →
    (s.eng.rbit Reg.calCtl 1 = false → applies (.calApply b) s fun e => e.putRbit Reg.calCtl 1 true) ∧
    (s.eng.rbit Reg.calCtl 1 = true →
      enters (.calApply b) s fun e t => t.reg Reg.calCtl = s.eng.reg Reg.calCtl ∧ regsBut [Reg.calCtl] s.eng t ∧
        t = { e with regs := t.regs, halfWrites := HalfWrite.applyAgain :: e.halfWrites })) ∧
  (∀ (s : State) (b : Bus), may s b → calPhase s.eng = 1 → s.eng.cal.windowOpen = true → s.eng.rbit Reg.calCtl 1 = false →
    enters (.calApply b) s fun e t =>
      t.cal = { s.eng.cal with phase := 0, windowOpen := false, tempSum := [] } ∧ t.rbit Reg.calStat 6 = true ∧
      t.rbit Reg.calCtl 1 = true ∧ regsBut [Reg.calStat, Reg.calResult, Reg.calCtl] s.eng t ∧
      t = { e with regs := t.regs, cal := t.cal, fw := t.fw }) ∧
  (∀ (s : State) (b : Bus) (r : Byte), may s b → (s.eng.calModes = true ∨ s.eng.mode = .kennel) →
    applies (.calRecal b r) s fun e => e.putRfld Reg.calStat 8 8 (e.rfld Reg.calStat 8 8 ||| r.toNat)) ∧
  (∀ (s : State) (b : Bus) (r : Byte), may s b → s.eng.mode = .load → applies (.calRecal b r) s fun e => e) ∧
  (∀ (s : State) (r : Fin 8), s.eng.rfld Reg.calTrig 16 8 ≠ 0 → (s.eng.calModes = true ∨ s.eng.mode = .kennel) →
    s.eng.cal.estimatedAt.getD r.val 0 + s.eng.rfld Reg.calTrig 16 8 * 3600000000000 * nsUnit ≤ s.eng.elapsed →
    becomes (.calAgeTrigger r) s (s.eng.putRfld Reg.calStat 8 8 (s.eng.rfld Reg.calStat 8 8 ||| 2 ^ r.val))) ∧
  (∀ (s : State) (b : Bus), may s b → 1 ≤ s.eng.cal.phase → s.eng.cal.phase ≤ 3 →
    enters (.calAbort b) s fun e t =>
      t.cal = { s.eng.cal with phase := 0, windowOpen := false, tempSum := [] } ∧ t.rbit Reg.calStat 6 = true ∧
      t.rfld Reg.calStat 16 8 = 0 ∧
      t.rfld Reg.calStat 8 8 = s.eng.rfld Reg.calStat 8 8 ||| s.eng.rfld Reg.calStat 16 8 ∧ t.rfld Reg.calResult 0 4 = 2 ∧
      t.rfld Reg.calResult 16 8 = s.eng.rfld Reg.calStat 16 8 ∧ t.rbit Reg.calResult 31 = true ∧
      regsBut [Reg.calStat, Reg.calResult] s.eng t ∧ t = { e with regs := t.regs, cal := t.cal, fw := t.fw }) ∧
  (∀ (s : State) (b : Bus), may s b → s.eng.mode ≠ .calibrate →
    applies (.calFull b) s fun e => (e.putRbit Reg.calStat 7 true).putRfld Reg.calStat 28 4 1) ∧
  (∀ (s : State) (b : Bus), may s b → s.eng.mode = .calibrate → dark s.eng = false →
    applies (.calFull b) s fun e => (e.putRbit Reg.calStat 7 true).putRfld Reg.calStat 28 4 2) ∧
  (∀ (s : State) (b : Bus), may s b → s.eng.mode = .calibrate → dark s.eng = true → s.eng.cal.phase = 0 →
    enters (.calFull b) s fun e t =>
      t.cal.phase = 4 ∧ t.cal.fullRound = 0 ∧ t.cal.fullFrom = s.eng.tick ∧ t.cal.fitSet = s.eng.cal.live ∧ t.cal.points = [] ∧
      t.cal.live = s.eng.cal.live ∧ t.rbit Reg.calCtl 1 = true ∧ t.rbit Reg.calResult 31 = false ∧
      t = { e with regs := t.regs, cal := t.cal, fw := t.fw, freeCtr := t.freeCtr }) ∧
  (∀ (s : State) (b : Bus) (v : Word), may s b → s.eng.rbit Reg.calPtr 31 = false →
    calMask s.eng.variant (s.eng.rfld Reg.calPtr 28 3) (s.eng.rfld Reg.calPtr 0 18) ≠ 0 →
    enters (.calDataWrite b v) s fun e t =>
      (let key := calKey (s.eng.rfld Reg.calPtr 28 3) (s.eng.rfld Reg.calPtr 0 18)
       let w := v &&& calMask s.eng.variant (s.eng.rfld Reg.calPtr 28 3) (s.eng.rfld Reg.calPtr 0 18)
       t.cal = (if s.eng.cal.copying then { s.eng.cal with heldWrites := s.eng.cal.heldWrites ++ [(key, w)] }
        else { s.eng.cal with shadow := { s.eng.cal.shadow with words := put0 s.eng.cal.shadow.words key w } })) ∧
      t.rfld Reg.calPtr 0 18 = (s.eng.rfld Reg.calPtr 0 18 + 1) % 2 ^ 18 ∧ regsBut [Reg.calPtr] s.eng t ∧
      t = { e with regs := t.regs, cal := t.cal, halfWrites := t.halfWrites }) ∧
  (∀ (s : State) (b : Bus) (v : Word), may s b → (s.eng.rbit Reg.calPtr 31 = true ∨
      calMask s.eng.variant (s.eng.rfld Reg.calPtr 28 3) (s.eng.rfld Reg.calPtr 0 18) = 0) →
    applies (.calDataWrite b v) s fun e => e.putRfld Reg.calPtr 0 18 (e.rfld Reg.calPtr 0 18 + 1)) ∧
  (∀ (s : State) (b : Bus), may s b → s.eng.rfld Reg.calPtr 28 3 ≠ 3 →
    enters (.calDataRead b) s fun e t =>
      lastRead t b = calWord (if s.eng.rbit Reg.calPtr 31 then s.eng.cal.live.words else s.eng.cal.shadow.words)
        (s.eng.rfld Reg.calPtr 28 3) (s.eng.rfld Reg.calPtr 0 18) ∧
      t.rfld Reg.calPtr 0 18 = (s.eng.rfld Reg.calPtr 0 18 + 1) % 2 ^ 18 ∧ regsBut [Reg.calPtr] s.eng t ∧
      t = { e with regs := t.regs, rdata := t.rdata, latch := t.latch })

/-- A round begins in CALIBRATE, HOLD and RUN with PENDING regions and RUN_EN = 1: they become ACTIVE, the shadow set's header gets the
next ROUND and its window, and APPLY is asked for (R201, R202). Its computation counts the elements estimated and rejected: a share above
the limit rejects the whole round with CAL_REJECT and leaves both sets; any other leaves the live set and asks for the new one's swap
(R206, R207). A round of full calibration other than the last is followed, when its sweeps have run, by the next one (R209); the last
writes the whole set with FOLD = 1 and has its staged entries verified for calibration's Whistle (R211). The live set and the cells stay
as they are. -/
def Obligations.Rounds : Prop :=
  (∀ s : State, s.eng.cal.phase = 0 → s.eng.cal.fold = .none → s.eng.cal.copying = false → s.eng.rbit Reg.calCtl 0 = true →
    s.eng.calModes = true → s.eng.rfld Reg.calStat 8 8 ≠ 0 →
    runs .calRoundStart s fun t =>
      (let round := (fld (calWord s.eng.cal.live.words 5 0) 16 16 + 1) % 65536
       t.cal.round = round ∧ fld (calWord t.cal.shadow.words 5 0) 16 16 = round ∧
        fld (calWord t.cal.shadow.words 5 0) 4 12 = max 256 (s.eng.rfld Reg.calWin 0 12) ∧ bit (calWord t.cal.shadow.words 5 0) 0 = false) ∧
      (∀ a, a ≠ calKey 5 0 → get0 t.cal.shadow.words a = get0 s.eng.cal.shadow.words a) ∧
      t.rfld Reg.calStat 16 8 = s.eng.rfld Reg.calStat 8 8 ∧ t.rfld Reg.calStat 8 8 = 0 ∧ t.rbit Reg.calCtl 1 = true ∧
      t.rbit Reg.calResult 31 = false ∧ regsBut [Reg.calStat, Reg.calCtl, Reg.calResult] s.eng t ∧
      t.cal = { s.eng.cal with
        phase := 1, round := t.cal.round, windowOpen := false, tempSum := [], shadow := { s.eng.cal.shadow with words := t.cal.shadow.words } } ∧
      t = { s.eng with regs := t.regs, cal := t.cal, fw := t.fw }) ∧
  (∀ s : State, s.eng.calModes = true → calPhase s.eng = 2 → s.eng.cal.copying = false →
    runs .calCompute s fun t =>
      (s.eng.rfld Reg.calLimits 0 8 * t.rfld Reg.calEstimated 0 16 < 1000 * t.rfld Reg.calRejected 0 16 →
        t.cal.phase = 0 ∧ t.rbit Reg.calStat 5 = true ∧ t.rfld Reg.calStat 28 4 = 5 ∧ t.rfld Reg.calResult 0 4 = 1 ∧
        t.cal.live = s.eng.cal.live ∧ t.cal.shadow = s.eng.cal.shadow ∧ ∃ l, reports t = reports s.eng ++ l ++ [(58, 0)]) ∧
      (1000 * t.rfld Reg.calRejected 0 16 ≤ s.eng.rfld Reg.calLimits 0 8 * t.rfld Reg.calEstimated 0 16 →
        t.cal.phase = 3 ∧ t.rbit Reg.calCtl 1 = true ∧ t.cal.live = s.eng.cal.live) ∧
      t = { s.eng with regs := t.regs, cal := t.cal, fw := t.fw, flt := t.flt, freeCtr := t.freeCtr }) ∧
  (∀ s : State, s.eng.cal.phase = 4 → s.eng.cal.fold = .none → s.eng.cal.copying = false →
    s.eng.rbit Reg.calCtl 1 = false → s.eng.cal.fullFrom + 129 * 34000 ≤ s.eng.tick →
    s.eng.cal.fullRound + 1 < 4 * s.eng.variant.stages →
    runs .calFullRound s fun t =>
      t.cal.fullRound = s.eng.cal.fullRound + 1 ∧ t.cal.phase = 4 ∧ t.cal.fold = .none ∧ t.rbit Reg.calCtl 1 = true ∧
      t.cal.fullFrom = s.eng.tick ∧ t.cal.points = [] ∧ t.cal.live = s.eng.cal.live ∧
      t = { s.eng with regs := t.regs, cal := t.cal, freeCtr := t.freeCtr }) ∧
  (∀ s : State, s.eng.cal.phase = 4 → s.eng.cal.fold = .none → s.eng.cal.copying = false →
    s.eng.rbit Reg.calCtl 1 = false → s.eng.cal.fullFrom + 129 * 34000 ≤ s.eng.tick →
    s.eng.cal.fullRound + 1 = 4 * s.eng.variant.stages → s.eng.drv.loader = .idle → s.eng.stagedLocked = false →
    bit (calWord s.eng.cal.live.words 5 0) 0 = false →
    runs .calFullRound s fun t =>
      t.cal.fold = .building ∧ t.rbit Reg.calCtl 1 = true ∧ t.drv.loader = .verify s.eng.tick ∧ t.drv.lock = .held ∧
      bit (calWord t.cal.shadow.words 5 0) 0 = true ∧ t.cal.live = s.eng.cal.live ∧
      t.drv = { s.eng.drv with staged := t.drv.staged, crcStaged := t.drv.crcStaged, dirty := t.drv.dirty, rangeHold := t.drv.rangeHold,
                               loader := .verify s.eng.tick, lock := .held } ∧
      t = { s.eng with regs := t.regs, cal := t.cal, drv := t.drv, freeCtr := t.freeCtr })

/-- A swap on a sweep boundary makes the shadow set live and starts the copy-forward (R198), and a set whose DELTA differs from
DRV_PROBE.DELTA is refused with its reason; the copy-forward ends with the live set in the shadow and the writes held meanwhile on top
(R198); an applied set is stored in the slot of the lower generation (R212). The swaps are stated for machines that do not run the
standard program, and for a TICK without a CAL_DATA write. -/
def Obligations.SetSwap : Prop :=
  (∀ s : State, s.eng.calModes = true → s.eng.coincident = true → whistleDue s.eng = false → sweepDue s.eng = true →
    (∀ k : Fin 33, (s.eng.lp k).standard = false) → s.eng.rbit Reg.calCtl 1 = true → s.eng.cal.copying = false → s.eng.cal.fold = .none →
    (calWord s.eng.cal.shadow.words 5 5).toNat = s.eng.rfld Reg.drvProbe 0 8 → setOk s.eng s.eng.cal.shadow = true →
    s.eng.halfWrites = [] →
    runs .sweepBoundary s fun t =>
      t.cal.live.words = s.eng.cal.shadow.words ∧ t.cal.live.vpi = s.eng.cal.shadow.vpi ∧ t.cal.shadow = s.eng.cal.live ∧
      t.cal.live.gen = s.eng.cal.live.gen ∧ t.cal.copying = true ∧ t.cal.copyFrom = s.eng.tick ∧ t.rbit Reg.calCtl 1 = false ∧ t.rbit Reg.calStat 4 = true) ∧
  (∀ s : State, s.eng.calModes = true → s.eng.coincident = true → whistleDue s.eng = false → sweepDue s.eng = true →
    (∀ k : Fin 33, (s.eng.lp k).standard = false) → s.eng.rbit Reg.calCtl 1 = true → s.eng.cal.copying = false → s.eng.cal.fold = .none →
    s.eng.cal.phase = 0 → s.eng.cal.windowOpen = false → (calWord s.eng.cal.shadow.words 5 5).toNat ≠ s.eng.rfld Reg.drvProbe 0 8 →
    runs .sweepBoundary s fun t =>
      t.cal = s.eng.cal ∧ (t.rbit Reg.calCtl 1 = true ↔ HalfWrite.applyAgain ∈ s.eng.halfWrites) ∧ t.rbit Reg.calStat 7 = true ∧ t.rfld Reg.calStat 28 4 = 3) ∧
  (∀ s : State, s.eng.mode ≠ .reset → s.eng.cal.copying = true →
    runs .calCopyComplete s fun t =>
      t.cal.copying = false ∧ t.cal.heldWrites = [] ∧ t.cal.live = s.eng.cal.live ∧
      t.cal.shadow.words = memWrites zeroWord s.eng.cal.live.words s.eng.cal.heldWrites ∧ t.cal.shadow.vpi = s.eng.cal.live.vpi ∧
      t = { s.eng with cal := t.cal }) ∧
  (∀ (s : State) (c : CalSet), s.eng.mode ≠ .reset → s.eng.cal.storeSet = some c → s.eng.rbit Reg.calCtl 3 = true →
    s.eng.cal.lastStore = none → s.eng.nvmHeld = false → slotGen s.eng.nvm.cal.2.commit < slotGen s.eng.nvm.cal.1.commit →
    runs .calStore s fun t =>
      t.nvm.cal.1 = s.eng.nvm.cal.1 ∧ t.nvm.cal.2.set.words = c.words ∧ t.nvm.cal.2.set.gen = min 0xFFFFFFFE (s.eng.cal.live.gen + 1) ∧
      t.nvm.cal.2.commit = some { gen := s.eng.cal.live.gen + 1, sec := s.eng.nowSec, ns := s.eng.nowSubNs } ∧
      t.cal.storeSet = none ∧ t.cal.live.gen = min 0xFFFFFFFE (s.eng.cal.live.gen + 1) ∧ t.rbit Reg.calStore 16 = true ∧
      regsBut [Reg.calStore] s.eng t ∧ t = { s.eng with regs := t.regs, nvm := t.nvm, cal := t.cal })

/-- A submission with a larger number that no row of R218 refuses is queued behind the others, and SCH_LAST_SEQ_LO and _HI take its number
(R216, R217); one with a number not above theirs only sets DUP. One that finds its queues full is judged once the removals of its TICK are
counted (R218): with nothing else to do on that edge it then ends POLICED where its queue is still full, and is queued where there is
room. The rows of R218 that a submission's own words and the mode decide refuse it at once with their outcome: a requester above 64 or a
mode without commits MODE, an illegal deadline BAD_DEADLINE, and a deadline too near MISSED where its queue has room. -/
def Obligations.Submissions : Prop :=
  (∀ (s : State) (c : Instr) (b : Bus) (m : Bool) (cmd : Word) (q : SubmitWords), submits c = some (b, cmd, q) → may s b →
    s.eng.memberOf b = some m → submitNumber s q → q.requester.val ≤ 64 → (s.eng.mode = .hold ∨ s.eng.mode = .run) →
    q.dlNs.toNat ≤ 999999999 → (queueOf s.eng q.requester).length < qlim s.eng q.requester → s.eng.sch.queue.length < 2048 →
    (fld cmd 0 4 ≠ 3 ∨ permuteBusy s.eng = false) →
    (∀ d ∈ (submission s cmd q).deadline, s.eng.stamp 50 ≤ d * nsUnit) →
    enters c s fun e t =>
      t.sch = { s.eng.sch with stage := t.sch.stage, accepted := true, queue := s.eng.sch.queue ++ [submission s cmd q] } ∧
      t.reg Reg.schLastSeqLo = q.seqLo ∧ t.reg Reg.schLastSeqHi = q.seqHi ∧
      regsBut [Reg.schLastSeqLo, Reg.schLastSeqHi] s.eng t ∧ t = { e with regs := t.regs, sch := t.sch }) ∧
  (∀ (s : State) (c : Instr) (b : Bus) (m : Bool) (cmd : Word) (q : SubmitWords), submits c = some (b, cmd, q) → may s b →
    s.eng.memberOf b = some m → s.eng.sch.accepted = true →
    submitSeq q ≤ (s.eng.reg Reg.schLastSeqHi).toNat * 2 ^ 32 + (s.eng.reg Reg.schLastSeqLo).toNat →
    enters c s fun e t =>
      t.rbit Reg.schStat 8 = true ∧ t.sch = { s.eng.sch with stage := t.sch.stage } ∧
      (∀ i, i ≠ 8 → i < 32 → t.rbit Reg.schStat i = s.eng.rbit Reg.schStat i) ∧
      regsBut [Reg.schStat] s.eng t ∧ t = { e with regs := t.regs, sch := t.sch }) ∧
  (∀ (s : State) (c : Instr) (b : Bus) (m : Bool) (cmd : Word) (q : SubmitWords), submits c = some (b, cmd, q) → may s b →
    s.eng.memberOf b = some m → submitNumber s q → q.requester.val ≤ 64 → (s.eng.mode = .hold ∨ s.eng.mode = .run) →
    q.dlNs.toNat ≤ 999999999 → qlim s.eng q.requester ≤ (queueOf s.eng q.requester).length →
    enters c s fun e t =>
      t.due = s.eng.due ++ [.submit (submission s cmd q) (word s.eng.nowSubNs) (deadlinePast s.eng (submission s cmd q))] ∧
      t.sch = { s.eng.sch with stage := t.sch.stage, accepted := true } ∧ regsBut [Reg.schLastSeqLo, Reg.schLastSeqHi] s.eng t ∧
      t = { e with regs := t.regs, sch := t.sch, due := t.due }) ∧
  (∀ (s : State) (r : SchReq) (ns : Word), s.pending = [] → s.eng.mode ≠ .reset → s.eng.due = [.submit r ns false] →
    s.eng.sch.fired = none → s.eng.flt.chip = none → s.eng.sch.outs.length < 64 →
    (qlim s.eng r.requester ≤ (queueOf s.eng r.requester).length →
      ∃ t, step s = .next t ∧ reported s.eng ns 3 0 r t.eng ∧ t.eng.rbit Reg.schStat 11 = true ∧ t.eng.sch.queue = s.eng.sch.queue) ∧
    ((queueOf s.eng r.requester).length < qlim s.eng r.requester → s.eng.sch.queue.length < 2048 →
      (r.op ≠ 3 ∨ permuteBusy s.eng = false) →
      ∃ t, step s = .next t ∧ t.eng.sch.queue = s.eng.sch.queue ++ [r] ∧ t.eng.sch.outs = s.eng.sch.outs)) ∧
  (∀ (s : State) (c : Instr) (b : Bus) (m : Bool) (cmd : Word) (q : SubmitWords), submits c = some (b, cmd, q) → may s b →
    s.eng.memberOf b = some m → submitNumber s q → s.eng.sch.outs.length < 64 →
    (64 < q.requester.val ∨ s.eng.mode = .load ∨ s.eng.mode = .calibrate ∨ s.eng.mode = .kennel →
      runs c s fun t => reported s.eng (word s.eng.nowSubNs) 9 0 (submission s cmd q) t ∧ t.sch.queue = s.eng.sch.queue ∧
        regsBut [Reg.schLastSeqLo, Reg.schLastSeqHi] s.eng t) ∧
    (q.requester.val ≤ 64 → (s.eng.mode = .hold ∨ s.eng.mode = .run) → 999999999 < q.dlNs.toNat →
      runs c s fun t => reported s.eng (word s.eng.nowSubNs) 0xC 0 (submission s cmd q) t ∧ t.sch.queue = s.eng.sch.queue ∧
        regsBut [Reg.schLastSeqLo, Reg.schLastSeqHi] s.eng t) ∧
    (∀ d, q.requester.val ≤ 64 → (s.eng.mode = .hold ∨ s.eng.mode = .run) → q.dlNs.toNat ≤ 999999999 →
      (queueOf s.eng q.requester).length < qlim s.eng q.requester → s.eng.sch.queue.length < 2048 → fld cmd 0 4 ≠ 3 →
      (submission s cmd q).deadline = some d → d * nsUnit < s.eng.stamp 50 →
      runs c s fun t => reported s.eng (word s.eng.nowSubNs) 4 0 (submission s cmd q) t ∧ t.rbit Reg.schStat 10 = true ∧
        t.sch.queue = s.eng.sch.queue ∧ regsBut [Reg.schLastSeqLo, Reg.schLastSeqHi, Reg.schStat] s.eng t))

/-- R217: a submission whose number is not greater than that of the last accepted one is discarded without effect or report and sets DUP;
after reset any number is accepted; the second copy of a switchover's two is dropped. -/
def Obligations.SubmissionGuard : Prop :=
  (∀ (s : State) (c : Instr) (b : Bus) (m : Bool) (cmd : Word) (q : SubmitWords), submits c = some (b, cmd, q) → may s b →
    s.eng.memberOf b = some m → s.eng.sch.accepted = true →
    submitSeq q ≤ (s.eng.reg Reg.schLastSeqHi).toNat * 2 ^ 32 + (s.eng.reg Reg.schLastSeqLo).toNat →
    enters c s fun e t =>
      t.rbit Reg.schStat 8 = true ∧ t.sch = { e.sch with stage := t.sch.stage } ∧
      (∀ i, i ≠ 8 → t.rbit Reg.schStat i = e.rbit Reg.schStat i) ∧ regsBut [Reg.schStat] e t ∧
      t = { e with regs := t.regs, sch := t.sch }) ∧
  State.reset.eng.sch.accepted = false ∧
  (∀ (s : State) (c : Instr) (b : Bus) (m : Bool) (cmd : Word) (q : SubmitWords), submits c = some (b, cmd, q) → may s b →
    s.eng.log.length + 12 ≤ 4096 → s.eng.memberOf b = some m → s.eng.sch.accepted = false →
    enters c s fun e t =>
      t.sch.accepted = true ∧ t.reg Reg.schLastSeqLo = q.seqLo ∧ t.reg Reg.schLastSeqHi = q.seqHi ∧
      (t.sch.queue = e.sch.queue ++ [submission s cmd q] ∨
        (t.sch.queue = e.sch.queue ∧ (t.sch.outs ≠ e.sch.outs ∨ 64 ≤ e.sch.outs.length)) ∨
        (t.sch.queue = e.sch.queue ∧ ∃ ns late, t.due = e.due ++ [.submit (submission s cmd q) ns late])) ∧
      runs c { s with eng := { t with turn := turnAfter c } } fun u =>
        u.rbit Reg.schStat 8 = true ∧ u.sch.queue = t.sch.queue ∧ u.sch.outs = t.sch.outs ∧ u.due = t.due)

/-- With EN = 1 the scheduler issues its queued head to a free route engine, on a TICK after the one on which EN took effect and after one
of a discarded duplicate (R219 to R221). Stated for one queued request: a PIN of the operator is taken out and ends OK at once; an ADD,
REMOVE or PERMUTE of the operator for which an edge fits goes into computation; one whose number the route engine has passed is discarded
and ends ROUTE with DETAIL 0xF, charged nothing (R220). A write of EN = 0 takes effect at once, of EN = 1 on the next TICK (R221), and
reading SCH_OUT3 takes the head report out (R236). On a refill edge every credit below its BURST takes the whole units that RATE and its
residue give, up to BURST, and the energy bucket its allotment times 10^6 fJ up to its cap, once on that edge (R223, R293); a RATE or
BURST write keeps 24 bits, and a lower BURST lowers the credit (R224). Stated for an edge without a write of RATE or BURST on its own
TICK. -/
def Obligations.IssueAndCredit : Prop :=
  (∀ (s : State) (r : SchReq), s.eng.rbit Reg.schCtl 0 = true → s.eng.sch.enAt ≠ some s.eng.tick → s.eng.sch.dupAt ≠ some s.eng.tick →
    (s.eng.mode = .hold ∨ s.eng.mode = .run) → s.eng.rte.job = none →
    s.eng.rte.held = none → s.eng.sch.issued = none → s.eng.sch.commit = none → s.eng.sch.queue = [r] → r.requester = 64 → r.direct = false →
    (r.op = 4 → routeDuplicate s.eng r.seq = false → validate s.eng .pin r = none → s.eng.sch.outs.length < 64 →
      runs .schIssue s fun t =>
        t.sch.queue = [] ∧ t.sch.issued = none ∧ reported s.eng (word s.eng.nowSubNs) 2 0 r t ∧
        get0 t.rte.base (reqInput r) = putBit (get0 s.eng.rte.base (reqInput r)) 30 true ∧
        (∀ k, k ≠ reqInput r → get0 t.rte.base k = get0 s.eng.rte.base k) ∧
        t.reg Reg.rteLastSeqLo = word r.seq ∧ t.reg Reg.rteLastSeqHi = word (r.seq / 2 ^ 32) ∧
        regsBut (Reg.rteLastSeqLo :: Reg.rteLastSeqHi :: resultRegs) s.eng t ∧
        t = { s.eng with regs := t.regs, sch := t.sch, rte := t.rte, fw := t.fw }) ∧
    (∀ op : RouteOp, opOfCode r.op = some op → op = .add ∨ op = .remove ∨ op = .permute → routeDuplicate s.eng r.seq = false →
      (earliestFit s.eng 64 (s.eng.rfld Reg.schLead (if r.op = 3 then 16 else 0) 16)).isSome = true → validate s.eng op r = none →
      runs .schIssue s fun t =>
        t.sch = { s.eng.sch with queue := [], issued := some { req := r, cost := 0, done := false } } ∧
        (∃ j, t.rte = { s.eng.rte with accepted := true, job := some j } ∧ j.op = op ∧ j.input = reqInput r ∧ j.output = reqOutput r ∧
          j.seq = r.seq ∧ j.start = s.eng.tick ∧ j.words = s.eng.cal.live.words ∧ j.aborted = false ∧ j.cancelled = false) ∧
        t.reg Reg.rteLastSeqLo = word r.seq ∧ t.rbit Reg.rteResult 31 = false ∧
        regsBut [Reg.rteLastSeqLo, Reg.rteLastSeqHi, Reg.rteResult] s.eng t ∧
        t = { s.eng with regs := t.regs, sch := t.sch, rte := t.rte }) ∧
    (r.op = 4 → routeDuplicate s.eng r.seq = true → s.eng.sch.outs.length < 64 →
      runs .schIssue s fun t =>
        t.sch.queue = [] ∧ t.sch.issued = none ∧ t.sch.dupAt = some s.eng.tick ∧ reported s.eng (word s.eng.nowSubNs) 5 0xF r t ∧
        t.rbit Reg.rteStat 3 = true ∧ regsBut [Reg.rteStat] s.eng t ∧ t = { s.eng with regs := t.regs, sch := t.sch })) ∧
  (∀ s : State, s.eng.sch.enAt = some s.eng.tick ∨ s.eng.sch.dupAt = some s.eng.tick ∨ s.eng.rbit Reg.schCtl 0 = false →
    idles .schIssue s) ∧
  (∀ (s : State) (b : Bus), may s b →
    (applies (.schEnWrite b false) s fun e => { e.putRbit Reg.schCtl 0 false with due := e.due.filter fun d => d != .schEn }) ∧
    (s.eng.rbit Reg.schCtl 0 = true → applies (.schEnWrite b true) s fun e => e) ∧
    (s.eng.rbit Reg.schCtl 0 = false → applies (.schEnWrite b true) s fun e => { e with due := e.due ++ [.schEn] })) ∧
  (∀ s : State, s.pending = [] → s.eng.mode ≠ .reset → s.eng.due = [.schEn] → s.eng.sch.fired = none → s.eng.flt.chip = none →
    ∃ t, step s = .next t ∧ t.eng.rbit Reg.schCtl 0 = true ∧ t.eng.sch = { s.eng.sch with enAt := some (s.eng.tick + 1) }) ∧
  (∀ (s : State) (b : Bus) (o : Word) (n : Nat) (ns : Word) (l : List (Word × Nat × Word)), may s b → s.eng.sch.outs = (o, n, ns) :: l →
    enters (.schOutRead b) s fun e t =>
      lastRead t b = ns ∧ t = { e with rdata := t.rdata, latch := t.latch, sch := { s.eng.sch with outs := l } }) ∧
  (∀ s : State, s.eng.mode ≠ .reset → (s.eng.tick - s.eng.divTick) % 250 = 0 → s.eng.sch.lastRefill ≠ some s.eng.tick →
    s.eng.sch.tbWrites = [] →
    runs .refillEdge s fun t =>
      (∀ q : Fin 64, (creditOf s.eng q < burstOf s.eng q → creditOf t q =
          min (creditOf s.eng q + ((s.eng.sch.residue[q] + s.eng.rfld (Reg.schTbRate q) 0 24) / 1000000 : Nat)) (burstOf s.eng q)) ∧
        (burstOf s.eng q ≤ creditOf s.eng q → creditOf t q = creditOf s.eng q) ∧
        t.sch.residue[q] = (s.eng.sch.residue[q] + s.eng.rfld (Reg.schTbRate q) 0 24) % 1000000) ∧
      t.pwr = { s.eng.pwr with ebkt := min (s.eng.pwr.ebkt + refillAllotment s.eng * 1000000) (max s.eng.pwr.ebkt (ebktCap s.eng)) } ∧
      t.sch = { s.eng.sch with residue := t.sch.residue, lastRefill := some s.eng.tick } ∧
      regsBut creditRegs s.eng t ∧ t = { s.eng with regs := t.regs, sch := t.sch, pwr := t.pwr }) ∧
  (∀ s : State, s.eng.sch.lastRefill = some s.eng.tick ∨ (s.eng.tick - s.eng.divTick) % 250 ≠ 0 → idles .refillEdge s) ∧
  (∀ (s : State) (b : Bus) (q : Fin 64) (v : Word), may s b →
    enters (.tbRateWrite b q v) s fun e t =>
      t.reg (Reg.schTbRate q) = v &&& 0xFFFFFF ∧ regsBut [Reg.schTbRate q] s.eng t ∧
      t = { e with regs := t.regs, sch := { s.eng.sch with tbWrites := t.sch.tbWrites } }) ∧
  (∀ (s : State) (b : Bus) (q : Fin 64) (v : Word), may s b →
    enters (.tbBurstWrite b q v) s fun e t =>
      t.reg (Reg.schTbBurst q) = v &&& 0xFFFFFF ∧
      creditOf t q = (if 0 < creditOf s.eng q ∧ (fld v 0 24 : Int) < creditOf s.eng q then (fld v 0 24 : Int) else creditOf s.eng q) ∧
      regsBut [Reg.schTbBurst q, Reg.schTbCredit q] s.eng t ∧
      t = { e with regs := t.regs, sch := { s.eng.sch with tbWrites := t.sch.tbWrites } })

/-- COMMIT begins a validation, DISCARD drops a locked list (R228); the validation locks a legal list with its start and refuses a list
without entries (R228, R229); a locked list whose start has come becomes active, one list at most on an edge, and the replaced one is
pending again (R229); the default list becomes active at its base, unless the committed list's start has come too (R227, R229); a START_NS
above 999,999,999 is refused (R433). -/
def Obligations.GateLists : Prop :=
  (∀ (s : State) (b : Bus) (d : Bool), may s b → s.eng.sch.validating = none → (d = true ∨ s.eng.sch.locked = none) →
    applies (.glCommit b d) s fun e => { e with
      sch := { e.sch with locked := if d then none else e.sch.locked, validating := some e.tick } }) ∧
  (∀ (s : State) (b : Bus), may s b → s.eng.sch.validating = none →
    applies (.glDiscard b) s fun e => { e with sch := { e.sch with locked := none } }) ∧
  (∀ (s : State) (n : Nat), s.eng.mode ≠ .reset → s.eng.sch.validating = some n → listFault s.eng = none → s.eng.stamp 250 ≤ pendStart s.eng →
    becomes .glValidationEnd s { s.eng with
      sch := { s.eng.sch with validating := none, locked := some (pendingList s.eng, pendStart s.eng, s.eng.stamp 250) } }) ∧
  (∀ (s : State) (n : Nat), s.eng.mode ≠ .reset → s.eng.sch.validating = some n → s.eng.reg Reg.schGlPendLen = 0 →
    becomes .glValidationEnd s
      (({ s.eng with sch.validating := none }.putRbit Reg.schGlStat 3 true).putRfld Reg.schGlStat 6 2 1)) ∧
  (∀ (s : State) (L : GateList) (st v : Nat), s.eng.mode ≠ .reset → s.eng.sch.active = none → s.eng.sch.locked = some (L, st, v) →
    max st v ≤ s.eng.time → s.eng.sch.listAt ≠ some s.eng.tick →
    runs .glActivate s fun t =>
      t.sch = { s.eng.sch with active := some { L with base := s.eng.time }, locked := none, listAt := some s.eng.tick } ∧
      t.rbit Reg.schGlStat 5 = true ∧ regsBut [Reg.schGlStat] s.eng t ∧ t = { s.eng with regs := t.regs, sch := t.sch, due := t.due }) ∧
  (∀ (s : State) (L A : GateList) (st v k : Nat), s.eng.mode ≠ .reset → s.eng.sch.active = some A →
    s.eng.sch.locked = some (L, st, v) → 0 < A.cycle → max st v = A.base + k * (A.cycle * tickUnits) → max st v ≤ s.eng.time →
    s.eng.sch.listAt ≠ some s.eng.tick →
    runs .glActivate s fun t =>
      t.sch = { s.eng.sch with active := some { L with base := max st v }, locked := none, pend := t.sch.pend, listAt := some s.eng.tick } ∧
      t.reg Reg.schGlPendCycle = word A.cycle ∧ t.reg Reg.schGlPendLen = word A.entries.length ∧
      t.reg Reg.schGlPendStartNs = word (A.base / nsUnit % 1000000000) ∧ t.rbit Reg.schGlStat 5 = true ∧
      t = { s.eng with regs := t.regs, sch := t.sch, due := t.due }) ∧
  (∀ s : State, s.eng.sch.listAt = some s.eng.tick → idles .glActivate s) ∧
  (∀ (s : State) (L : GateList), s.eng.mode ≠ .reset → s.eng.sch.default = some L → s.eng.sch.active = none → L.base ≤ s.eng.time →
    (lockedDue s.eng = false →
      becomes .glDefaultActivate s { s.eng with
        sch := { s.eng.sch with default := none, active := some L, listAt := some s.eng.tick } }) ∧
    (lockedDue s.eng = true → idles .glDefaultActivate s)) ∧
  (∀ (s : State) (b : Bus) (v : Word), may s b → s.eng.sch.validating = none → s.eng.sch.locked = none →
    applies (.glStartNsWrite b v) s fun e =>
      if 999999999 < v.toNat then e.putRbit Reg.schGlStat 8 true else e.setReg Reg.schGlPendStartNs v)

/-- From 10 TICK after its verification an arming decision arms a commit for the edge 50 TICK ahead in RUN, where that edge fits the
requester's window, its deadline allows it, the settle time since the last Whistle has passed and the energy bucket holds its estimate
(R231 to R233); the first decision cancels as ENERGY_CAP an estimate above the bucket's capacity (R233). A commit whose edge is not yet
allowed waits. A queued request whose deadline edge is at most 50 TICK ahead ends MISSED (R234). SCH_CTL.CANCEL ends a commit that has not
armed, or whose Whistle is at least 4 TICK away, as CANCELLED; a nearer one only sets CANCEL_LATE (R235). The base map reverts to the
current one, and a result that still waits for the builder reads BASE_CANCELLED (R75). Stated for the operator's requests, which are
charged nothing. -/
def Obligations.ArmingAndCancellation : Prop :=
  (∀ (s : State) (c : Commit) (v : Nat) (d : Bool), s.eng.sch.commit = some c → c.stage = .waiting v d → v + 10 ≤ s.eng.tick →
    s.eng.mode = .run → fits s.eng c.req.requester 50 = true → (∀ d ∈ c.req.deadline, s.eng.stamp 50 ≤ d * nsUnit) →
    s.eng.sch.wPrev + 250 + s.eng.sch.pause ≤ s.eng.tick + 50 → c.result.energy ≤ s.eng.pwr.ebkt →
    (d = true ∨ c.result.energy ≤ ebktCap s.eng) → c.req.requester < 2 ^ 31 →
    runs .armDecision s fun t =>
      t.sch = { s.eng.sch with commit := some { c with stage := .armed (s.eng.tick + 50) }, eResv := c.result.energy } ∧
      t.pwr = { s.eng.pwr with ebkt := s.eng.pwr.ebkt - c.result.energy } ∧ t.rbit Reg.schArm 31 = true ∧
      t.reg Reg.schArmNs = word (s.eng.stamp 50 / nsUnit % 1000000000) ∧ t.rbit (Reg.timCmpCtl 0) 0 = true ∧
      t.reg (Reg.timCmpNs 0) = word (s.eng.stamp 50 / nsUnit % 1000000000) ∧ events t = events s.eng ++ [0xA3] ∧
      regsBut [Reg.schArm, Reg.schArmNs, Reg.timCmpNs 0, Reg.timCmpSecLo 0, Reg.timCmpSecHi 0, Reg.timCmpCtl 0] s.eng t ∧
      t = { s.eng with regs := t.regs, sch := t.sch, pwr := t.pwr, tim := t.tim, evt := t.evt }) ∧
  (∀ (s : State) (c : Commit) (v : Nat), s.eng.sch.commit = some c → c.stage = .waiting v false → v + 10 ≤ s.eng.tick →
    ebktCap s.eng < c.result.energy → s.eng.sch.outs.length < 64 → s.eng.rte.held = none → 64 ≤ c.req.requester →
    runs .armDecision s fun t =>
      t.sch.commit = none ∧ reported s.eng (word s.eng.nowSubNs) 0xA 0 c.req t ∧
      t.drv = { s.eng.drv with reseedDue := true, lock := .held } ∧ t.rte.base = s.eng.rte.cur ∧ t.rte.cur = s.eng.rte.cur ∧
      events t = events s.eng ++ [0xA4] ∧ t = { s.eng with drv := t.drv, sch := t.sch, rte := t.rte, evt := t.evt }) ∧
  (∀ (s : State) (c : Commit) (v : Nat) (d : Bool), s.eng.sch.commit = some c → c.stage = .waiting v d → v + 10 ≤ s.eng.tick →
    (d = true ∨ c.result.energy ≤ ebktCap s.eng) → mayArm s.eng c = false →
    becomes .armDecision s { s.eng with sch := { s.eng.sch with commit := some { c with stage := .waiting v true } } }) ∧
  (∀ (s : State) (c : Commit) (v : Nat) (d : Bool), s.eng.sch.commit = some c → c.stage = .waiting v d → s.eng.tick < v + 10 →
    idles .armDecision s) ∧
  (∀ (s : State) (r : SchReq) (d : Nat), s.eng.mode ≠ .reset → s.eng.sch.queue = [r] → r.deadline = some d → d * nsUnit ≤ s.eng.stamp 50 →
    s.eng.sch.issued = none → s.eng.sch.commit = none → s.eng.sch.outs.length < 64 →
    runs .deadlineMissed s fun t =>
      t.sch.queue = [] ∧ reported s.eng (word s.eng.nowSubNs) 4 0 r t ∧ t.rbit Reg.schStat 10 = true ∧
      regsBut [Reg.schStat] s.eng t ∧ t = { s.eng with regs := t.regs, sch := { s.eng.sch with queue := [], outs := t.sch.outs } }) ∧
  (∀ (s : State) (b : Bus) (c : Commit) (n : Nat) (d : Bool), may s b → s.eng.sch.issued = none → s.eng.sch.commit = some c →
    c.stage = .waiting n d → s.eng.rte.held = none → s.eng.rte.job = none → c.req.requester = 64 → s.eng.sch.outs.length < 64 →
    enters (.schCancel b) s fun e t =>
      t.sch.commit = none ∧ reported s.eng (word s.eng.nowSubNs) 7 0 c.req t ∧
      t.drv = { s.eng.drv with reseedDue := true, lock := .held } ∧
      t.rte = { s.eng.rte with base := s.eng.rte.cur, cellsBase := s.eng.rte.cellsCur } ∧ events t = events s.eng ++ [0xA4] ∧
      t = { e with drv := t.drv, sch := t.sch, rte := t.rte, evt := t.evt }) ∧
  (∀ (s : State) (b : Bus) (c : Commit) (w : Nat), may s b → s.eng.sch.issued = none → s.eng.sch.commit = some c → c.stage = .armed w →
    w < s.eng.tick + 4 → applies (.schCancel b) s fun e => e.putRbit Reg.schStat 12 true) ∧
  (∀ (s : State) (b : Bus) (c : Commit) (w : Nat), may s b → s.eng.sch.issued = none → s.eng.sch.commit = some c → c.stage = .armed w →
    s.eng.tick + 4 ≤ w → s.eng.rte.held = none → s.eng.rte.job = none → c.req.requester = 64 → s.eng.sch.outs.length < 64 →
    enters (.schCancel b) s fun e t =>
      t.sch.commit = none ∧ reported s.eng (word s.eng.nowSubNs) 7 0 c.req t ∧ t.sch.eResv = 0 ∧
      t.pwr = { s.eng.pwr with ebkt := min (s.eng.pwr.ebkt + c.result.energy) (ebktCap s.eng) } ∧ t.rbit Reg.schArm 31 = false ∧
      t.rbit (Reg.timCmpCtl 0) 0 = false ∧ t.drv = { s.eng.drv with reseedDue := true, lock := .held } ∧
      t.rte = { s.eng.rte with base := s.eng.rte.cur, cellsBase := s.eng.rte.cellsCur } ∧
      regsBut [Reg.schArm, Reg.timCmpCtl 0, Reg.timStat] s.eng t ∧
      t = { e with regs := t.regs, drv := t.drv, sch := t.sch, rte := t.rte, pwr := t.pwr, tim := t.tim, evt := t.evt }) ∧
  (∀ (s : State) (b : Bus) (i : Issued) (h : RouteResult), may s b → s.eng.sch.issued = some i → i.done = true → s.eng.sch.commit = none →
    s.eng.rte.held = some h → i.req.requester = 64 → s.eng.sch.outs.length < 64 →
    enters (.schCancel b) s fun e t =>
      t.sch.issued = none ∧ t.rfld Reg.rteResult 24 4 = 8 ∧ t.rbit Reg.rteResult 31 = true ∧
      t.rbit Reg.rteResult 30 = true ∧ t.rfld Reg.rteResult 0 13 = s.eng.rfld Reg.rteResult 0 13 ∧
      t.rte = { s.eng.rte with held := none, base := s.eng.rte.cur, cellsBase := s.eng.rte.cellsCur } ∧
      reported s.eng (word s.eng.nowSubNs) 7 0 i.req t ∧ regsBut [Reg.rteResult, Reg.rteResultSeqLo, Reg.rteResultSeqHi] s.eng t ∧
      t = { e with regs := t.regs, sch := t.sch, rte := t.rte })

/-- A RATE is put in force within ±2^39, and RATE_CLIP marks one beyond (R242); an adjustment and a set take effect two edges later
(R243), a set above 999,999,999 ns is refused (R244), and so is a step while the Whistle comparator is armed (R243); a read of
TIM_NOW_SEC_LO latches the other words of the same time for its master (R241); a source written takes effect on the next TICK edge and
clears LOCKED, and the reserved one changes nothing (R245). With PTP selected a measurement, its correctionFields taken off, locks after
eight within 10 ns, and steps the counter for an offset above 1 µs in LOAD, CALIBRATE and HOLD or steers RATE otherwise (R247); three Sync
intervals without a Sync lose it (R247). With LINK selected a first edge steps the counter onto its second, a later one changes RATE until
the next edge (R248), and 1.5 s without an edge lose it (R249). -/
def Obligations.TimeControl : Prop :=
  (∀ (s : State) (b : Bus) (v : Word), may s b →
    enters (.timRateWrite b v) s fun e t =>
      t.tim = { s.eng.tim with rate := clampInt (-(2 ^ 39)) (2 ^ 39) (rateOf v (s.eng.heldLow Reg.timRateLo)), linkRate := 0 } ∧
      t.reg Reg.timRateHi = v &&& 0xFFFF ∧ t.reg Reg.timRateLo = s.eng.heldLow Reg.timRateLo ∧
      (t.tim.rate ≠ rateOf v (s.eng.heldLow Reg.timRateLo) → t.rbit Reg.timStat 6 = true) ∧
      (t.tim.rate = rateOf v (s.eng.heldLow Reg.timRateLo) → t.reg Reg.timStat = s.eng.reg Reg.timStat) ∧
      regsBut [Reg.timRateLo, Reg.timRateHi, Reg.timStat] s.eng t ∧ t = { e with regs := t.regs, tim := t.tim, latch := t.latch }) ∧
  (∀ (s : State) (b : Bus) (v : Word), may s b → s.eng.whistleArmed = false →
    applies (.timAdjust b v) s fun e => { e with tim := { e.tim with steps := e.tim.steps ++
      [stepBy s (v.toInt * 2 ^ 16 + (e.rfld Reg.timAdjFrac 0 16 : Nat))] } }.setReg Reg.timAdjFrac 0) ∧
  (∀ (s : State) (b : Bus) (v : Word), may s b → s.eng.whistleArmed = true →
    applies (.timAdjust b v) s fun e => (e.setReg Reg.timAdjFrac 0).putRbit Reg.timStat 5 true) ∧
  (∀ (s : State) (b : Bus) (v : Word), may s b → s.eng.whistleArmed = false → v.toNat ≤ 999999999 →
    applies (.timSet b v) s fun e => { e with tim := { e.tim with steps := e.tim.steps ++
      [stepTo s (((e.reg Reg.timSetSecHi).toNat * 2 ^ 32 + (e.reg Reg.timSetSecLo).toNat) * 1000000000 + v.toNat)] } }.setReg
      Reg.timSetNs v) ∧
  (∀ (s : State) (b : Bus) (v : Word), may s b → 999999999 < v.toNat →
    applies (.timSet b v) s fun e => e.putRbit Reg.timStat 5 true) ∧
  (∀ (s : State) (ns : Nat) (l : Bool), s.eng.mode ≠ .reset → s.eng.whistleArmed = false →
    s.eng.tim.steps = [{ edge := s.eng.tick, abs := some ns, offset := 0, link := l }] → ns * nsUnit < timeModulus →
    runs .timeStep s fun t =>
      t.time = ns * nsUnit ∧ t.tim.steps = [] ∧ t.rbit Reg.timStat 4 = true ∧ t.tim.rate = s.eng.tim.rate ∧
      regsBut [Reg.timStat] s.eng t ∧
      t = { s.eng with regs := t.regs, time := t.time, tim := t.tim, led := t.led, evt := t.evt, fw := t.fw }) ∧
  (∀ (s : State) (b : Bus), may s b →
    enters (.nowCapture b) s fun e t =>
      lastRead t b = word s.eng.nowSec ∧ get0 t.latch (latchKey b.master Reg.timNowSecHi) = word (s.eng.nowSec / 2 ^ 32) ∧
      get0 t.latch (latchKey b.master Reg.timNowNs) = word s.eng.nowSubNs ∧
      get0 t.latch (latchKey b.master Reg.timNowFrac) = word (s.eng.time % nsUnit / 2 ^ 32) ∧
      t = { e with rdata := t.rdata, latch := t.latch }) ∧
  (∀ (s : State) (b : Bus) (v : Fin 4), may s b →
    applies (.timSrcWrite b v) s fun e => if v.val = 3 then e else { e with due := e.due ++ [.timSrc v] }) ∧
  (∀ (s : State) (v : Fin 4), s.pending = [] → s.eng.mode ≠ .reset → s.eng.due = [.timSrc v] → s.eng.sch.fired = none →
    s.eng.pwr.published = [] → s.eng.flt.chip = none → v.val ≠ s.eng.rfld Reg.timCtl 0 2 →
    ∃ t, step s = .next t ∧ t.eng.rfld Reg.timCtl 0 2 = v.val ∧ t.eng.rbit Reg.timStat 0 = false ∧ t.eng.tim.rate = s.eng.tim.rate ∧
      t.eng.tim.lastPps = none ∧ t.eng.tim.lastSync = none ∧ regsBut [Reg.timCtl, Reg.timStat] s.eng t.eng) ∧
  (∀ (s : State) (t1 t2 t3 t4 c1 c2 : Int), s.eng.mode = .run → s.eng.rfld Reg.timCtl 0 2 = 1 → s.eng.activeMember.isSome = true →
    ((t2 - t1 - c1) - (t4 - t3 - c2)).natAbs ≤ 2 * 10 * 65536 →
    runs (.ptpServoUpdate t1 t2 t3 t4 c1 c2) s fun t =>
      (7 ≤ s.eng.tim.inRun → t.rbit Reg.timStat 0 = true) ∧ -(2 ^ 39) ≤ t.tim.rate ∧ t.tim.rate ≤ 2 ^ 39 ∧
      t.tim = { s.eng.tim with inRun := min (s.eng.tim.inRun + 1) 8, outRun := 0, rate := t.tim.rate } ∧
      regsBut [Reg.timPtpOffset, Reg.timStat, Reg.timRateLo, Reg.timRateHi] s.eng t ∧
      t = { s.eng with regs := t.regs, tim := t.tim, freeCtr := t.freeCtr }) ∧
  (∀ (s : State) (t1 t2 t3 t4 c1 c2 : Int), s.eng.mode = .hold → s.eng.rfld Reg.timCtl 0 2 = 1 → s.eng.activeMember.isSome = true →
    2 * 1000 * 65536 < ((t2 - t1 - c1) - (t4 - t3 - c2)).natAbs → s.eng.whistleArmed = false →
    runs (.ptpServoUpdate t1 t2 t3 t4 c1 c2) s fun t =>
      (∃ o : Int, t.tim.steps = s.eng.tim.steps ++ [stepBy s o] ∧
        2 * o ≤ (t4 - t3 - c2) - (t2 - t1 - c1) + 1 ∧ (t4 - t3 - c2) - (t2 - t1 - c1) - 1 ≤ 2 * o) ∧ t.tim.rate = s.eng.tim.rate ∧
      regsBut [Reg.timPtpOffset, Reg.timStat] s.eng t ∧ t = { s.eng with regs := t.regs, tim := t.tim, freeCtr := t.freeCtr }) ∧
  (∀ (s : State) (at_ iv : Nat), s.eng.mode ≠ .reset → s.eng.rfld Reg.timCtl 0 2 = 1 → s.eng.tim.lastSync = some (at_, iv) →
    at_ + 3 * iv ≤ s.eng.elapsed →
    becomes .ptpLoss s ((({ s.eng with tim := { s.eng.tim with lastSync := none, inRun := 0 } }.putRbit Reg.timStat 0 false).putRbit
      Reg.timStat 2 true).raise 80 0)) ∧
  (∀ (s : State) (k : Fin 256), s.eng.mode ≠ .reset → s.eng.rfld Reg.timCtl 0 2 = 2 → s.eng.tim.lastPps = none →
    s.eng.whistleArmed = false →
    runs (.ppsEdge k) s fun t =>
      t.tim.steps = s.eng.tim.steps ++ [{ stepBy s (-phaseError (ppsStamp s.eng k) * 2 ^ 8) with link := true }] ∧
      t.tim.lastPps = some (arrivalTime s.eng k) ∧
      t.tim.rate = clampInt (-(2 ^ 39)) (2 ^ 39) (s.eng.tim.rate - s.eng.tim.linkRate) ∧ events t = events s.eng ++ [0xA8] ∧
      t.reg Reg.timPpsErr = sat32 (phaseError (ppsStamp s.eng k)) ∧
      regsBut [Reg.timPpsErr, Reg.timStat, Reg.timRateLo, Reg.timRateHi] s.eng t ∧
      t = { s.eng with regs := t.regs, tim := t.tim, evt := t.evt }) ∧
  (∀ (s : State) (k : Fin 256) (p : Nat), s.eng.mode ≠ .reset → s.eng.rfld Reg.timCtl 0 2 = 2 → s.eng.tim.lastPps = some p →
    s.eng.tim.linkStep = false →
    p + 999999000 * nsUnit ≤ arrivalTime s.eng k → arrivalTime s.eng k ≤ p + 1000001000 * nsUnit →
    (phaseError (ppsStamp s.eng k)).natAbs < 256000 →
    runs (.ppsEdge k) s fun t =>
      t.tim.rate = clampInt (-(2 ^ 39)) (2 ^ 39)
        (s.eng.tim.rate - s.eng.tim.linkRate + roundHalfUp (-phaseError (ppsStamp s.eng k) * 2 ^ 40) 250000000) ∧
      t.tim.steps = s.eng.tim.steps ∧ t.tim.lastPps = some (arrivalTime s.eng k) ∧ events t = events s.eng ++ [0xA8] ∧
      regsBut [Reg.timPpsErr, Reg.timStat, Reg.timRateLo, Reg.timRateHi] s.eng t ∧
      t = { s.eng with regs := t.regs, tim := t.tim, evt := t.evt }) ∧
  (∀ (s : State) (p : Nat), s.eng.mode ≠ .reset → s.eng.rfld Reg.timCtl 0 2 = 2 → s.eng.tim.ppsSince = some p →
    p + 1500000000 * nsUnit ≤ s.eng.elapsed →
    becomes .ppsLoss s (({ s.eng with
      tim := { s.eng.tim with lastPps := none, badRun := 0, linkStep := false, linkRate := 0, ppsSince := none } }.putRbit
      Reg.timStat 3 true).raise 81 0))

/-- A general comparator arms on the edge after its write, but for a periodic one with PERIOD 0, which is refused, and disarms on the edge
after ARM = 0 (R252); its match sets FIRED, emits its event and disarms it, or moves a periodic one on by PERIOD (R252); comparator 0
takes no write (R253); a NS above 999,999,999 is refused (R433). A TOUT output of the secure owner is enabled with legal timing and a
START still to come (R255), and refused where its timing is out of its limits; its leading edge takes the ball from idle, and its trailing
edge returns it (R255); a NS above 999,999,999 is refused (R433), and another's write is denied (R254). -/
def Obligations.Comparators : Prop :=
  (∀ (s : State) (b : Bus) (c : Fin 64) (p : Bool), may s b → c ≠ 0 → (s.eng.cmp c).armed = none →
    (p = true → s.eng.reg (Reg.timCmpPeriod c) ≠ 0) →
    enters (.cmpArm b c p) s fun e t =>
      t.cmp c = { armed := some (s.eng.tick + 1), disarm := none, past := decide (cmpTarget s.eng c ≤ s.eng.time), hits := 0 } ∧
      t.rbit (Reg.timCmpCtl c) 0 = true ∧ t.rbit (Reg.timCmpCtl c) 1 = p ∧ (∀ c', c' ≠ c → t.cmp c' = s.eng.cmp c') ∧
      regsBut [Reg.timCmpCtl c] s.eng t ∧ t = { e with regs := t.regs, tim := { s.eng.tim with cmps := t.tim.cmps } }) ∧
  (∀ (s : State) (b : Bus) (c : Fin 64), may s b → c ≠ 0 → s.eng.reg (Reg.timCmpPeriod c) = 0 →
    applies (.cmpArm b c true) s fun e => e.putRbit (Reg.timCmpStat c) 3 true) ∧
  (∀ (s : State) (b : Bus) (c : Fin 64) (p : Bool) (n : Nat), may s b → c ≠ 0 → (s.eng.cmp c).armed = some n →
    (s.eng.cmp c).disarm = none →
    enters (.cmpDisarm b c p) s fun e t =>
      t.cmp c = { s.eng.cmp c with disarm := some (s.eng.tick + 1) } ∧ t.rbit (Reg.timCmpCtl c) 0 = false ∧
      t.rbit (Reg.timCmpCtl c) 1 = p ∧ (∀ c', c' ≠ c → t.cmp c' = s.eng.cmp c') ∧
      regsBut [Reg.timCmpCtl c] s.eng t ∧ t = { e with regs := t.regs, tim := { s.eng.tim with cmps := t.tim.cmps } }) ∧
  (∀ (s : State) (c : Fin 64) (n : Nat) (missed : List (Fin 34)), s.eng.mode ≠ .reset → c ≠ 0 → (s.eng.cmp c).armed = some n → n ≤ s.eng.tick →
    (s.eng.cmp c).disarm = none → (s.eng.cmp c).past = false → cmpTarget s.eng c ≤ s.eng.time → s.eng.rbit (Reg.timCmpCtl c) 1 = false →
    runs (.cmpMatch c missed) s fun t =>
      t.rbit (Reg.timCmpStat c) 0 = true ∧ t.rbit (Reg.timCmpCtl c) 0 = false ∧ (t.cmp c).armed = none ∧
      events t = events s.eng ++ [c.val] ∧ regsBut [Reg.timCmpStat c, Reg.timCmpCtl c] s.eng t ∧
      (∀ c', c' ≠ c → t.cmp c' = s.eng.cmp c') ∧
      t = { s.eng with regs := t.regs, tim := { s.eng.tim with cmps := t.tim.cmps }, evt := t.evt }) ∧
  (∀ (s : State) (c : Fin 64) (n : Nat) (missed : List (Fin 34)), s.eng.mode ≠ .reset → c ≠ 0 → (s.eng.cmp c).armed = some n → n ≤ s.eng.tick →
    (s.eng.cmp c).disarm = none → cmpTarget s.eng c ≤ s.eng.time → s.eng.rbit (Reg.timCmpCtl c) 1 = true →
    s.eng.reg (Reg.timCmpCount c) = 0 →
    (cmpTarget s.eng c / nsUnit + 4 * (s.eng.reg (Reg.timCmpPeriod c)).toNat) / 1000000000 < 2 ^ 64 →
    runs (.cmpMatch c missed) s fun t =>
      cmpTarget t c = cmpTarget s.eng c + 4 * (s.eng.reg (Reg.timCmpPeriod c)).toNat * nsUnit ∧ (t.cmp c).armed = some (s.eng.tick + 1) ∧
      (t.cmp c).hits = (s.eng.cmp c).hits + 1 ∧ t.rbit (Reg.timCmpStat c) 0 = true ∧ events t = events s.eng ++ [c.val] ∧
      t = { s.eng with regs := t.regs, tim := { s.eng.tim with cmps := t.tim.cmps }, evt := t.evt }) ∧
  (∀ (s : State) (b : Bus) (p : Bool) (v : Word), may s b →
    (applies (.cmpArm b 0 p) s fun e => e.putRbit Reg.timStat 7 true) ∧
    (applies (.cmpDisarm b 0 p) s fun e => e.putRbit Reg.timStat 7 true) ∧
    (applies (.cmpNsWrite b 0 v) s fun e => e.putRbit Reg.timStat 7 true)) ∧
  (∀ (s : State) (b : Bus) (c : Fin 64) (v : Word), may s b → c ≠ 0 → (s.eng.cmp c).armed = none →
    applies (.cmpNsWrite b c v) s fun e =>
      if 999999999 < v.toNat then e.putRbit (Reg.timCmpStat c) 4 true else e.setReg (Reg.timCmpNs c) v) ∧
  (∀ (s : State) (b : Bus) (k : Fin 4) (pol per : Bool), may s b → secureBus b = true → s.eng.rbit (Reg.timToutCtl k) 0 = false →
    16 ≤ (s.eng.reg (Reg.timToutPeriod k)).toNat → 8 ≤ (s.eng.reg (Reg.timToutWidth k)).toNat →
    (s.eng.reg (Reg.timToutWidth k)).toNat + 8 ≤ (s.eng.reg (Reg.timToutPeriod k)).toNat → s.eng.time < toutStart s.eng k * nsUnit →
    enters (.toutEnable b k pol per) s fun e t =>
      t.tim = { s.eng.tim with
        touts := s.eng.tim.touts.set k { running := true, pulse := false, next := toutStart s.eng k, made := 0 } } ∧
      t.rbit (Reg.timToutCtl k) 0 = true ∧
      t.rbit (Reg.timToutCtl k) 1 = per ∧ t.rbit (Reg.timToutCtl k) 2 = pol ∧ toutLevel t k = pol ∧
      regsBut [Reg.timToutCtl k] s.eng t ∧ t = { e with regs := t.regs, tim := t.tim }) ∧
  (∀ (s : State) (b : Bus) (k : Fin 4) (pol per : Bool), may s b → secureBus b = true → s.eng.rbit (Reg.timToutCtl k) 0 = false →
    ((s.eng.reg (Reg.timToutPeriod k)).toNat < 16 ∨ (s.eng.reg (Reg.timToutWidth k)).toNat < 8 ∨
      (s.eng.reg (Reg.timToutPeriod k)).toNat < (s.eng.reg (Reg.timToutWidth k)).toNat + 8) →
    enters (.toutEnable b k pol per) s fun e t =>
      t.rbit (Reg.timToutCtl k) 4 = true ∧ t.rbit (Reg.timToutCtl k) 0 = false ∧ regsBut [Reg.timToutCtl k] s.eng t ∧
      t = { e with regs := t.regs }) ∧
  (∀ (s : State) (b : Bus) (k : Fin 4) (v : Word), may s b → secureBus b = true →
    applies (.toutNsWrite b k v) s fun e =>
      if 999999999 < v.toNat then e.putRbit (Reg.timToutCtl k) 4 true else e.setReg (Reg.timToutNs k) v) ∧
  (∀ (s : State) (b : Bus) (k : Fin 4) (v : Word) (p q : Bool), may s b → secureBus b = false →
    (applies (.toutNsWrite b k v) s fun e => e.putRbit Reg.timStat 7 true) ∧
    (applies (.toutEnable b k p q) s fun e => e.putRbit Reg.timStat 7 true)) ∧
  (∀ (s : State) (k : Fin 4), s.eng.mode ≠ .reset → (s.eng.tim.touts[k]).running = true → (s.eng.tim.touts[k]).pulse = false →
    toutDue s.eng k (s.eng.tim.touts[k]).next = true →
    runs (.toutEdge k) s fun t =>
      toutLevel t k = !toutLevel s.eng k ∧
      t = { s.eng with tim := { s.eng.tim with touts := s.eng.tim.touts.set k { s.eng.tim.touts[k] with pulse := true } } }) ∧
  (∀ (s : State) (k : Fin 4), s.eng.mode ≠ .reset → (s.eng.tim.touts[k]).running = true → (s.eng.tim.touts[k]).pulse = true →
    toutDue s.eng k ((s.eng.tim.touts[k]).next + (s.eng.reg (Reg.timToutWidth k)).toNat) = true →
    s.eng.rbit (Reg.timToutCtl k) 1 = false →
    runs (.toutEdge k) s fun t => toutLevel t k = !toutLevel s.eng k ∧ (t.tim.touts[k]).running = false ∧
      t = { s.eng with tim := { s.eng.tim with touts := t.tim.touts } })

/-- R254: the TOUT outputs' registers and their asymmetry constants take a write of the secure owner alone; a write from any other
context, the FLP register window among them, is ignored and sets TIM_STAT.DENIED. -/
def Obligations.SecureOutputs : Prop :=
  (∀ (s : State) (b : Bus) (a : Nat) (v : Word), may s b → (b.secure = false ∨ b.master = .flp) →
    (∃ k : Fin 4, a ∈ [Reg.timToutCtl k, Reg.timToutNs k, Reg.timToutSecLo k, Reg.timToutSecHi k, Reg.timToutPeriod k, Reg.timToutWidth k,
      Reg.timToutCount k, Reg.timAsymTout k]) →
    applies (.registerWrite b .word (word a) v) s fun e => e.putRbit Reg.timStat 7 true) ∧
  (∀ (s : State) (b : Bus) (k : Fin 4) (p q : Bool) (v : Word), may s b → (b.secure = false ∨ b.master = .flp) →
    applies (.toutEnable b k p q) s (fun e => e.putRbit Reg.timStat 7 true) ∧
    applies (.toutNsWrite b k v) s (fun e => e.putRbit Reg.timStat 7 true)) ∧
  (∀ (s : State) (b : Bus) (k : Fin 4) (v : Word), may s b → b.secure = true → b.master ≠ .flp →
    applies (.registerWrite b .word (word (Reg.timAsymTout k)) v) s (fun e => e.setReg (Reg.timAsymTout k) v) ∧
    applies (.registerWrite b .word (word (Reg.timToutWidth k)) v) s (fun e => e.setReg (Reg.timToutWidth k) v))

/-- At a minute boundary every held connection's record is closed for the minute that ends and another opened, and MINUTE is emitted
(R257, R258); a closed record is pushed, or with the FIFO full folded into its tenant's accumulator with LEDGER_OVF (R259, R260); a read
of the FIFO takes its head out (R259); TIM_LED_TAKE moves an accumulator into HOLD and clears it (R260); the firmware drains the FIFO into
the ring (R261); and a record that would pass its figure is closed and goes on in another of the same minute (R258). -/
def Obligations.LedgerFlow : Prop :=
  (∀ (s : State) (h : Held), s.eng.mode ≠ .reset → (s.eng.led.minute + 1) * minuteUnits ≤ s.eng.time → s.eng.led.held = [h] →
    runs .minuteBoundary s fun t =>
      t.led.minute = s.eng.led.minute + 1 ∧
      t.led.push = s.eng.led.push ++ [h.close s.eng.led.minute (s.eng.elapsed - (s.eng.time - (s.eng.led.minute + 1) * minuteUnits)) false false] ∧
      t.led.held = [h.reopen (s.eng.elapsed - (s.eng.time - (s.eng.led.minute + 1) * minuteUnits)) false] ∧
      t.fw.ckptDue = some (s.eng.led.minute, [h.tenant]) ∧ events t = events s.eng ++ [0xA9] ∧ t.regs = s.eng.regs ∧
      t = { s.eng with led := t.led, evt := t.evt, fw := t.fw }) ∧
  (∀ (s : State) (r : LedRec) (l : List LedRec), s.eng.mode ≠ .reset → s.eng.led.push = r :: l → s.eng.led.pushFrom ≤ s.eng.tick →
    s.eng.led.fifo.length < 4096 →
    becomes .ledgerFifoPush s { s.eng with
      led := { s.eng.led with push := l, pushFrom := s.eng.tick + 1, fifo := s.eng.led.fifo ++ [r] } }) ∧
  (∀ (s : State) (r : LedRec) (l : List LedRec) (q : Fin 64), s.eng.mode ≠ .reset → s.eng.led.push = r :: l →
    s.eng.led.pushFrom ≤ s.eng.tick → 4096 ≤ s.eng.led.fifo.length → r.tenant = q.val → s.eng.led.acc[q] = none →
    runs .ledgerFifoPush s fun t =>
      t.led.acc[q] = some { ns := r.ns, blinks := min (2 ^ 32 - 1) r.blinks, first := r.minute, last := r.minute } ∧
      t.led.fifo = s.eng.led.fifo ∧ t.led.push = l ∧ t.rbit Reg.timLedStat 16 = true ∧
      reports t = reports s.eng ++ [(82, word q.val)] ∧ regsBut [Reg.timLedStat] s.eng t ∧
      t = { s.eng with regs := t.regs, led := t.led, flt := t.flt, fw := { s.eng.fw with ledgerDue := true } }) ∧
  (∀ (s : State) (b : Bus) (r : LedRec) (l : List LedRec), may s b → s.eng.led.fifo = r :: l →
    enters (.ledgerFifoRead b) s fun e t => lastRead t b = r.words.getD 4 0 ∧
      t = { e with rdata := t.rdata, latch := t.latch, led := { s.eng.led with fifo := l } }) ∧
  (∀ (s : State) (b : Bus) (q : Fin 64) (a : Acc), may s b → s.eng.led.acc[q] = some a →
    enters (.ledgerTake b q) s fun e t =>
      t.led = { s.eng.led with acc := s.eng.led.acc.set q none } ∧ t.reg (Reg.timLedHold 0) = word a.first ∧
      t.reg (Reg.timLedHold 1) = word (a.first / 2 ^ 32 % 2 ^ 16) ∧ t.reg (Reg.timLedHold 2) = word a.last ∧
      t.reg (Reg.timLedHold 3) = word (a.last / 2 ^ 32 % 2 ^ 16) ∧ t.reg (Reg.timLedHold 4) = word a.ns ∧
      t.reg (Reg.timLedHold 5) = word (a.ns / 2 ^ 32) ∧ t.reg (Reg.timLedHold 6) = word a.blinks ∧
      regsBut ((List.range 7).map Reg.timLedHold) s.eng t ∧ t = { e with regs := t.regs, led := t.led }) ∧
  (∀ (s : State) (r : LedRec), s.eng.mode ≠ .reset → s.eng.activeMember.isSome = true → packReady s.eng → s.eng.led.fifo = [r] →
    s.eng.fw.ring.length < 65536 → (∀ q : Fin 64, s.eng.led.acc[q] = none) →
    runs .ledgerDrain s fun t =>
      t.led = { s.eng.led with fifo := [] } ∧
      (∃ ws, t.fw = { s.eng.fw with ring := s.eng.fw.ring ++ [ws], ringNext := (s.eng.fw.ringNext + 1) % 2 ^ 32 } ∧ ws.length = 8 ∧
        ws.getD 0 0 = r.words.getD 0 0 ∧ ws.getD 1 0 = word r.minute ∧ ws.getD 3 0 = word r.ns ∧ ws.getD 5 0 = word r.blinks ∧
        ws.getD 6 0 = word s.eng.fw.ringNext) ∧
      t.regs = s.eng.regs ∧ t = { s.eng with led := t.led, fw := t.fw, pak := { s.eng.pak with a := t.pak.a, b := t.pak.b, logs := t.pak.logs } }) ∧
  (∀ (s : State) (h : Held), s.eng.mode ≠ .reset → s.eng.led.held = [h] → h.limit < s.eng.elapsed →
    h.limit ≤ s.eng.elapsed - s.eng.increment →
    runs .ledgerRecordSplit s fun t =>
      t.led.held = [h.reopen h.limit true] ∧ t.led.push = s.eng.led.push ++ [h.close s.eng.led.minute h.limit false false] ∧
      t.led.minute = s.eng.led.minute ∧ t = { s.eng with led := t.led })

/-- An event of an enabled channel reaches its consumer on its sampling edge and is counted, and a busy interrupt input loses it as an
overrun, also where a W1C clears its bit on the same TICK (R266, R267, R272); of two for one input on one edge the one of the better
class, or of the lower channel, is delivered and the other counted as lost (R271); an event of more than four hops is dropped (R269). A
channel word whose actor, fields and security R273 allows takes effect two edges later, with EN = 0 where its owner changes; a request
before the image's boundary is refused with code 7 (R274), and one of a tenant that does not own the channel with code 1 (R273); a host
trigger emits the events of its bits (R265). -/
def Obligations.Events : Prop :=
  (∀ (s : State) (e : Emitted) (n c : Nat), s.eng.mode ≠ .reset → s.eng.evt.emitted = [e] → sampleEdge e ≤ s.eng.tick → e.hop ≤ 4 →
    channelOf s.eng e.producer = some n → chConsumer (chWord s.eng n) = 0x70 + c → c < 8 → s.eng.rbit Reg.evtIrqPend c = false →
    (0x70 + c, s.eng.tick) ∉ s.eng.evt.cleared →
    runs .eventDeliver s fun t =>
      t.rbit Reg.evtIrqPend c = true ∧ t.rfld (Reg.evtChCnt n) 0 16 = (s.eng.rfld (Reg.evtChCnt n) 0 16 + 1) % 2 ^ 16 ∧
      regsBut [Reg.evtIrqPend, Reg.evtChCnt n] s.eng t ∧
      t = { s.eng with regs := t.regs, evt := { s.eng.evt with emitted := [] } }) ∧
  (∀ (s : State) (e : Emitted) (n c : Nat), s.eng.mode ≠ .reset → s.eng.evt.emitted = [e] → sampleEdge e ≤ s.eng.tick → e.hop ≤ 4 →
    channelOf s.eng e.producer = some n → chConsumer (chWord s.eng n) = 0x70 + c → c < 8 →
    (s.eng.rbit Reg.evtIrqPend c = true ∨ (0x70 + c, s.eng.tick) ∈ s.eng.evt.cleared) →
    runs .eventDeliver s fun t =>
      t.rbit Reg.evtIrqPend c = true ∧ t.rbit (Reg.evtConsStat (0x70 + c)) 0 = true ∧ t.rbit Reg.evtStat 3 = true ∧
      t.rfld (Reg.evtChCnt n) 0 16 = s.eng.rfld (Reg.evtChCnt n) 0 16 ∧
      t.rfld (Reg.evtChCnt n) 16 16 = min 65535 (s.eng.rfld (Reg.evtChCnt n) 16 16 + 1) ∧
      regsBut [Reg.evtIrqPend, Reg.evtChCnt n, Reg.evtConsStat (0x70 + c), Reg.evtStat] s.eng t ∧
      t = { s.eng with regs := t.regs, evt := { s.eng.evt with emitted := [] } }) ∧
  (∀ (s : State) (x y : Emitted) (n m c : Nat), s.eng.mode ≠ .reset → s.eng.evt.emitted = [x, y] → sampleEdge x = sampleEdge y →
    sampleEdge x ≤ s.eng.tick → x.hop ≤ 4 → y.hop ≤ 4 → channelOf s.eng x.producer = some n → channelOf s.eng y.producer = some m → n ≠ m →
    chConsumer (chWord s.eng n) = 0x70 + c → chConsumer (chWord s.eng m) = 0x70 + c → c < 8 → s.eng.rbit Reg.evtIrqPend c = false →
    (0x70 + c, s.eng.tick) ∉ s.eng.evt.cleared → winsOver s.eng n m = true →
    runs .eventDeliver s fun t =>
      t.rbit Reg.evtIrqPend c = true ∧ t.rfld (Reg.evtChCnt n) 0 16 = (s.eng.rfld (Reg.evtChCnt n) 0 16 + 1) % 2 ^ 16 ∧
      t.rfld (Reg.evtChCnt m) 0 16 = s.eng.rfld (Reg.evtChCnt m) 0 16 ∧
      t.rfld (Reg.evtChCnt m) 16 16 = min 65535 (s.eng.rfld (Reg.evtChCnt m) 16 16 + 1) ∧
      t.rbit (Reg.evtConsStat (0x70 + c)) 1 = true ∧ t.rbit Reg.evtStat 2 = true ∧ t.evt.emitted = [] ∧
      regsBut [Reg.evtIrqPend, Reg.evtChCnt n, Reg.evtChCnt m, Reg.evtConsStat (0x70 + c), Reg.evtStat, Reg.evtCoincSrc] s.eng t) ∧
  (∀ (s : State) (b : Bus) (v : Word) (c : Nat), may s b → c < 8 → bit v c = true → s.eng.rbit Reg.evtIrqPend c = true →
    enters (.registerWrite b .word (word Reg.evtIrqPend) v) s fun e t =>
      t.rbit Reg.evtIrqPend c = false ∧ (0x70 + c, s.eng.tick) ∈ t.evt.cleared ∧ regsBut [Reg.evtIrqPend] s.eng t ∧
      t = { e with regs := t.regs, evt := { s.eng.evt with cleared := t.evt.cleared } }) ∧
  (∀ (s : State) (e : Emitted) (n : Nat), s.eng.mode ≠ .reset → s.eng.evt.emitted = [e] → sampleEdge e ≤ s.eng.tick → 4 < e.hop →
    channelOf s.eng e.producer = some n → s.eng.rbit Reg.evtLoopSrc 31 = false → e.producer < 256 →
    runs .eventDeliver s fun t =>
      t.rbit Reg.evtStat 0 = true ∧ t.rbit Reg.evtLoopSrc 31 = true ∧ t.rfld Reg.evtLoopSrc 8 8 = e.producer ∧
      reports t = reports s.eng ++ [(83, word n)] ∧ regsBut [Reg.evtStat, Reg.evtLoopSrc, Reg.evtChCnt n] s.eng t ∧
      t = { s.eng with regs := t.regs, flt := t.flt, evt := { s.eng.evt with emitted := [] } }) ∧
  (∀ (s : State) (b : Bus) (v : Word), may s b → (s.eng.mode ≠ .load ∨ s.eng.evt.ready = true) →
    cfgRefusal s.eng (fld v 24 7) (fld v 0 6) (s.eng.reg Reg.evtCfgData &&& 0xFF80FFFF#32) = none →
    applies (.evtCfgRequest b v) s fun e => { e with evt := { e.evt with cfg := e.evt.cfg ++
      [(fld v 0 6, (let w := s.eng.reg Reg.evtCfgData &&& 0xFF80FFFF#32
        if chOwner w = chOwner (chComing s.eng (fld v 0 6)) then w else putBit w 31 false), s.eng.tick + 2)] } }) ∧
  (∀ (s : State) (b : Bus) (v : Word), may s b → s.eng.mode = .load → s.eng.evt.ready = false →
    applies (.evtCfgRequest b v) s fun e => (e.putRbit Reg.evtStat 4 true).putRfld Reg.evtStat 8 3 7) ∧
  (∀ (s : State) (b : Bus) (v : Word), may s b → (s.eng.mode ≠ .load ∨ s.eng.evt.ready = true) → fld v 24 7 ≠ 0 →
    fld v 24 7 ≠ chOwner (chComing s.eng (fld v 0 6)) →
    applies (.evtCfgRequest b v) s fun e => (e.putRbit Reg.evtStat 4 true).putRfld Reg.evtStat 8 3 1) ∧
  (∀ (s : State) (n : Nat) (w : Word) (e : Nat), s.eng.mode ≠ .reset → s.eng.evt.cfg = [(n, w, e)] → e ≤ s.eng.tick →
    becomes .evtCfgApply s ({ s.eng with evt.cfg := [] }.setReg (Reg.evtChCfg n) w)) ∧
  (∀ (s : State) (b : Bus) (v : Byte), may s b →
    enters (.hostTrigger b v) s fun e t =>
      events t = events s.eng ++ ((List.range 8).filter fun n => v.getLsbD n).map (0xC0 + ·) ∧
      t = { e with evt := { s.eng.evt with emitted := t.evt.emitted } })

/-- A rail report is published every 2,500 TICK: the eight voltages and currents, the event RAIL_RPT, and every wait for it (R160, R277).
A rail below its threshold, PCT of its nominal voltage (R276, R300), sets its bit, emits RAIL_TRIP and raises PWR_RAIL_UV, but not VHP or
VHN while their comparators are blanked; the blanking's end takes a rail that is below its threshold (R278). A write of the energy
bucket's cap lowers the bucket to it (R293); limits that keep their ranges and order are taken, and any others refused with THM_STAT[20]
and the old ones kept (R285). -/
def Obligations.PowerInputs : Prop :=
  (∀ (s : State) (rs : Vector (Half × Half) 8), s.eng.mode ≠ .reset →
    max (s.eng.pwr.lastRail.getD 0) s.eng.divTick + 2500 ≤ s.eng.tick → s.eng.pwr.measuring = [] →
    runs (.railReport rs) s fun t =>
      (∀ r : Fin 8, t.reg (Reg.pwrMonV r) = word (rs[r]).1.toNat ∧ t.reg (Reg.pwrMonI r) = word (rs[r]).2.toNat) ∧
      t.pwr.lastRail = some s.eng.tick ∧ events t = events s.eng ++ [0xA5] ∧
      (∀ k : Fin 33, (t.lp k).waitHit = ((s.eng.lp k).waitHit || decide ((s.eng.lp k).wait = some .rail))) ∧
      (∀ a, (∀ r < 8, a ≠ Reg.pwrMonV r ∧ a ≠ Reg.pwrMonI r) → t.reg a = s.eng.reg a) ∧
      t = { s.eng with regs := t.regs, pwr := t.pwr, lps := t.lps, evt := t.evt }) ∧
  (∀ (s : State) (r : Fin 8) (uv : Nat), s.eng.mode ≠ .reset → 100 * uv < uvPercent s.eng r * railNominal r →
    (r.val ≠ 5 ∧ r.val ≠ 6 ∨ s.eng.pwr.blankEnd = none) →
    becomes (.railUvTrip r uv) s (((s.eng.putRbit Reg.pwrStat r true).emit 0xB1).raise 96 r)) ∧
  (∀ (s : State) (r : Fin 8) (uv : Nat), uvPercent s.eng r * railNominal r ≤ 100 * uv → idles (.railUvTrip r uv) s) ∧
  (∀ (s : State) (r : Fin 8) (uv n : Nat), s.eng.pwr.blankEnd = some n → s.eng.tick < n → r.val = 5 ∨ r.val = 6 →
    idles (.railUvTrip r uv) s) ∧
  (∀ (s : State) (n hp hn : Nat), s.eng.mode ≠ .reset → s.eng.pwr.blankEnd = some n → n ≤ s.eng.tick →
    underVoltage s.eng 6 hn = false →
    becomes (.uvBlankEnd hp hn) s (if underVoltage s.eng 5 hp then
      (({ s.eng with pwr.blankEnd := none }.putRbit Reg.pwrStat 5 true).emit 0xB1).raise 96 5
      else { s.eng with pwr.blankEnd := none })) ∧
  (∀ (s : State) (b : Bus) (v : Word), may s b →
    applies (.ebktCapWrite b v) s fun e =>
      { e with pwr := { e.pwr with ebkt := min e.pwr.ebkt v.toNat } }.setReg Reg.pwrEbktCap v) ∧
  (∀ (s : State) (b : Bus) (v : Word), may s b →
    applies (.thmLimitWrite b 0 v) s fun e => if limitsOk v (e.reg Reg.thmLimHot) (e.reg Reg.thmLimSd) then e.setReg Reg.thmLimCold v
      else e.putRbit Reg.thmStat 20 true) ∧
  (∀ (s : State) (b : Bus) (v : Word), may s b →
    applies (.thmLimitWrite b 1 v) s fun e => if limitsOk (e.reg Reg.thmLimCold) v (e.reg Reg.thmLimSd) then e.setReg Reg.thmLimHot v
      else e.putRbit Reg.thmStat 20 true) ∧
  (∀ (s : State) (b : Bus) (v : Word), may s b →
    applies (.thmLimitWrite b 2 v) s fun e => if limitsOk (e.reg Reg.thmLimCold) (e.reg Reg.thmLimHot) v then e.setReg Reg.thmLimSd v
      else e.putRbit Reg.thmStat 20 true)

/-- An update edge of the governor, every 25,000 TICK (R281): the allotment in force follows from the budget, the power and the throttle
level (R292), and the pause from the level and COLD_LIMIT (R288, R295). Without THM_STAT.VALID nothing else moves; with it the thresholds
are judged on the hottest and the coldest node, eight updates in a row tripping or clearing one (R286), a change of throttle level is
published with its sweep pause and THM_THROTTLE (R287, R289), and a shutdown trip is reported and asks for KENNEL on the next edge (R296).
Thermal shutdown: its record is written to the shutdown log 100 TICK after the trip, once no record is in flight (R297), the drive and
pilot domains are removed after it with every clamp closed (R296), and SD_CLEAR, once it has cooled, enables the pilot again and keeps the
clamps closed (R298). -/
def Obligations.Governor : Prop :=
  (∀ s : State, s.eng.mode ≠ .reset → max (s.eng.pwr.lastUpdate.getD 0) s.eng.divTick + 25000 ≤ s.eng.tick →
    runs .modelUpdate s fun t =>
      t.pwr.lastUpdate = some s.eng.tick ∧ t.pwr.eFired = 0 ∧ t.pwr.allotBefore = s.eng.reg Reg.pwrAllotEff ∧
      t.reg Reg.pwrAllotEff = word (allotment { s.eng with pwr.level := t.pwr.level }).floor.toNat ∧
      t.sch.pause = (if (t.pwr.trips[(0 : Fin 10)]).tripped then s.eng.tick - s.eng.sch.wPrev + 25000
        else commitPause s.eng.variant t.pwr.level) ∧
      (s.eng.pwr.valid = false → t.sys = s.eng.sys ∧ t.cal = s.eng.cal ∧ t.drv = s.eng.drv ∧ t.nvm = s.eng.nvm ∧ t.evt = s.eng.evt ∧
        t.flt = s.eng.flt ∧ t.pwr = { s.eng.pwr with lastUpdate := t.pwr.lastUpdate, eFired := 0, allotBefore := t.pwr.allotBefore } ∧
        regsBut [Reg.pwrAllotEff, Reg.pwrTotal, Reg.pwrStat] s.eng t) ∧
      t.sch = { s.eng.sch with pause := t.sch.pause } ∧ t.drv = { s.eng.drv with removed := t.drv.removed } ∧
      t.nvm = { s.eng.nvm with sdCount := t.nvm.sdCount } ∧ t.evt = { s.eng.evt with emitted := t.evt.emitted } ∧
      t.cal = { s.eng.cal with tempSum := t.cal.tempSum, tripRun := t.cal.tripRun } ∧
      t.sys = { s.eng.sys with trip := t.sys.trip, pilotOn := t.sys.pilotOn, updatesSinceValid := t.sys.updatesSinceValid,
                               pendMode := t.sys.pendMode, refused := t.sys.refused, reason := t.sys.reason } ∧
      regsBut [Reg.pwrAllotEff, Reg.pwrTotal, Reg.pwrStat, Reg.thmTj, Reg.thmStat, Reg.thmSdSecLo, Reg.thmSdSecHi, Reg.thmSdNs,
        Reg.calStat, Reg.sysPilotStat] s.eng t ∧
      t = { s.eng with regs := t.regs, pwr := t.pwr, sch := t.sch, sys := t.sys, cal := t.cal, drv := t.drv, evt := t.evt, flt := t.flt,
                       nvm := t.nvm, freeCtr := t.freeCtr }) ∧
  (∀ s : State, s.eng.mode ≠ .reset → max (s.eng.pwr.lastUpdate.getD 0) s.eng.divTick + 25000 ≤ s.eng.tick → s.eng.pwr.valid = true →
    runs .modelUpdate s fun t =>
      t.pwr.level = levelOf t.pwr.trips ∧
      (t.pwr.level ≠ s.eng.pwr.level →
        t.rfld Reg.thmStat 0 3 = t.pwr.level ∧ t.pwr.pauseSet = sweepPause s.eng.variant t.pwr.level ∧ 0xA7 ∈ events t) ∧
      (t.pwr.level = s.eng.pwr.level → t.pwr.pauseSet = s.eng.pwr.pauseSet) ∧
      (s.eng.pwr.diverge = false →
        (∀ i : Fin 10, i.val < 2 → t.pwr.trips[i] = (s.eng.pwr.trips[i]).update (decide (tjMin t ≤ threshold s.eng i))
          (decide (threshold s.eng i + hysteresis (s.eng.reg Reg.thmLimSd) < tjMin t))) ∧
        (∀ i : Fin 10, 2 ≤ i.val → t.pwr.trips[i] = (s.eng.pwr.trips[i]).update (decide (threshold s.eng i ≤ tjMax t))
          (decide (tjMax t < threshold s.eng i - hysteresis (s.eng.reg Reg.thmLimSd))))) ∧
      ((t.pwr.trips[(9 : Fin 10)]).tripped = true → (s.eng.pwr.trips[(9 : Fin 10)]).tripped = false →
        t.pwr.shutdown = true ∧ (98, (0 : Word)) ∈ reports t ∧ (s.eng.mode ≠ .kennel → t.sys.trip = some s.eng.tick) ∧
        t.nvm.sdCount = s.eng.nvm.sdCount + 1)) ∧
  (∀ s : State, s.eng.mode ≠ .reset → s.eng.tick < max (s.eng.pwr.lastUpdate.getD 0) s.eng.divTick + 25000 → idles .modelUpdate s) ∧
  (∀ (s : State) (ws : List Word), s.eng.mode ≠ .reset → s.eng.pwr.sdRecord = some ws → s.eng.pwr.sdAt + 100 ≤ s.eng.tick →
    s.eng.nvm.op = none → s.eng.nvmHeld = false →
    runs .shutdownRecord s fun t =>
      t.pwr.sdRecord = none ∧ t.pwr.sdWritten = true ∧
      (∀ i < ws.length, i < 16 → get0 t.nvm.raw (sdlogWord s.eng.nvm.sdCount + i) = ws.getD i 0) ∧
      (∀ a, a < sdlogWord s.eng.nvm.sdCount ∨ sdlogWord s.eng.nvm.sdCount + ws.length ≤ a → get0 t.nvm.raw a = get0 s.eng.nvm.raw a) ∧
      t.regs = s.eng.regs ∧ t = { s.eng with pwr := t.pwr, nvm := { s.eng.nvm with raw := t.nvm.raw } }) ∧
  (∀ s : State, s.eng.mode ≠ .reset → s.eng.pwr.shutdown = true → s.eng.pwr.sdWritten = true → s.eng.drv.removed = false →
    s.eng.pwr.recovering = false →
    runs .domainRemoval s fun t =>
      t.rbit Reg.sysPilotStat 0 = false ∧ t.rbit Reg.sysPilotStat 1 = true ∧ t.rbit Reg.sysPilotStat 2 = false ∧
      t.rbit Reg.sysPilotStat 3 = s.eng.rbit Reg.sysPilotStat 3 ∧ t.rfld Reg.sysPilotStat 16 12 = 0 ∧ regsBut [Reg.sysPilotStat] s.eng t ∧
      t = { s.eng with regs := t.regs, sys.pilotOn := false, drv.removed := true, drv.clamped := true, pwr.sdWritten := false }) ∧
  (∀ (s : State) (b : Bus) (v : Word), may s b → s.eng.pwr.cooled = true → s.eng.drv.removed = true → s.eng.pwr.recovering = false →
    enters (.sdClear b v) s fun e t =>
      t.drv = { s.eng.drv with removed := false } ∧ t.sys = { s.eng.sys with pilotOn := true } ∧
      t.pwr = { s.eng.pwr with recovering := true } ∧ t.reg Reg.thmCtl = v &&& 3 ∧
      t.reg Reg.sysPilotStat = putBit (s.eng.reg Reg.sysPilotStat) 1 false ∧
      regsBut [Reg.thmCtl, Reg.sysPilotStat] s.eng t ∧ t = { e with regs := t.regs, sys := t.sys, drv := t.drv, pwr := t.pwr }) ∧
  (∀ (s : State) (b : Bus) (v : Word), may s b → s.eng.pwr.cooled = false ∨ s.eng.drv.removed = false →
    applies (.sdClear b v) s fun e => e.setReg Reg.thmCtl (v &&& 3))

/-- At a cycle boundary the cycle number and its time-stamp are latched and the log and error counts closed (R305, R306, R309); a SYNCING
member takes a pass (R320), and a delta not acknowledged at the second boundary is a link fault that returns the STANDBY to SYNCING
(R308). The ACTIVE member posts one delta a cycle, of 40 KiB at the most and with the CRC of the cycle's audit pages in its trailer
(R307); the STANDBY applies one whose trailer agrees, and one that does not is PAK_DIVERGE (R308, R321); the last pass of a
resynchronization makes a SYNCING member STANDBY (R320). A member whose lockstep, SRAM or signature check fails is fenced and reports it,
whatever its role, and of the ACTIVE member a takeover is awaited (R309, R311); one that is fenced already reports it and stays so. The
delta of a poisoned cycle is withdrawn (R307). Without a delta in two cycles the ACTIVE member is fenced (R309). Three failed frame checks
of the link return the STANDBY to SYNCING (R308). A fenced member is reset after 1 ms (R311), and 1 s without a STANDBY is reported
(R310). That a fenced member stays fenced is the model's reading (log 68). -/
def Obligations.PackCycle : Prop :=
  (∀ (s : State) (ceA ceB x : Nat), s.eng.mode ≠ .reset → s.eng.pak.boundary + 25000 ≤ s.eng.tick → s.eng.standbyMember = none →
    (∀ m, s.eng.role m ≠ .syncing) → s.eng.pak.held = [] → s.eng.fw.closing = [] → s.eng.pak.stamps = [x] → s.eng.log.length ≤ 4096 →
    runs (.pakCycleBoundary ceA ceB) s fun t =>
      t.pak = { s.eng.pak with cycle := s.eng.pak.cycle + 1, boundary := s.eng.pak.boundary + 25000, stamps := [], logs := t.pak.logs,
                               inputs := t.pak.inputs, posted := t.pak.posted, pass := none, replay := t.pak.replay } ∧
      t.log = [] ∧ t.logOf s.eng.pak.cycle = s.eng.log ∧
      (∀ i ∈ t.pak.inputs, i ∈ s.eng.pak.inputs ∧ s.eng.pak.cycle < i.cycle + 3) ∧
      t.pak.posted = s.eng.pak.posted.drop (s.eng.pak.posted.length - 3) ∧
      t.pak.replay = (if s.eng.pak.replayEnd ≤ s.eng.pak.cycle + 1 then none else s.eng.pak.replay) ∧
      t.reg Reg.pakCycle = word (s.eng.pak.cycle + 1) ∧ t.reg Reg.pakCycSecLo = word (x / nsUnit / 1000000000) ∧
      t.reg Reg.pakCycSecHi = word (x / nsUnit / 1000000000 / 2 ^ 32) ∧ t.reg Reg.pakCycNs = word (x / nsUnit % 1000000000) ∧
      t.rfld Reg.pakLog 0 16 = s.eng.log.length ∧ t.rfld Reg.pakLog 16 16 = max s.eng.log.length (s.eng.rfld Reg.pakLog 16 16) ∧
      t.rfld (Reg.pakEcc 0) 0 16 = min 65535 (s.eng.rfld (Reg.pakEcc 0) 0 16 + ceA) ∧
      t.rfld (Reg.pakEcc 1) 0 16 = min 65535 (s.eng.rfld (Reg.pakEcc 1) 0 16 + ceB) ∧
      regsBut [Reg.pakLog, Reg.pakCycle, Reg.pakCycSecLo, Reg.pakCycSecHi, Reg.pakCycNs, Reg.pakEcc 0, Reg.pakEcc 1] s.eng t ∧
      t = { s.eng with regs := t.regs, pak := t.pak }) ∧
  (∀ (s : State) (ceA ceB : Nat) (a : Bool), s.eng.mode ≠ .reset → s.eng.pak.boundary + 25000 ≤ s.eng.tick → s.eng.activeMember = some a →
    s.eng.role (!a) = .syncing → firmwareLoaded s.eng = true → s.eng.pak.held = [] → s.eng.fw.closing = [] →
    runs (.pakCycleBoundary ceA ceB) s fun t =>
      t.pak.cycle = s.eng.pak.cycle + 1 ∧ t.pak.pass = some (mirrored (s.eng.member a).sram) ∧ t.member a = s.eng.member a ∧
      t.member (!a) = { s.eng.member (!a) with sram := withMirror (s.eng.member (!a)).sram (mirrored (s.eng.member a).sram) }) ∧
  (∀ (s : State) (ceA ceB c : Nat) (b : Bool) (d : Delta), s.eng.mode ≠ .reset → s.eng.pak.boundary + 25000 ≤ s.eng.tick →
    s.eng.standbyMember = some b → s.eng.pak.cycle = c + 1 → s.eng.pak.posted = [d] → d.cycle = c → s.eng.pak.applied = none →
    s.eng.pak.overlap = false → s.eng.pak.takeover = none → s.eng.pak.held = [] → s.eng.fw.closing = [] →
    runs (.pakCycleBoundary ceA ceB) s fun t =>
      t.pak.cycle = c + 2 ∧ t.role b = .syncing ∧ t.rbit Reg.pakStat 11 = true ∧ reports t = reports s.eng ++ [(12, 0)] ∧
      t.member (!b) = s.eng.member (!b)) ∧
  (∀ (s : State) (b : Bool), s.eng.activeMember = some b → (∀ d ∈ s.eng.pak.posted, d.cycle ≠ s.eng.pak.cycle) →
    runs .deltaPost s fun t =>
      t = { s.eng with pak.posted := t.pak.posted, pak.sent := t.pak.sent } ∧
      ∃ d, t.pak.posted = s.eng.pak.posted ++ [d] ∧ d.cycle = s.eng.pak.cycle ∧ d.changes.length ≤ 10240 ∧
        d.changes = (wordChanges s.eng.pak.sent (mirrored (s.eng.member b).sram)).take 10240 ∧
        t.pak.sent = memWrites zeroWord s.eng.pak.sent d.changes ∧ (∀ p ∈ auditPages d.cycle, (p, pageCrc t.pak.sent p) ∈ d.crcs)) ∧
  (∀ (s : State) (d : Delta), s.eng.activeMember.isSome = true → d ∈ s.eng.pak.posted → d.cycle = s.eng.pak.cycle → idles .deltaPost s) ∧
  (∀ (s : State) (b : Bool) (d : Delta), s.eng.standbyMember = some b → nextDelta s.eng = some d →
    trailerAgrees d (memWrites zeroWord (mirrored (s.eng.member b).sram) d.changes) = true →
    runs .deltaApply s fun t =>
      t.pak.applied = some d.cycle ∧ t.member (!b) = s.eng.member (!b) ∧
      t.member b = { s.eng.member b with
        sram := withMirror (s.eng.member b).sram (memWrites zeroWord (mirrored (s.eng.member b).sram) d.changes) } ∧
      t = { s.eng with pak.a := t.pak.a, pak.b := t.pak.b, pak.applied := t.pak.applied }) ∧
  (∀ (s : State) (b : Bool) (d : Delta), s.eng.standbyMember = some b → nextDelta s.eng = some d →
    trailerAgrees d (memWrites zeroWord (mirrored (s.eng.member b).sram) d.changes) = false → s.eng.pak.overlap = false →
    runs .deltaApply s fun t =>
      t.member b = { s.eng.member b with role := .syncing } ∧ t.member (!b) = s.eng.member (!b) ∧ t.pak.applied = s.eng.pak.applied ∧
      t.reg Reg.pakStat = putBit (s.eng.reg Reg.pakStat) 10 true ∧ reports t = reports s.eng ++ [(15, word (if b then 1 else 0))] ∧
      regsBut [Reg.pakStat] s.eng t ∧ t.flt = { s.eng.flt with waiting := t.flt.waiting } ∧
      t.pak = { s.eng.pak with a := t.pak.a, b := t.pak.b, noStandbySince := t.pak.noStandbySince,
                               noStandbyReported := t.pak.noStandbyReported } ∧
      t = { s.eng with regs := t.regs, pak := t.pak, flt := t.flt }) ∧
  (∀ (s : State) (a : Bool) (m : Mem), s.eng.mode ≠ .reset → s.eng.activeMember = some a → s.eng.role (!a) = .syncing →
    s.eng.pak.pass = some m → (∀ d ∈ s.eng.pak.posted, d.cycle ≠ s.eng.pak.cycle) →
    (changedPages (wordChanges m (formDelta s.eng a).2)).length ≤ 10 →
    runs .resyncComplete s fun t =>
      t.member a = s.eng.member a ∧ t.pak.applied = some s.eng.pak.cycle ∧ t.pak.posted = s.eng.pak.posted ++ [(formDelta s.eng a).1] ∧
      t.member (!a) = { s.eng.member (!a) with role := .standby, sram := withMirror (s.eng.member (!a)).sram t.pak.sent } ∧
      t.pak.sent = (formDelta s.eng a).2 ∧ t.pak.pass = none ∧ t.regs = s.eng.regs ∧ t = { s.eng with pak := t.pak }) ∧
  (∀ (s : State) (c : Instr) (m : Bool) (src : Fin 128) (cause : Nat), releaseRow c = some (m, src, cause) →
    s.eng.mode ≠ .reset → s.eng.role m = .active →
    runs c s fun t =>
      fencedBy s.eng m src cause t ∧ t.pak.posted = s.eng.pak.posted ∧ t.pak.replay = none ∧
      ∃ k, t.pak.takeover = some (m, cause, k) ∧ (s.eng.tick ≠ s.eng.pak.boundary → k = s.eng.pak.cycle)) ∧
  (∀ (s : State) (c : Instr) (m : Bool) (src : Fin 128) (cause : Nat), releaseRow c = some (m, src, cause) →
    s.eng.mode ≠ .reset → s.eng.role m ≠ .active → s.eng.role m ≠ .fenced → s.eng.pak.overlap = false →
    runs c s fun t =>
      fencedBy s.eng m src cause t ∧ t.pak.posted = s.eng.pak.posted ∧ t.pak.replay = s.eng.pak.replay ∧
      t.pak.takeover = s.eng.pak.takeover) ∧
  (∀ (s : State) (c : Instr) (m : Bool) (src : Fin 128) (cause : Nat), releaseRow c = some (m, src, cause) →
    s.eng.mode ≠ .reset → s.eng.role m = .fenced → becomes c s (s.eng.raise src (if m then 1 else 0))) ∧
  (∀ (s : State) (m : Bool), s.eng.mode ≠ .reset → s.eng.role m = .active →
    runs (.pakSramUe m true) s fun t =>
      fencedBy s.eng m 9 2 t ∧ t.pak.posted = s.eng.pak.posted.dropLast ∧ t.pak.replay = none ∧
      ∃ k, t.pak.takeover = some (m, 2, k) ∧ (s.eng.tick ≠ s.eng.pak.boundary → k = s.eng.pak.cycle)) ∧
  (∀ (s : State) (m : Bool), s.eng.mode ≠ .reset → s.eng.activeMember = some m → 2 ≤ s.eng.pak.cycle →
    s.eng.pak.activeFrom + 2 ≤ s.eng.pak.cycle →
    (∀ d ∈ s.eng.pak.posted, d.cycle + 1 ≠ s.eng.pak.cycle ∧ d.cycle + 2 ≠ s.eng.pak.cycle) →
    runs .pakHeartbeat s fun t =>
      fencedBy s.eng m 11 4 t ∧ t.pak.posted = s.eng.pak.posted ∧ t.pak.replay = none ∧
      ∃ k, t.pak.takeover = some (m, 4, k) ∧ (s.eng.tick ≠ s.eng.pak.boundary → k = s.eng.pak.cycle)) ∧
  (∀ (s : State) (d : Delta), d ∈ s.eng.pak.posted → d.cycle + 1 = s.eng.pak.cycle → idles .pakHeartbeat s) ∧
  (∀ (s : State) (b : Bool), s.eng.mode ≠ .reset → s.eng.standbyMember = some b → s.eng.pak.overlap = false →
    s.eng.pak.takeover = none →
    runs .pakLink s fun t =>
      t.member b = { s.eng.member b with role := .syncing } ∧ t.member (!b) = s.eng.member (!b) ∧
      t.reg Reg.pakStat = putBit (s.eng.reg Reg.pakStat) 11 true ∧ reports t = reports s.eng ++ [(12, 0)] ∧
      t.pak.gapCycles = addTo s.eng.pak.cycle s.eng.pak.gapCycles ∧ regsBut [Reg.pakStat] s.eng t ∧
      t.flt = { s.eng.flt with waiting := t.flt.waiting } ∧
      t.pak = { s.eng.pak with a := t.pak.a, b := t.pak.b, gapCycles := t.pak.gapCycles, noStandbySince := t.pak.noStandbySince,
                               noStandbyReported := t.pak.noStandbyReported } ∧
      t = { s.eng with regs := t.regs, pak := t.pak, flt := t.flt }) ∧
  (∀ (s : State) (m : Bool) (n cause : Nat), s.eng.role m = .fenced → (s.eng.member m).released = some (n, cause) →
    n + 250000 ≤ s.eng.tick →
    becomes (.memberReset m) s (s.eng.setMember m { s.eng.member m with role := .off, released := none, tested := none })) ∧
  (∀ (s : State) (m : Bool) (n cause : Nat), (s.eng.member m).released = some (n, cause) → s.eng.tick < n + 250000 →
    idles (.memberReset m) s) ∧
  (∀ (s : State) (n : Nat), s.eng.mode ≠ .reset → s.eng.pak.noStandbySince = some n → s.eng.pak.noStandbyReported = false →
    n + 250000000 ≤ s.eng.tick →
    becomes .noStandbyTimeout s ({ s.eng with pak.noStandbyReported := true }.raise 13 0)) ∧
  (∀ (s : State) (n : Nat), s.eng.pak.noStandbySince = some n → s.eng.tick < n + 250000000 → idles .noStandbyTimeout s)

/-- At boot member A claims on passing its self-test, and B where A has failed (R322); later a passing member resynchronizes with the
ACTIVE one, or claims where there is none (R310, R312); one that fails stays OFF. At the boundary after a release the STANDBY takes over
with its own state, and what the logs hold of the cycles after it is still to be replayed (R311, R313); the switch is recorded (R315), and
without a STANDBY PAK_NO_ACTIVE is reported. At a cold claim the sessions take their numbers from the MRAM and the queue of requests is
empty (R312). A read of PAK_SEQ_LO draws the number; PAK_SEQ_BASE_HI loads the counter once (R316). A swap falls due by PAK_CTL.SWAP_REQ,
or by the period since the last switchover (R317), and waits while it cannot start; it starts at a boundary with a rehearsal cycle (R318).
At the next boundary the roles exchange, each member keeping its own state and the new ACTIVE member matching the rest of the log; a
trailer that agrees leaves the outgoing member STANDBY, and one that does not sends it to SYNCING (R319). -/
def Obligations.PackClaims : Prop :=
  (∀ s : State, s.eng.mode ≠ .reset → s.eng.pak.booted = false → s.eng.pak.a.role = .off → s.eng.pak.a.tested = none →
    s.eng.pak.b.tested = none →
    runs (.selfTestComplete false true) s fun t =>
      t.pak = { s.eng.pak with a := { s.eng.pak.a with role := .active, tested := some true }, booted := true, lastSwitch := s.eng.elapsed,
                               activeFrom := s.eng.pak.cycle, applied := none, noStandbySince := t.pak.noStandbySince,
                               noStandbyReported := t.pak.noStandbyReported } ∧
      t = { s.eng with pak := t.pak }) ∧
  (∀ s : State, s.eng.mode ≠ .reset → s.eng.pak.booted = false → s.eng.pak.b.role = .off → s.eng.pak.b.tested = none →
    s.eng.pak.a.tested = some false →
    runs (.selfTestComplete true true) s fun t =>
      t.pak = { s.eng.pak with b := { s.eng.pak.b with role := .active, tested := some true }, booted := true, lastSwitch := s.eng.elapsed,
                               activeFrom := s.eng.pak.cycle, applied := none, noStandbySince := t.pak.noStandbySince,
                               noStandbyReported := t.pak.noStandbyReported } ∧
      t = { s.eng with pak := t.pak }) ∧
  (∀ s : State, s.eng.mode ≠ .reset → s.eng.pak.booted = false → s.eng.pak.b.role = .off → s.eng.pak.b.tested = none →
    s.eng.pak.a.tested = none →
    becomes (.selfTestComplete true true) s (s.eng.setMember true { s.eng.pak.b with tested := some true })) ∧
  (∀ (s : State) (b : Bool), s.eng.mode ≠ .reset → s.eng.pak.booted = true → s.eng.role b = .off → (s.eng.member b).tested = none →
    s.eng.rbit Reg.pakCtl 2 = true → s.eng.activeMember = some (!b) →
    runs (.selfTestComplete b true) s fun t =>
      t.member b = { s.eng.member b with role := .syncing, tested := some true } ∧ t.member (!b) = s.eng.member (!b) ∧
      t.pak = { s.eng.pak with a := t.pak.a, b := t.pak.b, noStandbySince := t.pak.noStandbySince,
                               noStandbyReported := t.pak.noStandbyReported } ∧
      t = { s.eng with pak := t.pak }) ∧
  (∀ (s : State) (b : Bool), s.eng.mode ≠ .reset → s.eng.pak.booted = true → s.eng.role b = .off → (s.eng.member b).tested = none →
    s.eng.rbit Reg.pakCtl 2 = true → s.eng.activeMember = none →
    runs (.selfTestComplete b true) s fun t =>
      t.member b = { s.eng.member b with tested := some true } ∧ t.member (!b) = s.eng.member (!b) ∧
      t.pak = { s.eng.pak with a := t.pak.a, b := t.pak.b, claims := s.eng.pak.claims ++ [(b, s.eng.pak.cycle)] } ∧
      t = { s.eng with pak := t.pak }) ∧
  (∀ (s : State) (b : Bool), s.eng.mode ≠ .reset → s.eng.pak.booted = true → s.eng.role b = .off → (s.eng.member b).tested = none →
    becomes (.selfTestComplete b false) s (s.eng.setMember b { s.eng.member b with tested := some false })) ∧
  (∀ (s : State) (r b : Bool) (cause j k : Nat), s.eng.mode ≠ .reset → s.eng.pak.takeover = some (r, cause, k) → k < s.eng.pak.cycle →
    s.eng.standbyMember = some b → s.eng.pak.overlap = false → s.eng.rbit Reg.pakStat 1 = false → cause < 256 →
    s.eng.pak.followHeld = [] → s.eng.pak.gapCycles = [] → s.eng.pak.applied = some j → (∀ d ∈ s.eng.pak.posted, d.cycle ≤ j ∨ k ≤ d.cycle) →
    runs .takeover s fun t =>
      t.member b = { s.eng.member b with role := .active } ∧ t.member (!b) = s.eng.member (!b) ∧ t.pak.takeover = none ∧
      t.pak.replay = some (replayLog s.eng j k) ∧ t.rfld Reg.pakLastSw 24 8 = cause ∧ t.rbit Reg.pakLastSw 16 = b ∧
      t.rfld Reg.pakLastSw 0 2 = min 2 (k - j) ∧ t.reg Reg.pakSwSecLo = s.eng.reg Reg.pakCycSecLo ∧
      t.reg Reg.pakSwSecHi = s.eng.reg Reg.pakCycSecHi ∧ t.reg Reg.pakSwNs = s.eng.reg Reg.pakCycNs ∧
      t.reg Reg.pakStat = putBit (s.eng.reg Reg.pakStat) 8 true ∧
      (t.reg Reg.pakSwCnt).toNat = min (2 ^ 32 - 1) ((s.eng.reg Reg.pakSwCnt).toNat + 1) ∧
      t.flt.captureEnd = some (s.eng.pak.boundary + 2500000) ∧ t.cal.copying = true ∧ t.cal.heldWrites = [] ∧
      t.pak.seq = s.eng.pak.seq ∧ t.fw = s.eng.fw ∧ t.sch = s.eng.sch ∧ t.rte = s.eng.rte ∧ t.drv = s.eng.drv ∧ t.led = s.eng.led ∧
      t.mode = s.eng.mode ∧ t.mgt = s.eng.mgt) ∧
  (∀ (s : State) (r : Bool) (cause k : Nat), s.eng.mode ≠ .reset → s.eng.pak.takeover = some (r, cause, k) → k < s.eng.pak.cycle →
    s.eng.standbyMember = none → s.eng.pak.followHeld = [] →
    becomes .takeover s (({ s.eng with pak := { s.eng.pak with takeover := none, overlap := false } }.putRbit Reg.pakStat 1 false).raise 14 0)) ∧
  (∀ (s : State) (b : Bool) (c : Nat), s.eng.mode ≠ .reset → s.eng.activeMember = none → s.eng.pak.takeover = none →
    s.eng.pak.claims = [(b, c)] → c < s.eng.pak.cycle →
    runs .coldClaim s fun t =>
      t.role b = .active ∧ t.member (!b) = s.eng.member (!b) ∧ t.pak.claims = [] ∧ t.rfld Reg.pakLastSw 24 8 = 7 ∧
      t.rbit Reg.pakLastSw 16 = b ∧ t.rfld Reg.pakLastSw 0 2 = 0 ∧ t.rbit Reg.pakStat 8 = true ∧ t.fw.submitted = [] ∧
      (∀ n : Fin 65, t.session n = { Session.reset with lastSeq := readSess s.eng n.val }) ∧ t.rte = s.eng.rte ∧ t.drv = s.eng.drv ∧
      t.sch = s.eng.sch ∧ t.mode = s.eng.mode) ∧
  (∀ (s : State) (b : Bus), may s b →
    enters (.seqDraw b) s fun e t =>
      lastRead t b = word s.eng.pak.seq ∧ get0 t.latch (latchKey b.master Reg.pakSeqHi) = word (s.eng.pak.seq / 2 ^ 32) ∧
      t.pak.seq = (s.eng.pak.seq + 1) % 2 ^ 64 ∧ (∀ m, m ≠ b.master → get0 t.rdata (masterNo m) = get0 e.rdata (masterNo m)) ∧
      (∀ a, a ≠ latchKey b.master Reg.pakSeqHi → get0 t.latch a = get0 e.latch a) ∧
      t = { e with pak.seq := t.pak.seq, latch := t.latch, rdata := t.rdata }) ∧
  (∀ (s : State) (b : Bus) (v : Word), may s b → s.eng.pak.baseLoaded = false →
    applies (.seqBaseLoad b v) s fun e =>
      { e with pak.baseLoaded := true, pak.seq := v.toNat * 2 ^ 32 + (e.reg Reg.pakSeqBaseLo).toNat }.setReg Reg.pakSeqBaseHi v) ∧
  (∀ (s : State) (b : Bus) (v : Word), may s b → s.eng.pak.baseLoaded = true → applies (.seqBaseLoad b v) s id) ∧
  (∀ (s : State) (b : Bus), may s b → s.eng.pak.overlap = false → swapBlocked s.eng = false →
    applies (.swapReq b) s fun e => { e.putRbit Reg.pakCtl 1 true with pak.swapDue := some (e.pak.swapDue.getD 6) }) ∧
  (∀ (s : State) (b : Bus), may s b → s.eng.pak.overlap = false → swapBlocked s.eng = true →
    applies (.swapReq b) s fun e =>
      { (e.putRbit Reg.pakCtl 1 true).putRbit Reg.pakStat 14 true with pak.swapDue := some (e.pak.swapDue.getD 6) }) ∧
  (∀ s : State, s.eng.mode ≠ .reset → s.eng.rbit Reg.pakCtl 0 = true → s.eng.pak.swapDue = none → s.eng.pak.overlap = false →
    s.eng.pak.booted = true → s.eng.pak.lastSwitch + max 60 (s.eng.reg Reg.pakSwapPeriod).toNat * 1000000000 * nsUnit ≤ s.eng.elapsed →
    swapBlocked s.eng = false →
    becomes .swapDue s { s.eng with pak.swapDue := some 5 }) ∧
  (∀ s : State, s.eng.mode ≠ .reset → s.eng.rbit Reg.pakCtl 0 = true → s.eng.pak.swapDue = none → s.eng.pak.overlap = false →
    s.eng.pak.booted = true → s.eng.pak.lastSwitch + max 60 (s.eng.reg Reg.pakSwapPeriod).toNat * 1000000000 * nsUnit ≤ s.eng.elapsed →
    swapBlocked s.eng = true →
    becomes .swapDue s { s.eng.putRbit Reg.pakStat 14 true with pak.swapDue := some 5 }) ∧
  (∀ s : State, s.eng.rbit Reg.pakCtl 0 = false → idles .swapDue s) ∧
  (∀ (s : State) (cause : Nat), s.eng.mode ≠ .reset → s.eng.pak.swapDue = some cause → s.eng.pak.overlap = false →
    swapBlocked s.eng = false → s.eng.tick = s.eng.pak.boundary →
    becomes .rehearsalStart s ({ s.eng with
      pak := { s.eng.pak with overlap := true, overlapFrom := s.eng.pak.cycle, followed := 0, followHeld := [] } }.putRbit Reg.pakStat 1 true)) ∧
  (∀ s : State, s.eng.tick ≠ s.eng.pak.boundary ∨ swapBlocked s.eng = true → idles .rehearsalStart s) ∧
  (∀ (s : State) (a b : Bool) (cause : Nat), s.eng.mode ≠ .reset → s.eng.activeMember = some a → s.eng.standbyMember = some b →
    s.eng.pak.overlap = true → s.eng.pak.overlapFrom < s.eng.pak.cycle → s.eng.pak.swapDue = some cause → cause < 256 →
    s.eng.pak.followHeld = [] → trailerAgrees (outgoingTrailer a s.eng) (mirrored (s.eng.member b).sram) = true →
    runs .roleExchange s fun t =>
      t.member b = { s.eng.member b with role := .active } ∧ t.member a = { s.eng.member a with role := .standby } ∧
      t.pak.overlap = false ∧ t.pak.swapDue = none ∧ t.pak.replay = restOfFollow s.eng ∧ t.rbit Reg.pakStat 1 = false ∧
      t.rbit Reg.pakCtl 1 = false ∧ t.rfld Reg.pakLastSw 24 8 = cause ∧ t.rbit Reg.pakLastSw 16 = b ∧ t.rfld Reg.pakLastSw 0 2 = 0 ∧
      t.rbit Reg.pakStat 8 = true ∧ reports t = reports s.eng ∧ t.fw = s.eng.fw ∧ t.mgt = s.eng.mgt ∧ t.sch = s.eng.sch ∧
      t.rte = s.eng.rte ∧ t.drv = s.eng.drv ∧ t.mode = s.eng.mode) ∧
  (∀ (s : State) (a b : Bool) (cause : Nat), s.eng.mode ≠ .reset → s.eng.activeMember = some a → s.eng.standbyMember = some b →
    s.eng.pak.overlap = true → s.eng.pak.overlapFrom < s.eng.pak.cycle → s.eng.pak.swapDue = some cause → s.eng.pak.followHeld = [] →
    trailerAgrees (outgoingTrailer a s.eng) (mirrored (s.eng.member b).sram) = false →
    runs .roleExchange s fun t =>
      t.member b = { s.eng.member b with role := .active } ∧ t.member a = { s.eng.member a with role := .syncing } ∧
      t.pak.overlap = false ∧ t.pak.swapDue = none ∧ t.rbit Reg.pakStat 1 = false ∧ t.rbit Reg.pakStat 10 = true ∧
      reports t = reports s.eng ++ [(15, word (if a then 1 else 0))])

/-- R303: an access of a member that is not ACTIVE, of anything other than its own SRAM, the boot ROM and the PAK window, returns 0 where
it reads, has no effect where it writes, and sets PAK_STAT.BLOCKED, whichever row makes it; a follower's sequence-guarded writes in a
rehearsal cycle are delivered, in the order of the log that they match. An access that no region decodes is reported like any other
member's. -/
def Obligations.NonActiveAccess : Prop :=
  (∀ (s : State) (c : Instr) (x : BusCmd) (m : Bool), wellFormed c = true → busOf c = some x → s.eng.mode ≠ .reset →
    x.bus.master = (if m then .memberB else .memberA) → s.eng.role m ≠ .active → (s.eng.pak.overlap = false ∨ s.eng.role m ≠ .standby) →
    s.eng.turn ≤ turnOf x.bus → x.accesses ≠ [] → (∀ a ∈ x.accesses, outsidePak a = true) →
    runs c s fun t =>
      (∀ a v, x.accesses = [.read a v] → lastRead t x.bus = 0) ∧ t.rbit Reg.pakStat 13 = true ∧
      (∀ i, i ≠ 13 → t.rbit Reg.pakStat i = s.eng.rbit Reg.pakStat i) ∧
      regsBut [Reg.pakStat] s.eng t ∧ t = { s.eng with regs := t.regs, rdata := t.rdata, flt.waiting := t.flt.waiting }) ∧
  (∀ (s : State) (b : Bus) (a : Word) (m : Bool), s.eng.mode ≠ .reset → b.master = (if m then .memberB else .memberA) →
    s.eng.role m ≠ .active → (s.eng.pak.overlap = false ∨ s.eng.role m ≠ .standby) → s.eng.turn ≤ turnOf b →
    inRom a.toNat = false → inSram a.toNat = false → inPak a.toNat = false →
    runs (.splitLowRead b a) s fun t =>
      lastRead t b = 0 ∧
      (decoded a.toNat = true → a.toNat % 4 = 0 → t.flt = s.eng.flt) ∧
      (decoded a.toNat = false ∨ a.toNat % 4 ≠ 0 → reports t = reports s.eng ++ [(3, a)])) ∧
  (∀ (s : State) (b : Bus) (w : Width) (a v : Word) (m : Bool), s.eng.mode ≠ .reset → b.master = (if m then .memberB else .memberA) →
    s.eng.role m ≠ .active → (s.eng.pak.overlap = false ∨ s.eng.role m ≠ .standby) → s.eng.turn ≤ turnOf b →
    inRom a.toNat = false → inSram a.toNat = false → inPak a.toNat = false →
    (w = .word ∧ a.toNat % 4 = 0 ∧ (inBlocks a.toNat || inLps a.toNat) = true →
      becomes (.registerWrite b w a v) s (s.eng.putRbit Reg.pakStat 13 true) ∧
      becomes (.splitHighWrite b a v) s (s.eng.putRbit Reg.pakStat 13 true)) ∧
    (¬ (w = .word ∧ a.toNat % 4 = 0 ∧ (inBlocks a.toNat || inLps a.toNat) = true) →
      runs (.registerWrite b w a v) s fun t =>
        reports t = reports s.eng ++ [(3, a)] ∧ t = { s.eng.putRbit Reg.pakStat 13 true with flt := t.flt })) ∧
  (∀ (s : State) (b : Bus) (i : Fin 5) (v : Word) (m : Bool) (rest : List LogEntry), s.eng.mode ≠ .reset →
    b.master = (if m then .memberB else .memberA) → s.eng.role m = .standby → s.eng.pak.overlap = true → s.eng.pak.followHeld = [] →
    s.eng.turn ≤ turnOf b →
    ((s.eng.logOf s.eng.pak.overlapFrom).filter (· != .firmware)).drop s.eng.pak.followed = .write .word (Reg.schReq i) v :: rest →
    becomes (.registerWrite b .word (word (Reg.schReq i)) v) s
      { s.eng with sch.stage := put0 s.eng.sch.stage (stageKey m i) v, pak.followed := s.eng.pak.followed + 1 })

/-- The checks of R332 in their order, over every row of FLP: without an open connection a message is one of the cycle's inputs and
nothing else; a wrong version is answered BAD_VERSION and closes the connection; a number not above the session's last is answered
DUPLICATE; an unknown TYPE is answered BAD_TYPE, and a tenant's operator command NOT_PERMITTED, both with the number taken and nothing
else done. -/
def Obligations.FlpChecks : Prop :=
  (∀ (s : State) (c : Instr) (n : Fin 65) (type : Nat) (op : Bool) (m : HostMsg), flpRow c = some (n, type, op, m) → wellFormed c = true →
    (s.eng.session n).tls = false → packReady s.eng → s.eng.turn = 0 → becomes c s (receive c s.eng)) ∧
  (∀ (s : State) (c : Instr) (n : Fin 65) (type : Nat) (op : Bool) (m : HostMsg), flpRow c = some (n, type, op, m) → wellFormed c = true →
    flpHeard s n → m.version ≠ 1 →
    runs c s fun t =>
      answers s.eng n type m s.eng.pak.seq 10 0 [] t ∧ t.session n = { (s.eng.session n).lost with idleFrom := (t.session n).idleFrom } ∧
      (t.session n).lastSeq = (s.eng.session n).lastSeq ∧ t.mgt.replies = s.eng.mgt.replies ++ [.closeNotify n.val] ∧
      (∀ k, k ≠ n → t.session k = s.eng.session k) ∧ t.nvm = s.eng.nvm ∧
      firmwareOnly s.eng { t with mgt.replies := s.eng.mgt.replies }) ∧
  (∀ (s : State) (c : Instr) (n : Fin 65) (type : Nat) (op : Bool) (m : HostMsg), flpRow c = some (n, type, op, m) → wellFormed c = true →
    flpHeard s n → m.version = 1 → m.length.toNat = m.payload.length → m.payload.length ≤ 65536 → m.session.toNat = n.val →
    m.sender = 0xFF → m.seq.toNat ≤ (s.eng.session n).lastSeq →
    runs c s fun t =>
      answers s.eng n type m s.eng.pak.seq 2 0 [] t ∧ t.session n = { s.eng.session n with idleFrom := s.eng.tick } ∧
      (∀ k, k ≠ n → t.session k = s.eng.session k) ∧ t.nvm = s.eng.nvm ∧ firmwareOnly s.eng t) ∧
  (∀ (s : State) (c : Instr) (n : Fin 65) (type : Nat) (m : HostMsg), flpRow c = some (n, type, true, m) → wellFormed c = true →
    flpTaken s n m → n ≠ 0 →
    runs c s fun t => answers s.eng n type m s.eng.pak.seq 3 0 [] t ∧ answeredOnly s.eng n m t) ∧
  (∀ (s : State) (n : Fin 65) (type : Byte) (m : HostMsg), type = 0 ∨ 0x11 < type.toNat → flpTaken s n m →
    runs (.flpUnknownType n type m) s fun t =>
      answers s.eng n type.toNat m s.eng.pak.seq 9 0 [] t ∧ answeredOnly s.eng n m t)

/-- CONNECT, DISCONNECT, PERMUTE, PIN and UNPIN with a payload that R337 accepts submit one request with the engine's next number, for the
tenant's requester or the operator's, clear VALID of the session's result record, and are answered ACCEPTED (R216, R337, R340); PERMUTE
writes the target map; a tenant that does not own a port it names is answered NOT_OWNER and nothing is submitted (R335). -/
def Obligations.FlpRequests : Prop :=
  (∀ (s : State) (c : Instr) (n : Fin 65) (type : Nat) (m : HostMsg) (cmd : Word) (ns : Nat) (sec : Word),
    flpSubmits c = some (n, type, m, cmd, ns, sec) → flpAllowed s.eng c → flpTaken s n m →
    runs c s fun t =>
      answers s.eng n type m (s.eng.pak.seq + 1) 1 0 [] t ∧ numberKept s.eng n m t ∧ t.pak.seq = s.eng.pak.seq + 2 ∧
      t.fw = { s.eng.fw with sessions := t.fw.sessions, submitted := s.eng.fw.submitted ++
        [{ engineSeq := s.eng.pak.seq, session := n.val, hostSeq := m.seq.toNat, cells := 0, blinks := 0 }] } ∧
      t.session n = { s.eng.session n with
        lastSeq := m.seq.toNat, idleFrom := s.eng.tick, result := { (s.eng.session n).result with valid := false } } ∧
      (∀ k, k ≠ n → t.session k = s.eng.session k) ∧
      firmwareOnly (submitRequest cmd (if n = 0 then 64 else n.val - 1) ns sec s.eng.pak.seq s.eng)
        { t with rte.target := s.eng.rte.target, fw.submitted := s.eng.fw.submitted }) ∧
  (∀ (s : State) (n : Fin 65) (m : HostMsg) (i : Nat), flpAllowed s.eng (.flpPermute n m) → flpTaken s n m → i < s.eng.variant.ports →
    runs (.flpPermute n m) s fun t => get0 t.rte.target i = (wordsOf (m.payload.drop 16)).getD i 0) ∧
  (∀ (s : State) (c : Instr) (n : Fin 65) (type : Nat) (m : HostMsg) (cmd : Word) (ns : Nat) (sec : Word),
    flpSubmits c = some (n, type, m, cmd, ns, sec) → flpAllowed s.eng c → flpTaken s n m → type ≠ 3 →
    runs c s fun t => t.rte = s.eng.rte) ∧
  (∀ (s : State) (n : Fin 65) (m : HostMsg), flpTaken s n m → n ≠ 0 → m.payload.length = 16 →
    leAt m.payload 4 1 = 0 → leAt m.payload 5 3 = 0 → leAt m.payload 8 4 ≤ 999999999 → leAt m.payload 0 2 < s.eng.variant.ports →
    leAt m.payload 2 2 < s.eng.variant.ports →
    ownsPort s.eng (n.val - 1) false (leAt m.payload 0 2) = false ∨ ownsPort s.eng (n.val - 1) true (leAt m.payload 2 2) = false →
    (runs (.connect n m) s fun t => answers s.eng n 1 m s.eng.pak.seq 4 0 [] t ∧ answeredOnly s.eng n m t) ∧
    runs (.disconnect n m) s fun t => answers s.eng n 2 m s.eng.pak.seq 4 0 [] t ∧ answeredOnly s.eng n m t)

/-- The queries of R336: a range of the map, the session's result record, whose FRESH the read clears, an element's words, the fault
words, which a FAULT_READ with clearing also clears, ledger records from a number on, and registers of the window (R340, R342, R348). -/
def Obligations.FlpQueries : Prop :=
  (∀ (s : State) (n : Fin 65) (m : HostMsg), flpTaken s n m → m.payload.length = 8 → leAt m.payload 0 1 = 0 → leAt m.payload 1 1 = 0 →
    leAt m.payload 6 2 = 0 → leAt m.payload 4 2 ≤ 512 → leAt m.payload 2 2 + leAt m.payload 4 2 ≤ s.eng.variant.ports →
    runs (.queryRoute n m) s fun t =>
      answers s.eng n 5 m s.eng.pak.seq 0 0
        (wordBytes ((List.range (leAt m.payload 4 2)).map fun i => get0 s.eng.rte.cur (leAt m.payload 2 2 + i))) t ∧
      answeredOnly s.eng n m t) ∧
  (∀ (s : State) (n : Fin 65) (m : HostMsg), flpTaken s n m → m.payload.length = 8 → leAt m.payload 0 1 = 1 → leAt m.payload 1 1 = 0 →
    leAt m.payload 2 2 = 0 → leAt m.payload 4 2 = 0 → leAt m.payload 6 2 = 0 → s.eng.sch.outs = [] →
    runs (.queryRoute n m) s fun t =>
      answers s.eng n 5 m s.eng.pak.seq 0 0 (resultBytes (s.eng.session n).result) t ∧
      answeredWith s.eng n m { s.eng.session n with
        lastSeq := m.seq.toNat, idleFrom := s.eng.tick, result := { (s.eng.session n).result with fresh := false } } t) ∧
  (∀ (s : State) (n : Fin 65) (m : HostMsg) (w ns : Word) (e : Submitted), flpTaken s n m → m.payload.length = 8 →
    leAt m.payload 0 1 = 1 → leAt m.payload 1 1 = 0 → leAt m.payload 2 2 = 0 → leAt m.payload 4 2 = 0 → leAt m.payload 6 2 = 0 →
    s.eng.fw.submitted = [e] → e.session = n.val → s.eng.sch.outs = [(w, e.engineSeq, ns)] →
    runs (.queryRoute n m) s fun t =>
      answers s.eng n 5 m s.eng.pak.seq 0 0 (resultBytes { reported340 e w ns s.eng with fresh := true }) t ∧
      (t.session n).result = reported340 e w ns s.eng ∧ t.sch = { s.eng.sch with outs := [] } ∧ t.fw.submitted = []) ∧
  (∀ (s : State) (m : HostMsg) (l slot : Nat), flpTaken s 0 m → m.payload.length = 8 → leAt m.payload 4 2 = 1 → leAt m.payload 6 2 = 0 →
    leAt m.payload 0 4 < s.eng.variant.elements → laneSlotOf s.eng (leAt m.payload 0 4) = some (l, slot) →
    runs (.queryElement 0 m) s fun t =>
      answers s.eng 0 6 m s.eng.pak.seq 0 0
        (wordBytes [get0 s.eng.drv.active (leAt m.payload 0 4), get0 s.eng.drv.trims (leAt m.payload 0 4),
            elementFlags s.eng (leAt m.payload 0 4)] ++
          leBytes 2 (halfLo (get0 s.eng.sns.results (resultAddr l slot 0))).toNat ++
          leBytes 2 (halfLo (get0 s.eng.sns.results (resultAddr l slot 1))).toNat) t ∧
      answeredOnly s.eng 0 m t) ∧
  (∀ (s : State) (n : Fin 65) (m : HostMsg), flpTaken s n m → m.payload.length = 8 → leAt m.payload 6 2 = 0 → 1 ≤ leAt m.payload 4 2 →
    leAt m.payload 4 2 ≤ 1024 → s.eng.fw.ring ≠ [] → s.eng.fw.ring.length ≤ 65536 →
    leAt m.payload 0 4 = (s.eng.fw.ringNext + 2 ^ 32 - s.eng.fw.ring.length) % 2 ^ 32 →
    runs (.ledgerRead n m) s fun t =>
      answers s.eng n 8 m s.eng.pak.seq 0 0
        (((s.eng.fw.ring.filter fun r => n == 0 || recordTenant r == n.val - 1).take (leAt m.payload 4 2)).flatMap wordBytes) t ∧
      answeredOnly s.eng n m t) ∧
  (∀ (s : State) (m : HostMsg), flpTaken s 0 m → m.payload.length = 4 → leAt m.payload 0 1 = 0 → leAt m.payload 1 3 = 0 →
    runs (.faultRead 0 m) s fun t =>
      answers s.eng 0 0xF m s.eng.pak.seq 0 0 (wordBytes (faultWords s.eng)) t ∧ answeredOnly s.eng 0 m t) ∧
  (∀ (s : State) (m : HostMsg), flpTaken s 0 m → m.payload.length = 4 → leAt m.payload 0 1 = 1 → leAt m.payload 1 3 = 0 →
    runs (.faultReadClear 0 m) s fun t =>
      answers s.eng 0 0xF m s.eng.pak.seq 0 0 (wordBytes (faultWords s.eng)) t ∧
      (∀ w < 4, t.reg (Reg.fltSticky w) = 0) ∧ t.reg Reg.fltCapStat = putBit (s.eng.reg Reg.fltCapStat) 31 false ∧
      regsBut [Reg.fltSticky 0, Reg.fltSticky 1, Reg.fltSticky 2, Reg.fltSticky 3, Reg.fltCapStat] s.eng t ∧
      answeredOnly s.eng 0 m { t with regs := s.eng.regs }) ∧
  (∀ (s : State) (m : HostMsg), flpTaken s 0 m → m.payload.length = 8 → leAt m.payload 4 2 = 1 → leAt m.payload 6 2 = 0 →
    leAt m.payload 0 4 % 4 = 0 → windowReads (leAt m.payload 0 4) = true →
    runs (.regRead 0 m) s fun t =>
      let u := busRead windowBus (leAt m.payload 0 4) ((taken (.regRead 0 m) s 0 m).logFirmware 1)
      answers u 0 0x10 m u.pak.seq 0 0 (wordBytes [get0 u.rdata 2]) t ∧ firmwareOnly u t ∧ t.session 0 = u.session 0 ∧ t.nvm = u.nvm)

/-- SUBSCRIBE sets the session's streams and period, and a tenant may not take the operator's streams (R338); LEDGER_ACK frees the records
up to its number (R261); MODE_REQ asks for a mode as SYS_MODE_REQ does, CAL_REQ adds regions or starts full calibration, and is refused
with its REASON, GATE_LOAD writes the pending gate list, commits it and answers its validation, and REG_WRITE writes one register of the
window in the modes that allow it (R337, R342). -/
def Obligations.FlpControl : Prop :=
  (∀ (s : State) (n : Fin 65) (m : HostMsg), flpTaken s n m → m.payload.length = 8 → leAt m.payload 0 4 < 64 → 1 ≤ leAt m.payload 4 2 →
    leAt m.payload 4 2 ≤ 60000 → leAt m.payload 6 2 = 0 → (n = 0 ∨ leAt m.payload 0 4 &&& 34 = 0) →
    runs (.subscribe n m) s fun t =>
      answers s.eng n 7 m s.eng.pak.seq 0 0 [] t ∧
      answeredWith s.eng n m { s.eng.session n with lastSeq := m.seq.toNat, idleFrom := s.eng.tick, streams := leAt m.payload 0 4,
                                                    period := leAt m.payload 4 2, telemetryAt := s.eng.tick } t) ∧
  (∀ (s : State) (n : Fin 65) (m : HostMsg), flpTaken s n m → n ≠ 0 → m.payload.length = 8 → leAt m.payload 0 4 < 64 →
    1 ≤ leAt m.payload 4 2 → leAt m.payload 4 2 ≤ 60000 → leAt m.payload 6 2 = 0 → leAt m.payload 0 4 &&& 34 ≠ 0 →
    runs (.subscribe n m) s fun t => answers s.eng n 7 m s.eng.pak.seq 3 0 [] t ∧ answeredOnly s.eng n m t) ∧
  (∀ (s : State) (m : HostMsg) (r : List Word) (l : List (List Word)), flpTaken s 0 m → m.payload.length = 8 → leAt m.payload 4 4 = 0 →
    s.eng.fw.ring = r :: l → l.length < 65536 → leAt m.payload 0 4 = (s.eng.fw.ringNext + 2 ^ 32 - (l.length + 1)) % 2 ^ 32 →
    runs (.ledgerAck 0 m) s fun t =>
      answers s.eng 0 9 m s.eng.pak.seq 0 0 [] t ∧ t.fw.ring = l ∧ answeredOnly s.eng 0 m { t with fw.ring := s.eng.fw.ring }) ∧
  (∀ (s : State) (m : HostMsg) (md : Mode), flpTaken s 0 m → m.payload.length = 4 → leAt m.payload 0 1 ≤ 5 → leAt m.payload 1 3 = 0 →
    modeOfCode (leAt m.payload 0 1) = some md → s.eng.sys.pendMode = none → md ≠ .load → md ≠ judgedMode s.eng →
    modeRefusal s.eng md = none →
    runs (.modeReq 0 m) s fun t =>
      answers s.eng 0 0xB m s.eng.pak.seq 0 0 [] t ∧ t.sys.pendMode = some md ∧
      t.sys.pendFrom = (if md = .reset then s.eng.pak.boundary + 25000 else s.eng.tick + 1) ∧
      answeredOnly s.eng 0 m { t with sys := { t.sys with pendMode := s.eng.sys.pendMode, pendFrom := s.eng.sys.pendFrom } }) ∧
  (∀ (s : State) (m : HostMsg), flpTaken s 0 m → m.payload.length = 4 → leAt m.payload 0 1 ≤ 5 → leAt m.payload 1 3 = 0 →
    s.eng.sys.pendMode.isSome = true →
    runs (.modeReq 0 m) s fun t =>
      answers s.eng 0 0xB m s.eng.pak.seq 11 2 [] t ∧ t.sys.refused = true ∧ t.sys.reason = 2 ∧
      answeredOnly s.eng 0 m { t with sys := { t.sys with refused := s.eng.sys.refused, reason := s.eng.sys.reason } }) ∧
  (∀ (s : State) (m : HostMsg), flpTaken s 0 m → m.payload.length = 4 → leAt m.payload 0 1 = 1 → leAt m.payload 2 2 = 0 →
    runs (.calReq 0 m) s fun t =>
      answers s.eng 0 0xC m s.eng.pak.seq 1 0 [] t ∧
      t.rfld Reg.calStat 8 8 = s.eng.rfld Reg.calStat 8 8 ||| leAt m.payload 1 1 ∧ regsBut [Reg.calStat] s.eng t ∧
      t.fw.calAsks = s.eng.fw.calAsks ++ [{ full := false, hostSeq := m.seq.toNat, begun := false, ended := none }] ∧
      answeredOnly s.eng 0 m { t with regs := s.eng.regs, fw.calAsks := s.eng.fw.calAsks }) ∧
  (∀ (s : State) (m : HostMsg), flpTaken s 0 m → m.payload.length = 4 → leAt m.payload 0 1 = 2 → leAt m.payload 2 2 = 0 →
    s.eng.mode = .calibrate → dark s.eng = true → s.eng.cal.phase = 0 →
    runs (.calReq 0 m) s fun t =>
      answers s.eng 0 0xC m s.eng.pak.seq 1 0 [] t ∧ t.cal.phase = 4 ∧ t.cal.fullRound = 0 ∧ t.rbit Reg.calCtl 1 = true ∧
      t.fw.calAsks.length = s.eng.fw.calAsks.length + 1 ∧ t.mode = s.eng.mode ∧ t.rte = s.eng.rte) ∧
  (∀ (s : State) (m : HostMsg), flpTaken s 0 m → m.payload.length = 4 → leAt m.payload 0 1 = 2 → leAt m.payload 2 2 = 0 →
    s.eng.mode ≠ .calibrate →
    runs (.calReq 0 m) s fun t =>
      answers s.eng 0 0xC m s.eng.pak.seq 11 1 [] t ∧ t.rbit Reg.calStat 7 = true ∧ t.rfld Reg.calStat 28 4 = 1 ∧
      regsBut [Reg.calStat] s.eng t ∧ answeredOnly s.eng 0 m { t with regs := s.eng.regs }) ∧
  (∀ (s : State) (m : HostMsg), flpTaken s 0 m → 24 ≤ m.payload.length → m.payload.length = 24 + 16 * leAt m.payload 16 4 →
    leAt m.payload 0 4 ≤ 999999999 → leAt m.payload 20 4 = 0 → (List.range (leAt m.payload 16 4)).any (reservedEntry m.payload) = false →
    s.eng.sch.locked = none → s.eng.sch.validating = none →
    runs (.gateLoad 0 m) s fun t =>
      let u := loadGates m.payload (taken (.gateLoad 0 m) s 0 m)
      (u.sch.locked.isSome = true → answers u 0 0xA m s.eng.pak.seq 0 (if pendStart u < u.stamp 250 then 1 else 0) [] t) ∧
      (u.sch.locked = none → answers u 0 0xA m s.eng.pak.seq 11 (u.rfld Reg.schGlStat 6 2) [] t) ∧
      firmwareOnly u t ∧ t.fw = u.fw ∧ t.nvm = u.nvm ∧ t.sch.active = s.eng.sch.active ∧
      t.reg Reg.schGlPendStartNs = wordAt m.payload 0 ∧ t.reg Reg.schGlPendLen = wordAt m.payload 16) ∧
  (∀ (s : State) (m : HostMsg), flpTaken s 0 m → m.payload.length = 8 → leAt m.payload 0 4 % 4 = 0 →
    windowWrites (leAt m.payload 0 4) = true →
    s.eng.mode = .hold ∨ s.eng.mode = .calibrate ∨ s.eng.mode = .kennel ∨ s.eng.mode = .run ∧ s.eng.rbit Reg.mgtCtl 0 = true →
    runs (.regWrite 0 m) s fun t =>
      let u := busWrite windowBus .word (leAt m.payload 0 4) (wordAt m.payload 4) ((taken (.regWrite 0 m) s 0 m).logFirmware 1)
      answers u 0 0x11 m u.pak.seq 0 (if secureOnly (leAt m.payload 0 4) then 1 else 0) [] t ∧ firmwareOnly u t ∧ t.fw = u.fw ∧ t.nvm = u.nvm) ∧
  (∀ (s : State) (m : HostMsg), flpTaken s 0 m → m.payload.length = 8 → leAt m.payload 0 4 % 4 = 0 →
    windowWrites (leAt m.payload 0 4) = true → s.eng.mode = .run → s.eng.rbit Reg.mgtCtl 0 = false →
    runs (.regWrite 0 m) s fun t => answers s.eng 0 0x11 m s.eng.pak.seq 7 0 [] t ∧ answeredOnly s.eng 0 m t)

/-- IMAGE_LOAD in HOLD, CALIBRATE and KENNEL takes the first part of an image into the slot that is not in use and drops that slot's
commit record, and is refused where a tile of it fails (R381); KEY_ENROLL writes a key and starts its session's number again, or gives the
engine's new key, REVOKE writes a key of zeros and closes the connection at the end of the cycle, and OWN gives a tenant its ports (R337,
R380); in the other modes KEY_ENROLL is answered MODE. -/
def Obligations.FlpStores : Prop :=
  (∀ (s : State) (m : HostMsg), flpTaken s 0 m → storeModes s.eng = true → 16 + 4096 ≤ m.payload.length → m.payload.length ≤ 16 + 61440 →
    (m.payload.length - 16) % 4096 = 0 → leAt m.payload 0 4 = 0 → leAt m.payload 8 4 = 0 → leAt m.payload 12 4 = 0 →
    leAt m.payload 4 4 % 4096 = 0 → leAt m.payload 4 4 ≤ 1023 * 4096 → m.payload.length - 16 < leAt m.payload 4 4 →
    runs (.imageLoad 0 m) s fun t =>
      (newTilesOk (wordsOf (m.payload.drop 16)) 0 = true →
        answers s.eng 0 0xD m s.eng.pak.seq 0 0 [] t ∧ t.nvm.load = some { next := m.payload.length - 16 }) ∧
      (newTilesOk (wordsOf (m.payload.drop 16)) 0 = false → answers s.eng 0 0xD m s.eng.pak.seq 11 0 [] t ∧ t.nvm.load = none) ∧
      slotOf t.nvm.img (!s.eng.nvm.imageSlot) = { tiles := wordsOf (m.payload.drop 16), commit := none } ∧
      slotOf t.nvm.img s.eng.nvm.imageSlot = slotOf s.eng.nvm.img s.eng.nvm.imageSlot ∧
      answeredOnly s.eng 0 m { t with nvm := { t.nvm with img := s.eng.nvm.img, load := s.eng.nvm.load } }) ∧
  (∀ (s : State) (m : HostMsg) (k : Fin 65), flpTaken s 0 m → storeModes s.eng = true → m.payload.length = 68 → leAt m.payload 0 1 = 0 →
    leAt m.payload 1 1 = k.val → leAt m.payload 2 2 = 0 →
    runs (.keyEnroll 0 m) s fun t =>
      answers s.eng 0 0xE m s.eng.pak.seq 0 0 [] t ∧ keyOf t ⟨k.val, by omega⟩ = wordsOf (m.payload.drop 4) ∧ (t.session k).lastSeq = 0 ∧
      (∀ j : Fin 66, j.val ≠ k.val → t.nvm.keys[j] = s.eng.nvm.keys[j]) ∧ (∀ j, j ≠ 0 → j ≠ k → t.session j = s.eng.session j) ∧
      t.regs = s.eng.regs ∧ t.rte = s.eng.rte ∧ t.mode = s.eng.mode) ∧
  (∀ (s : State) (m : HostMsg), flpTaken s 0 m → storeModes s.eng = true → m.payload.length = 68 → leAt m.payload 0 1 = 0 →
    leAt m.payload 1 1 = 255 → leAt m.payload 2 2 = 0 → (wordsOf (m.payload.drop 4)).any (· != 0) = false →
    runs (.keyEnroll 0 m) s fun t =>
      answers s.eng 0 0xE m s.eng.pak.seq 0 0 (wordBytes (keyOf t 65)) t ∧ keyOf t 65 = Config.freeKey s.eng.freeCtr ∧
      (∀ j : Fin 66, j ≠ 65 → t.nvm.keys[j] = s.eng.nvm.keys[j])) ∧
  (∀ (s : State) (m : HostMsg) (k : Fin 65), flpTaken s 0 m → storeModes s.eng = true → m.payload.length = 4 → leAt m.payload 0 1 = 1 →
    leAt m.payload 1 1 = k.val → k ≠ 0 → leAt m.payload 2 2 = 0 →
    runs (.keyRevoke 0 m) s fun t =>
      answers s.eng 0 0xE m s.eng.pak.seq 0 0 [] t ∧ keyOf t ⟨k.val, by omega⟩ = List.replicate 16 0 ∧
      t.fw.closing = s.eng.fw.closing ++ [k] ∧ (t.session k).tls = (s.eng.session k).tls ∧
      (∀ j : Fin 66, j.val ≠ k.val → t.nvm.keys[j] = s.eng.nvm.keys[j])) ∧
  (∀ (s : State) (k : Fin 65) (ceA ceB : Nat), s.eng.mode ≠ .reset → s.eng.pak.boundary + 25000 ≤ s.eng.tick → s.eng.pak.held = [] →
    s.eng.fw.closing = [k] → (s.eng.session k).tls = true →
    runs (.pakCycleBoundary ceA ceB) s fun t =>
      (t.session k).tls = false ∧ t.mgt.replies = s.eng.mgt.replies ++ [.closeNotify k.val] ∧ t.fw.closing = []) ∧
  (∀ (s : State) (m : HostMsg) (k : Fin 65), flpTaken s 0 m → storeModes s.eng = true → m.payload.length = 132 → leAt m.payload 0 1 = 2 →
    leAt m.payload 1 1 = k.val → k ≠ 0 → leAt m.payload 2 2 = 0 →
    (∀ i ∈ portMap m.payload 4 ++ portMap m.payload 68, i < s.eng.variant.ports) →
    (portMap m.payload 4).any (ownedByOther s.eng (k.val - 1) false) = false →
    (portMap m.payload 68).any (ownedByOther s.eng (k.val - 1) true) = false →
    ((portsOwned s.eng k.val false).any fun p => !(portMap m.payload 4).contains p && portUsed s.eng (k.val - 1) false p) = false →
    ((portsOwned s.eng k.val true).any fun p => !(portMap m.payload 68).contains p && portUsed s.eng (k.val - 1) true p) = false →
    runs (.keyOwn 0 m) s fun t =>
      answers s.eng 0 0xE m s.eng.pak.seq 0 0 [] t ∧
      (∃ key, t.nvm.keys[k.val] = some { key := key, inputs := portMap m.payload 4, outputs := portMap m.payload 68 }) ∧
      (∀ j : Fin 66, j.val ≠ k.val → t.nvm.keys[j] = s.eng.nvm.keys[j]) ∧ t.rte = s.eng.rte ∧ t.regs = s.eng.regs) ∧
  (∀ (s : State) (m : HostMsg) (k : Fin 65), flpTaken s 0 m → storeModes s.eng = false → m.payload.length = 68 → leAt m.payload 0 1 = 0 →
    leAt m.payload 1 1 = k.val → leAt m.payload 2 2 = 0 →
    runs (.keyEnroll 0 m) s fun t => answers s.eng 0 0xE m s.eng.pak.seq 7 0 [] t ∧ answeredOnly s.eng 0 m t)

/-- A connection starts one of at most eight handshakes (R329); one with an enrolled key and options of R328 opens its session, and closes
an older connection; any other is counted and alerted, and the sixteenth within one second reported (R328, R329, R345). A session without
a message for IDLE seconds is closed, never where IDLE is 0 (R329), a lost connection ends its subscription, and a DTLS association is
opened beside it (R330). The transmit queue takes a message of the ACTIVE member with a larger number and discards any other (R333), and
blocks one of another member (R303). The alert of an offer outside the options, and that it is counted, is the model's reading (log 73). -/
def Obligations.Sessions : Prop :=
  (∀ s : State, sessionsOpen s.eng = true → s.eng.mgt.handshakes < 8 →
    becomes .tcpConnect s { s.eng with mgt.handshakes := s.eng.mgt.handshakes + 1 }) ∧
  (∀ s : State, sessionsOpen s.eng = true → 8 ≤ s.eng.mgt.handshakes →
    becomes .tcpConnect s { s.eng with mgt.replies := s.eng.mgt.replies ++ [.tcpReset 7437] }) ∧
  (∀ (s : State) (h : Hello) (n : Fin 65), sessionsOpen s.eng = true → helloSupported h = true → engineKey s.eng = true →
    sessionOfKey s.eng h.key = some n → 0 < s.eng.mgt.handshakes →
    runs (.tlsHandshake h) s fun t =>
      t.session n = { s.eng.session n with tls := true, idleFrom := s.eng.tick } ∧ (∀ k, k ≠ n → t.session k = s.eng.session k) ∧
      t.mgt = { s.eng.mgt with handshakes := s.eng.mgt.handshakes - 1,
                               replies := if (s.eng.session n).tls then s.eng.mgt.replies ++ [.closeNotify n.val] else s.eng.mgt.replies } ∧
      t = { s.eng with mgt := t.mgt, fw := { s.eng.fw with sessions := t.fw.sessions } }) ∧
  (∀ (s : State) (h : Hello), sessionsOpen s.eng = true → 0 < s.eng.mgt.handshakes →
    (helloSupported h = false ∨ engineKey s.eng = false →
      runs (.tlsHandshake h) s (handshakeFails s.eng (s.eng.mgt.handshakes - 1) .handshakeFailure)) ∧
    (helloSupported h = true → engineKey s.eng = true → sessionOfKey s.eng h.key = none →
      runs (.tlsHandshake h) s (handshakeFails s.eng (s.eng.mgt.handshakes - 1) .certificateUnknown)) ∧
    runs .handshakeFail s (handshakeFails s.eng (s.eng.mgt.handshakes - 1) .certificateUnknown)) ∧
  (∀ (s : State) (n : Fin 65), mgtRuns s.eng = true → (s.eng.session n).tls = true → s.eng.rfld Reg.mgtCtl 8 8 ≠ 0 →
    (s.eng.session n).idleFrom + s.eng.rfld Reg.mgtCtl 8 8 * 250000000 ≤ s.eng.tick →
    becomes (.idleTimeout n) s { s.eng.setSession n { s.eng.session n with tls := false, streams := 0 } with
      mgt.replies := s.eng.mgt.replies ++ [.closeNotify n.val] }) ∧
  (∀ (s : State) (n : Fin 65), s.eng.rfld Reg.mgtCtl 8 8 = 0 → idles (.idleTimeout n) s) ∧
  (∀ (s : State) (n : Fin 65), mgtRuns s.eng = true → (s.eng.session n).tls = true →
    becomes (.lostConnection n) s (s.eng.setSession n { s.eng.session n with tls := false, streams := 0 })) ∧
  (∀ (s : State) (h : Hello) (n : Fin 65), sessionsOpen s.eng = true → helloSupported h = true → engineKey s.eng = true →
    sessionOfKey s.eng h.key = some n →
    becomes (.dtlsAssociation h) s (s.eng.setSession n { s.eng.session n with dtls := true })) ∧
  (∀ (s : State) (h : Hello), sessionsOpen s.eng = true → helloSupported h = true → engineKey s.eng = true →
    sessionOfKey s.eng h.key = none →
    runs (.dtlsAssociation h) s (handshakeFails s.eng s.eng.mgt.handshakes .certificateUnknown)) ∧
  (∀ (s : State) (sender : Bool) (n : Fin 65) (type flags : Byte) (seq : BitVec 64) (p : List Byte), may s (memberBus sender) →
    mgtRuns s.eng = true → (∀ l ∈ s.eng.mgt.txLast, l < seq.toNat) →
    applies (.txQueueOffer sender n type flags seq p) s fun e =>
      { e with mgt := { e.mgt with tx := e.mgt.tx ++ [offered sender n type flags seq p], txLast := some seq.toNat } }) ∧
  (∀ (s : State) (sender : Bool) (n : Fin 65) (type flags : Byte) (seq : BitVec 64) (p : List Byte) (l : Nat), may s (memberBus sender) →
    mgtRuns s.eng = true → s.eng.mgt.txLast = some l → seq.toNat ≤ l →
    applies (.txQueueOffer sender n type flags seq p) s fun e => e.putRbit Reg.mgtStat 1 true) ∧
  (∀ (s : State) (sender : Bool) (n : Fin 65) (type flags : Byte) (seq : BitVec 64) (p : List Byte), s.eng.mode ≠ .reset →
    s.eng.turn ≤ turnOf (memberBus sender) → s.eng.role sender ≠ .active → s.eng.pak.overlap = false →
    becomes (.txQueueOffer sender n type flags seq p) s (s.eng.putRbit Reg.pakStat 13 true))

/-- The end of a submitted command is read from SCH_OUT, kept in its session's result record and sent as OUTCOME, and so is that of a
CAL_REQ (R236, R338, R340); a delivery to NOTE_t is forwarded to its tenant and frees the input (R272, R338); waiting FAULT and MODE
notifications are sent, and LEDGER with the ring's last number, its count and LEDGER_OVF; every PERIOD_MS the telemetry streams subscribed
to are sent over DTLS, in messages of 1,200 bytes at the most, with MORE on all but the last (R330, R338). -/
def Obligations.Notifications : Prop :=
  (∀ (s : State) (w ns : Word) (e : Submitted) (n : Fin 65), sessionsOpen s.eng = true → firmwareRuns s →
    s.eng.sch.outs = [(w, e.engineSeq, ns)] → s.eng.fw.submitted = [e] → e.session = n.val → (s.eng.session n).tls = true →
    (∀ k, (s.eng.session k).notes = []) → s.eng.fw.calAsks = [] → (∀ l ∈ s.eng.mgt.txLast, l < s.eng.pak.seq) →
    runs .outcomeNotify s fun t =>
      notifies s.eng n 0x40 2
        (outcomeBytes e.hostSeq (fld w 24 4) (fld w 16 4) (if ns.toNat ≤ s.eng.nowSubNs then s.eng.nowSec else s.eng.nowSec - 1) ns.toNat) false t ∧
      t.session n = { s.eng.session n with result := { reported340 e w ns s.eng with fresh := true } } ∧
      (∀ k, k ≠ n → t.session k = s.eng.session k) ∧ t.fw.submitted = [] ∧ t.sch.outs = [] ∧ t.nvm = s.eng.nvm ∧
      firmwareOnly s.eng { t with sch.outs := s.eng.sch.outs, fw.submitted := s.eng.fw.submitted }) ∧
  (∀ (s : State) (a : CalAsk) (o sec ns : Nat), sessionsOpen s.eng = true → firmwareRuns s → s.eng.sch.outs = [] →
    s.eng.fw.calAsks = [a] → a.ended = some (o, sec, ns) → (s.eng.session 0).tls = true → (∀ k, (s.eng.session k).notes = []) →
    (∀ l ∈ s.eng.mgt.txLast, l < s.eng.pak.seq) →
    runs .outcomeNotify s fun t =>
      notifies s.eng 0 0x40 2 (outcomeBytes a.hostSeq (16 + o) 0 sec ns) false t ∧ t.fw.calAsks = [] ∧
      (∀ k, t.session k = s.eng.session k) ∧ t.nvm = s.eng.nvm ∧ firmwareOnly s.eng { t with fw.calAsks := s.eng.fw.calAsks }) ∧
  (∀ (s : State) (u : Fin 64) (c sec ns : Nat), sessionsOpen s.eng = true → firmwareRuns s →
    pendingNote s.eng = some u.val → s.eng.evt.notes = [(u.val, c, sec, ns)] → (s.eng.session ⟨u.val + 1, by omega⟩).tls = true →
    (s.eng.session ⟨u.val + 1, by omega⟩).streams.testBit 0 = true → (∀ k, (s.eng.session k).notes = []) →
    (∀ l ∈ s.eng.mgt.txLast, l < s.eng.pak.seq) →
    runs .noteNotify s fun t =>
      notifies s.eng ⟨u.val + 1, by omega⟩ 0x41 2 (leBytes 4 c ++ timeBytes sec ns) false t ∧ (∀ k, t.session k = s.eng.session k) ∧
      t.reg (if u.val < 32 then Reg.evtNotePendLo else Reg.evtNotePendHi) =
        s.eng.reg (if u.val < 32 then Reg.evtNotePendLo else Reg.evtNotePendHi) &&& ~~~(word (2 ^ (u.val % 32))) ∧
      regsBut [if u.val < 32 then Reg.evtNotePendLo else Reg.evtNotePendHi] s.eng t ∧ t.nvm = s.eng.nvm ∧
      t.evt = { s.eng.evt with cleared := t.evt.cleared } ∧ firmwareOnly s.eng { t with regs := s.eng.regs, evt := s.eng.evt }) ∧
  (∀ (s : State) (n : Fin 65) (p : List Byte), sessionsOpen s.eng = true → firmwareRuns s →
    (s.eng.session n).tls = true → (∀ k, k ≠ n → (s.eng.session k).notes = []) →
    (∀ l ∈ s.eng.mgt.txLast, l < s.eng.pak.seq) →
    ((s.eng.session n).notes = [{ type := 0x42, payload := p }] →
      runs .faultNotify s fun t => notifies s.eng n 0x42 2 p false t ∧ t.session n = { s.eng.session n with notes := [] } ∧
        t.nvm = s.eng.nvm ∧ firmwareOnly s.eng t) ∧
    ((s.eng.session n).notes = [{ type := 0x44, payload := p }] →
      runs .modeNotify s fun t => notifies s.eng n 0x44 2 p false t ∧ t.session n = { s.eng.session n with notes := [] } ∧
        t.nvm = s.eng.nvm ∧ firmwareOnly s.eng t)) ∧
  (∀ (s : State) (n : Fin 65), sessionsOpen s.eng = true → firmwareRuns s → s.eng.fw.ledgerDue = true →
    (s.eng.session n).tls = true → (s.eng.session n).streams.testBit 2 = true → (∀ k, k ≠ n → (s.eng.session k).streams.testBit 2 = false) →
    (∀ k, (s.eng.session k).notes = []) → (∀ l ∈ s.eng.mgt.txLast, l < s.eng.pak.seq) →
    runs .ledgerNotify s fun t =>
      notifies s.eng n 0x43 2 (leBytes 4 ((s.eng.fw.ringNext + 2 ^ 32 - 1) % 2 ^ 32) ++ leBytes 4 s.eng.fw.ring.length ++
        leBytes 4 (if s.eng.rbit Reg.timLedStat 16 then 1 else 0)) false t ∧
      t.fw.ledgerDue = false ∧ (∀ k, t.session k = s.eng.session k) ∧ t.nvm = s.eng.nvm ∧
      firmwareOnly s.eng { t with fw.ledgerDue := s.eng.fw.ledgerDue }) ∧
  (∀ (s : State) (n : Fin 65), sessionsOpen s.eng = true → firmwareRuns s → (s.eng.session n).tls = true →
    (s.eng.session n).dtls = true → (s.eng.session n).telemetryAt + (s.eng.session n).period * 250000 ≤ s.eng.tick →
    (∀ l ∈ s.eng.mgt.txLast, l < s.eng.pak.seq) →
    ((s.eng.session n).streams.testBit 4 = false → (s.eng.session n).streams.testBit 5 = true →
      runs (.telemetryPeriod n) s fun t =>
        notifies s.eng n 0x61 0 (wordBytes ([Reg.sysMode, Reg.thmTj, Reg.pwrTotal, Reg.pwrAllotEff, Reg.pwrEbktLevel, Reg.timStat,
          Reg.pakRole, Reg.calStat].map (peek s.eng windowBus))) true t ∧
        t.session n = { s.eng.session n with telemetryAt := s.eng.tick } ∧ t.nvm = s.eng.nvm ∧ firmwareOnly s.eng t) ∧
    (∀ ports, ports = ((List.range s.eng.variant.ports).filter fun p =>
        n == 0 || ownsPort s.eng (n.val - 1) false p || ownsPort s.eng (n.val - 1) true p) →
      1 ≤ ports.length → s.eng.pak.seq + ports.length < 2 ^ 64 → (s.eng.session n).streams.testBit 4 = true →
      (s.eng.session n).streams.testBit 5 = false →
      runs (.telemetryPeriod n) s fun t =>
        t.session n = { s.eng.session n with telemetryAt := s.eng.tick } ∧ t.nvm = s.eng.nvm ∧
        firmwareOnly s.eng { t with freeCtr := s.eng.freeCtr } ∧
        ∃ ms, t.mgt.tx = s.eng.mgt.tx ++ ms ∧
          ms.flatMap Msg.payload = (portRecords (fun o p => n == 0 || ownsPort s.eng (n.val - 1) o p) ports s.eng).1.flatten ∧
          (∀ m ∈ ms, m.type = 0x60 ∧ m.session = n.val ∧ m.dtls = true ∧ m.bytes.length ≤ 1200) ∧
          ms.map Msg.flags = List.replicate (ms.length - 1) 4 ++ [0]))

/-- The link comes up where it may, goes down, and 1 s later is reported (R324, R343, R345); a change of the PHY mode takes it down
(R344). MDIO runs one transaction at a time (R325). ARP and echo requests for MGT_IP are answered, a segment to a closed port is reset, a
datagram counted, and an oversize or damaged frame dropped and counted (R324, R326). PTP event messages, peer-to-peer ones and in unicast
those of other sources apart, reach firmware with their stamps (R246, R327), and a departing Delay_Req leaves its stamp, whose read ends
its VALID (R327). -/
def Obligations.ManagementPort : Prop :=
  (∀ s : State, linkAllowed s.eng = true → becomes .linkUp s { s.eng with mgt := { s.eng.mgt with link := true, downSince := none } }) ∧
  (∀ s : State, s.eng.mode = .load → s.eng.reg Reg.mgtIp = 0 → idles .linkUp s) ∧
  (∀ s : State, mgtRuns s.eng = true → s.eng.mgt.link = true →
    becomes .linkDown s { s.eng with mgt := { s.eng.mgt with link := false, downSince := some s.eng.tick } }) ∧
  (∀ (s : State) (n : Nat), mgtRuns s.eng = true → s.eng.mgt.downSince = some n → n + 250000000 ≤ s.eng.tick →
    becomes .mgtLinkDown s ({ s.eng with mgt.downSince := none }.raise 112 0)) ∧
  (∀ (s : State) (n : Nat), s.eng.mgt.downSince = some n → s.eng.tick < n + 250000000 → idles .mgtLinkDown s) ∧
  (∀ (s : State) (b : Bus) (v : Word), may s b → mgtRuns s.eng = true →
    (bit v 0 ≠ s.eng.rbit Reg.mgtPhyCtl 0 → s.eng.mgt.link = true →
      applies (.phyModeWrite b v) s fun e =>
        { e.setReg Reg.mgtPhyCtl (v &&& 1) with mgt := { e.mgt with link := false, downSince := some e.tick } }) ∧
    (bit v 0 = s.eng.rbit Reg.mgtPhyCtl 0 ∨ s.eng.mgt.link = false →
      applies (.phyModeWrite b v) s fun e => e.setReg Reg.mgtPhyCtl (v &&& 1))) ∧
  (∀ (s : State) (b : Bus) (v : Word), may s b → s.eng.mgt.mdio = none →
    applies (.mdioStart b v) s fun e => { e.setReg Reg.mgtMdio (v &&& 0x43FFFFFF#32) with mgt := { e.mgt with
      mdio := some e.tick, replies := e.mgt.replies ++ [.mdio (bit v 30) (fld v 21 5) (fld v 16 5) (halfLo v)] } }) ∧
  (∀ (s : State) (b : Bus) (v : Word), may s b → s.eng.mgt.mdio.isSome = true →
    applies (.mdioStart b v) s fun e => e.putRbit Reg.mgtStat 2 true) ∧
  (∀ (s : State) (d : Half), s.eng.mgt.mdio.isSome = true →
    (s.eng.rbit Reg.mgtMdio 30 = false → becomes (.mdioComplete d) s ({ s.eng with mgt.mdio := none }.putRfld Reg.mgtMdio 0 16 d.toNat)) ∧
    (s.eng.rbit Reg.mgtMdio 30 = true → becomes (.mdioComplete d) s { s.eng with mgt.mdio := none })) ∧
  (∀ (s : State) (ip : Word) (d : List Byte), mgtUp s.eng = true → ip = s.eng.reg Reg.mgtIp →
    becomes (.arpRequest ip) s { s.eng with mgt.replies := s.eng.mgt.replies ++ [.arpReply] } ∧
    (frameBytes (8 + d.length) ≤ 1522 →
      becomes (.icmpEcho ip d) s { s.eng with mgt.replies := s.eng.mgt.replies ++ [.echoReply d] }) ∧
    (1522 < frameBytes (8 + d.length) → s.eng.rfld Reg.mgtCnt 16 16 < 65535 →
      becomes (.icmpEcho ip d) s (s.eng.putRfld Reg.mgtCnt 16 16 (s.eng.rfld Reg.mgtCnt 16 16 + 1)))) ∧
  (∀ (s : State) (ip : Word) (d : List Byte), ip ≠ s.eng.reg Reg.mgtIp → idles (.arpRequest ip) s ∧ idles (.icmpEcho ip d) s) ∧
  (∀ (s : State) (p : Half), mgtUp s.eng = true → p.toNat ≠ 7437 →
    becomes (.closedPortFrame true p) s { s.eng with mgt.replies := s.eng.mgt.replies ++ [.tcpReset p.toNat] }) ∧
  (∀ (s : State) (p : Half), mgtUp s.eng = true → p.toNat ≠ 7438 → p.toNat ≠ 319 → p.toNat ≠ 320 → s.eng.rfld Reg.mgtCnt 16 16 < 65535 →
    becomes (.closedPortFrame false p) s (s.eng.putRfld Reg.mgtCnt 16 16 (s.eng.rfld Reg.mgtCnt 16 16 + 1))) ∧
  (∀ (s : State) (k : FrameFault) (n : Nat), mgtUp s.eng = true → k = .badFcs ∨ k = .oversize n ∧ 1522 < n →
    s.eng.rfld Reg.mgtCnt 16 16 < 65535 →
    becomes (.frameDrop k) s (s.eng.putRfld Reg.mgtCnt 16 16 (s.eng.rfld Reg.mgtCnt 16 16 + 1))) ∧
  (∀ s : State, idles (.frameDrop .pause) s) ∧
  (∀ (s : State) (frame : List Byte) (source : Word) (k : Fin 256) (best : Bool), mgtUp s.eng = true →
    frameBytes (8 + frame.length) ≤ 1522 → isPeerDelay frame = false →
    s.eng.rbit Reg.timPtpCfg 8 = false ∨ source = s.eng.reg Reg.timPtpMaster →
    becomes (.ptpEventReceive frame source k best) s { s.eng with
      mgt.ptpIn := s.eng.mgt.ptpIn ++ [(frame, stampWords ((asyncStamp s.eng k : Int) - asym s.eng Reg.timAsymMgtRx))],
      tim.lastSync := if fromMaster source best s.eng && isSync s.eng frame then some (s.eng.elapsed, syncInterval frame)
        else s.eng.tim.lastSync }) ∧
  (∀ (s : State) (frame : List Byte) (source : Word) (k : Fin 256) (best : Bool), frameBytes (8 + frame.length) ≤ 1522 →
    isPeerDelay frame = true ∨ s.eng.rbit Reg.timPtpCfg 8 = true ∧ source ≠ s.eng.reg Reg.timPtpMaster →
    idles (.ptpEventReceive frame source k best) s) ∧
  (∀ (s : State) (q : Half) (k : Fin 256), mgtUp s.eng = true →
    runs (.delayReqTx q k) s fun t =>
      t.reg Reg.mgtPtpTxSeq = putBit (word q.toNat) 31 true ∧
      [t.reg Reg.mgtPtpTxSecLo, t.reg Reg.mgtPtpTxSecHi, t.reg Reg.mgtPtpTxNs, t.reg Reg.mgtPtpTxFrac] =
        stampWords ((asyncStamp s.eng k : Int) + asym s.eng Reg.timAsymMgtTx) ∧
      t.rbit Reg.mgtStat 3 = (s.eng.rbit Reg.mgtStat 3 || s.eng.rbit Reg.mgtPtpTxSeq 31) ∧
      regsBut [Reg.mgtPtpTxSeq, Reg.mgtPtpTxSecLo, Reg.mgtPtpTxSecHi, Reg.mgtPtpTxNs, Reg.mgtPtpTxFrac, Reg.mgtStat] s.eng t ∧
      t = { s.eng with regs := t.regs }) ∧
  (∀ (s : State) (b : Bus), may s b →
    enters (.ptpTxStampRead b) s fun e t =>
      lastRead t b = s.eng.reg Reg.mgtPtpTxSecLo ∧ get0 t.latch (latchKey b.master Reg.mgtPtpTxSecHi) = s.eng.reg Reg.mgtPtpTxSecHi ∧
      t.reg Reg.mgtPtpTxSeq = putBit (s.eng.reg Reg.mgtPtpTxSeq) 31 false ∧ regsBut [Reg.mgtPtpTxSeq] s.eng t ∧
      t = { e with regs := t.regs, latch := t.latch, rdata := t.rdata })

/-- A read of a result register returns it and clears FRESH (R339). A read of the low half of a pair latches its high half for its master,
and the read of the high half returns what is latched (R341); a write of a high half applies both (R341). A word access stores the RW
fields of a register and clears the W1C fields whose bits are ones (R15); a read-only register takes none. An access of a member that is
not ACTIVE is blocked (R303); one that nothing decodes is a bus error of its master (R401); a member writes its own SRAM in any role
(R303, R402). An access that finds the cycle's log full waits for the next cycle (R306), and one that a replay matches never leaves its
member (R313). -/
def Obligations.RegisterAccess : Prop :=
  (∀ (s : State) (b : Bus) (r : ResultReg), may s b →
    enters (.resultRead b r) s fun e t =>
      lastRead t b = s.eng.reg (resultRegAddr r) ∧ t.reg (resultRegAddr r) = putBit (s.eng.reg (resultRegAddr r)) 30 false ∧
      regsBut [resultRegAddr r] s.eng t ∧ t = { e with regs := t.regs, rdata := t.rdata }) ∧
  (∀ (s : State) (b : Bus) (a : Nat), may s b → a ∈ plainPairs →
    enters (.splitLowRead b (word a)) s fun e t =>
      lastRead t b = s.eng.reg a ∧ get0 t.latch (latchKey b.master (a + 4)) = s.eng.reg (a + 4) ∧
      (∀ x, x ≠ latchKey b.master (a + 4) → get0 t.latch x = get0 e.latch x) ∧ t = { e with rdata := t.rdata, latch := t.latch }) ∧
  (∀ (s : State) (b : Bus) (a : Nat), may s b → a ∈ plainPairs →
    enters (.splitLowRead b (word (a + 4))) s fun e t =>
      lastRead t b = get0 s.eng.latch (latchKey b.master (a + 4)) ∧ t = { e with rdata := t.rdata }) ∧
  (∀ (s : State) (b : Bus) (a : Word), may s b → decoded a.toNat = true → a.toNat % 4 = 0 →
    runs (.splitLowRead b a) s fun t => lastRead t b = readValue (readBy (.splitLowRead b a) s b) b a.toNat) ∧
  (∀ (s : State) (b : Bus) (v : Word), may s b →
    enters (.splitHighWrite b (word Reg.timSetSecHi) v) s fun e t =>
      t.reg Reg.timSetSecHi = v ∧ t.reg Reg.timSetSecLo = s.eng.heldLow Reg.timSetSecLo ∧
      regsBut [Reg.timSetSecLo, Reg.timSetSecHi] s.eng t ∧ t = { e with regs := t.regs, latch := t.latch }) ∧
  (∀ (s : State) (b : Bus) (v : Word), may s b →
    enters (.registerWrite b .word (word Reg.timSetSecLo) v) s fun e t =>
      t.heldLow Reg.timSetSecLo = v ∧ t = { e with latch := t.latch }) ∧
  (∀ (s : State) (b : Bus) (p : Nat × Word) (v : Word), may s b → p ∈ storedRegs →
    enters (.registerWrite b .word (word p.1) v) s fun e t =>
      (∀ i < 32, t.rbit p.1 i = if bit p.2 i then bit v i else s.eng.rbit p.1 i) ∧ regsBut [p.1] s.eng t ∧ t = { e with regs := t.regs }) ∧
  (∀ (s : State) (b : Bus) (p : Nat × Word) (v : Word), may s b → p ∈ clearedRegs →
    enters (.registerWrite b .word (word p.1) v) s fun e t =>
      (∀ i < 32, t.rbit p.1 i = (s.eng.rbit p.1 i && !(bit p.2 i && bit v i))) ∧ regsBut [p.1] s.eng t ∧
      t = { e with regs := t.regs, evt := { e.evt with cleared := t.evt.cleared } }) ∧
  (∀ (s : State) (b : Bus) (v : Word), may s b → applies (.registerWrite b .word (word Reg.sysId) v) s id) ∧
  (∀ (s : State) (b : Bus) (v : Word) (m : Bool), s.eng.mode ≠ .reset → b.master = (if m then .memberB else .memberA) →
    s.eng.turn ≤ turnOf b → s.eng.role m ≠ .active → s.eng.pak.overlap = false →
    becomes (.registerWrite b .word (word Reg.schGuard) v) s (s.eng.putRbit Reg.pakStat 13 true)) ∧
  (∀ (s : State) (b : Bus) (w : Width) (a v : Word), may s b → inRom a.toNat = false → inSram a.toNat = false →
    decoded a.toNat = false ∨ w ≠ .word ∨ a.toNat % 4 ≠ 0 →
    applies (.registerWrite b w a v) s fun e => e.raiseBy b 3 a.toNat 2) ∧
  (∀ (s : State) (m sec : Bool) (a v : Word), s.eng.mode ≠ .reset → s.eng.turn ≤ (if m then 1 else 0) → inSram a.toNat = true →
    a.toNat % 4 = 0 →
    runs (.registerWrite { master := if m then .memberB else .memberA, secure := sec } .word a v) s fun t =>
      get0 (t.member m).sram a.toNat = v ∧ (∀ x, x ≠ a.toNat → get0 (t.member m).sram x = get0 (s.eng.member m).sram x) ∧
      t.member m = { s.eng.member m with sram := (t.member m).sram } ∧ t.member (!m) = s.eng.member (!m) ∧
      t = { s.eng with pak := { s.eng.pak with a := t.pak.a, b := t.pak.b } }) ∧
  (∀ (s : State) (b : Bus) (v : Word), s.eng.mode ≠ .reset → s.eng.reaches b = true → s.eng.turn ≤ turnOf b → s.eng.pak.replay = none →
    4096 ≤ s.eng.log.length →
    becomes (.registerWrite b .word (word Reg.schGuard) v) s
      ({ s.eng with pak.held := s.eng.pak.held ++ [Instr.registerWrite b .word (word Reg.schGuard) v] }.putRbit Reg.pakStat 15 true)) ∧
  (∀ (s : State) (b : Bus) (v : Word) (l : List LogEntry), s.eng.mode ≠ .reset → s.eng.reaches b = true → b.master ≠ .flp →
    s.eng.turn ≤ turnOf b → s.eng.pak.replay = some (.write .word Reg.schGuard v :: l) →
    becomes (.registerWrite b .word (word Reg.schGuard) v) s { s.eng with pak.replay := some l })

/-- A report that the collector hears sets its sticky bit and emits FAULT where no bit was set on the edge before (R348); it is captured
in the modes that capture, where no record is held (R349, R350), and merged where one is (R356). Its reaction follows on the next edge:
NMI (R353), a block reset with its shadow (R352, R357), or a chip reset (R355), entered at the latest 1,024 edges later. A fourth block
reset within one second is replaced by FLT_ESCALATE (R358). Of two sources on one edge the lower is captured and the other merged, and a
chip reset proceeds alone (R359); an edge is sampled once, so what is found after its sampling waits (the model's choice, log 3). A report
that depends on a block within its shadow is consequential (R357); a broken pair is not heard (R347). -/
def Obligations.FaultReporting : Prop :=
  (∀ (s : State) (r : Report), reportsOne s r → actionOf s.eng r.source.val ≤ 1 → capturing s.eng = false →
    s.eng.rbit Reg.fltCapStat 31 = false →
    runs (.faultReport [] []) s fun t =>
      t.reg (stickyWord r.source.val) = putBit (s.eng.reg (stickyWord r.source.val)) (r.source.val % 32) true ∧
      events t = (if s.eng.flt.quiet then events s.eng ++ [0xB0] else events s.eng) ∧ regsBut [stickyWord r.source.val] s.eng t ∧
      t.flt = { s.eng.flt with waiting := [], sampled := s.eng.tick, inReport := [r.source] } ∧
      t.evt = { s.eng.evt with emitted := t.evt.emitted } ∧
      t = { s.eng with regs := t.regs, flt := t.flt, evt := t.evt, fw := { s.eng.fw with sessions := t.fw.sessions } }) ∧
  (∀ (s : State) (r : Report), reportsOne s r → actionOf s.eng r.source.val ≤ 1 → capturing s.eng = true →
    s.eng.rbit Reg.fltCapStat 31 = false →
    runs (.faultReport [] []) s fun t =>
      t.rbit (stickyWord r.source.val) (r.source.val % 32) = true ∧ t.rbit Reg.fltCapStat 31 = true ∧
      t.rfld Reg.fltCapStat 0 7 = r.source.val ∧ t.rfld Reg.fltCapStat 16 8 = 0 ∧ t.reg Reg.fltCapAddr = r.locus &&& locusMask r.source.val ∧
      (accessLocus r.source.val = true →
        t.rfld Reg.fltCapInfo 0 2 = r.access.val ∧ t.rfld Reg.fltCapInfo 4 4 = r.master.val ∧
        (r.master.val ∈ [1, 2, 4] → t.rfld Reg.fltCapInfo 8 8 = r.index.toNat)) ∧
      (accessLocus r.source.val = false → t.reg Reg.fltCapInfo = 0) ∧
      t.reg Reg.fltCapSecLo = word s.eng.nowSec ∧ t.reg Reg.fltCapSecHi = word (s.eng.nowSec / 2 ^ 32) ∧
      t.reg Reg.fltCapNs = word s.eng.nowSubNs ∧
      regsBut [stickyWord r.source.val, Reg.fltCapStat, Reg.fltCapInfo, Reg.fltCapAddr, Reg.fltCapSecLo, Reg.fltCapSecHi, Reg.fltCapNs]
        s.eng t ∧ t.due = s.eng.due ∧
      t.flt.log = s.eng.flt.log ++ [{ sec := s.eng.nowSec, ns := s.eng.nowSubNs, stat := t.reg Reg.fltCapStat,
                                      info := t.reg Reg.fltCapInfo, addr := t.reg Reg.fltCapAddr }]) ∧
  (∀ (s : State) (r : Report), reportsOne s r → actionOf s.eng r.source.val ≤ 1 → s.eng.rbit Reg.fltCapStat 31 = true →
    s.eng.rfld Reg.fltCapStat 16 8 < 255 →
    runs (.faultReport [] []) s fun t =>
      t.reg Reg.fltCapStat = putFld (s.eng.reg Reg.fltCapStat) 16 8 (s.eng.rfld Reg.fltCapStat 16 8 + 1) ∧
      t.rbit (stickyWord r.source.val) (r.source.val % 32) = true ∧ regsBut [stickyWord r.source.val, Reg.fltCapStat] s.eng t ∧
      t.flt.log = s.eng.flt.log) ∧
  (∀ (s : State) (r : Report), reportsOne s r →
    (actionOf s.eng r.source.val = 2 ∨ actionOf s.eng r.source.val = 3 →
      runs (.faultReport [] []) s fun t => t.due = s.eng.due ++ [.react r] ∧ t.mode = s.eng.mode ∧ t.flt.resets = s.eng.flt.resets) ∧
    (actionOf s.eng r.source.val = 4 →
      runs (.faultReport [] []) s fun t => t.due = s.eng.due ++ [.chip r.source] ∧ t.mode = s.eng.mode ∧ t.flt.chip = s.eng.flt.chip)) ∧
  (∀ (s : State) (r : Report), s.eng.mode ≠ .reset → s.eng.due = [.react r] → s.eng.flt.chip = none →
    (actionOf s.eng r.source.val = 2 → s.eng.rbit Reg.fltStat 1 = false → s.eng.activeMember.isSome = true →
      (nextEdge s.eng).rbit Reg.fltStat 1 = true ∧ (nextEdge s.eng).flt.nmiCount = s.eng.flt.nmiCount + 1) ∧
    (actionOf s.eng r.source.val = 3 → r.source.val = 105 → s.eng.rbit Reg.fltCtl 1 = false → s.eng.flt.resets = [] →
      s.eng.flt.shadows = [] →
      (nextEdge s.eng).flt.resets = [{ block := .nvm, release := s.eng.tick + 16 }] ∧
      (nextEdge s.eng).flt.shadows = [(.nvm, s.eng.tick + 250001)] ∧ (nextEdge s.eng).nvm.op = none ∧
      (nextEdge s.eng).nvm.raw = s.eng.nvm.raw ∧ (nextEdge s.eng).mode = s.eng.mode)) ∧
  (∀ (s : State) (r : Report) (t₁ t₂ t₃ : Nat), s.eng.mode ≠ .reset → s.eng.due = [.react r] → s.eng.flt.chip = none →
    actionOf s.eng r.source.val = 3 → historyOf s.eng (blockOf r) = [t₁, t₂, t₃] → t₃ ≤ t₂ → t₂ ≤ t₁ → t₁ ≤ s.eng.tick →
    (s.eng.rbit Reg.fltCtl 1 = true → s.eng.tick + 1 < t₃ + 250000000 →
      reports (nextEdge s.eng) = reports s.eng ++ [(127, word r.source.val)] ∧ (nextEdge s.eng).flt.resets = s.eng.flt.resets ∧
      (nextEdge s.eng).flt.history = s.eng.flt.history) ∧
    (s.eng.rbit Reg.fltCtl 1 = false ∨ t₃ + 250000000 ≤ s.eng.tick + 1 →
      ((reports (nextEdge s.eng)).filter fun x => x.1 == 127) = ((reports s.eng).filter fun x => x.1 == 127) ∧
      historyOf (nextEdge s.eng) (blockOf r) = [s.eng.tick + 1, t₁, t₂] ∧
      ∃ x ∈ (nextEdge s.eng).flt.resets, x.block = blockOf r ∧ x.release = s.eng.tick + 16)) ∧
  (∀ (s : State) (i : Fin 128), s.eng.mode ≠ .reset → s.eng.due = [.chip i] → s.eng.flt.chip = none →
    (nextEdge s.eng).flt.chip = some { source := i, asked := s.eng.tick + 1, recorded := none } ∧ (nextEdge s.eng).mode = s.eng.mode) ∧
  (∀ (s : State) (c : ChipReset), s.eng.mode ≠ .reset → s.eng.due = [] → s.eng.flt.chip = some c → c.asked + 1024 ≤ s.eng.tick + 1 →
    (nextEdge s.eng).mode = .reset ∧ (nextEdge s.eng).reg Reg.sysResetCause = word (2 + c.source.val * 2 ^ 16)) ∧
  (∀ (s : State) (i j : Fin 128) (a b : Word), s.eng.mode ≠ .reset → i.val < j.val → s.eng.flt.sampled + 1 < s.eng.tick →
    (∀ n ∈ [i, j], sourceDefined n.val = true ∧ wireBroken s.eng n.val = false) → s.eng.flt.shadows = [] → s.eng.flt.conseqHeld = [] →
    capturing s.eng = true → s.eng.rbit Reg.fltCapStat 31 = false →
    s.eng.flt.waiting = [{ source := j, locus := b, master := 0, access := 0, index := 0 },
                         { source := i, locus := a, master := 0, access := 0, index := 0 }] →
    runs (.faultReport [] []) s fun t =>
      t.rfld Reg.fltCapStat 0 7 = i.val ∧ t.rfld Reg.fltCapStat 16 8 = 1 ∧ t.reg Reg.fltCapAddr = a &&& locusMask i.val ∧
      t.rbit (stickyWord i.val) (i.val % 32) = true ∧ t.rbit (stickyWord j.val) (j.val % 32) = true ∧
      (actionOf s.eng j.val = 4 → actionOf s.eng i.val ≠ 4 → t.due = s.eng.due ++ [.chip j])) ∧
  (∀ (s : State) (found held : List Report), s.eng.mode ≠ .reset → s.eng.flt.sampled = s.eng.tick →
    (∀ r ∈ found, r.source ≠ 50 ∧ r.source ≠ 66) →
    becomes (.faultReport found held) s { s.eng with flt.waiting := s.eng.flt.waiting ++ found }) ∧
  (∀ (s : State) (r : Report), s.eng.mode ≠ .reset → s.eng.flt.waiting = [r] → wireBroken s.eng r.source.val = true →
    s.eng.flt.sampled ≠ s.eng.tick →
    runs (.faultReport [] []) s fun t =>
      t.flt.waiting = [] ∧ t.flt.log = s.eng.flt.log ∧ t.flt.resets = s.eng.flt.resets ∧ t.flt.chip = s.eng.flt.chip ∧
      t = { s.eng with flt := t.flt }) ∧
  (∀ (s : State) (r : Report), s.eng.mode ≠ .reset → s.eng.flt.waiting = [r] → sourceDefined r.source.val = true →
    wireBroken s.eng r.source.val = false → consequential s.eng r = true → s.eng.rfld Reg.fltConseqCnt 0 16 < 65535 →
    s.eng.flt.sampled + 1 < s.eng.tick → s.eng.flt.conseqHeld = [] →
    runs (.faultReport [] []) s fun t =>
      t.reg (Reg.fltConseq (r.source.val / 32)) = putBit (s.eng.reg (Reg.fltConseq (r.source.val / 32))) (r.source.val % 32) true ∧
      t.reg Reg.fltConseqCnt = putFld (s.eng.reg Reg.fltConseqCnt) 0 16 (s.eng.rfld Reg.fltConseqCnt 0 16 + 1) ∧
      regsBut [Reg.fltConseq (r.source.val / 32), Reg.fltConseqCnt] s.eng t ∧
      t.flt = { s.eng.flt with waiting := [], sampled := s.eng.tick, inReport := [r.source], conseqHeld := [r.source] } ∧
      t = { s.eng with regs := t.regs, flt := t.flt })

/-- Block resets are released and shadows and the capture window close at their edges (R349, R352, R357); a captured record is written to
the fault log, and so is that of a chip reset with the consequential map (R350, R379); a chip reset whose record is written enters RESET
with its source as cause (R355, R386); a pair whose rails agree is marked and reported, and one restored unmarked (R347); FLT_INJECT
reports its source on the next edge where a test is allowed (R360); NMI_DONE and ERR_RELEASE end the line's assertion (R353), a pending
NMI follows on the next edge (R354), FLT_REACT is written by the secure state within its limits (R351), and VALID of the capture is
cleared (R356). R347: a pair whose rails are equal on two sampling edges sets its bit in FLT_WIRE_MAP and raises FLT_WIRE, with the
lowest-numbered broken source as its locus; while it is broken nothing it carries is a report; the bit clears once the rails have been
opposite, and FLT_WIRE stays sticky. -/
def Obligations.FaultControl : Prop :=
  (∀ s : State, becomes .blockResetRelease s { s.eng with flt.resets := s.eng.flt.resets.filter fun x => s.eng.tick < x.release } ∧
    becomes .shadowClose s { s.eng with flt.shadows := s.eng.flt.shadows.filter fun p => s.eng.tick < p.2 }) ∧
  (∀ (s : State) (n : Nat), s.eng.flt.captureEnd = some n →
    (n ≤ s.eng.tick → becomes .captureWindowEnd s { s.eng with flt.captureEnd := none }) ∧
    (s.eng.tick < n → idles .captureWindowEnd s)) ∧
  (∀ (s : State) (l : LogRecord), s.eng.mode ≠ .reset → s.eng.nvm.op = none → shutdownWaits s.eng = false → s.eng.flt.chip = none →
    s.eng.flt.log = [l] → s.eng.flt.resets = [] →
    runs .faultLogRecord s fun t =>
      flogged s.eng 0 l t ∧ (∀ w < 4, get0 t.nvm.raw (flogWord ((t.nvm.flogCount + 2047) % 2048) + 11 + w) = 0) ∧
      t.flt = { s.eng.flt with log := [] }) ∧
  (∀ (s : State) (c : ChipReset), s.eng.mode ≠ .reset → s.eng.nvm.op = none → shutdownWaits s.eng = false → s.eng.flt.chip = some c →
    c.recorded = none →
    runs .faultLogRecord s fun t =>
      flogged s.eng 1 (heldCapture s.eng) t ∧
      (∀ w < 4, get0 t.nvm.raw (flogWord ((t.nvm.flogCount + 2047) % 2048) + 11 + w) = s.eng.reg (Reg.fltConseq w)) ∧
      t.flt = { s.eng.flt with chip := some { c with recorded := some s.eng.tick } }) ∧
  (∀ (s : State) (c : ChipReset) (n : Nat), s.eng.flt.chip = some c → c.recorded = some n → n < s.eng.tick →
    runs .chipReset s fun t =>
      t.mode = .reset ∧ t.reg Reg.sysResetCause = word (2 + c.source.val * 2 ^ 16) ∧ t.sys.phase = .timed s.eng.tick ∧ t.flt.errHold = true ∧
      t.drv.clamped = true ∧ t.nvm.raw = s.eng.nvm.raw ∧ t.nvm.img = s.eng.nvm.img ∧ t.nvm.keys = s.eng.nvm.keys ∧ t.tick = s.eng.tick) ∧
  (∀ (s : State) (c : ChipReset), s.eng.flt.chip = some c → c.recorded = none → idles .chipReset s) ∧
  (∀ (s : State) (i : Fin 128), s.eng.mode ≠ .reset → hasPair i.val = true → (∀ w < 4, s.eng.reg (Reg.fltWireMap w) = 0) →
    becomes (.pairBroken i) s ((s.eng.putRbit (Reg.fltWireMap (i.val / 32)) (i.val % 32) true).raise 126 i.val)) ∧
  (∀ (s : State) (i : Fin 128),
    becomes (.pairRestored i) s (s.eng.putRbit (Reg.fltWireMap (i.val / 32)) (i.val % 32) false)) ∧
  (∀ (s : State) (b : Bus) (i : Fin 128), may s b → s.eng.mode = .load ∨ s.eng.mode = .calibrate ∨ s.eng.mode = .kennel ∨
    s.eng.rbit Reg.fltCtl 0 = true → sourceDefined i.val = true →
    applies (.faultInject b i) s fun e => { e with due := e.due ++ [.inject i] }) ∧
  (∀ (s : State) (i : Fin 128), s.eng.mode ≠ .reset → s.eng.due = [.inject i] → s.eng.flt.chip = none →
    reports (nextEdge s.eng) = reports s.eng ++ [(i, 0)]) ∧
  (∀ (s : State) (b : Bus) (i : Fin 128), may s b → s.eng.mode = .hold ∨ s.eng.mode = .run → s.eng.rbit Reg.fltCtl 0 = false →
    applies (.faultInject b i) s fun e => e.putRbit Reg.fltStat 9 true) ∧
  (∀ (s : State) (b : Bus) (v : Fin 4), may s b →
    applies (.nmiDone b v) s fun e =>
      { ((e.setReg Reg.fltCtl (word v.val)).putRbit Reg.fltStat 8 false).putRbit Reg.fltStat 1 false with
        due := if e.rbit Reg.fltStat 8 then e.due ++ [.nmi] else e.due }) ∧
  (∀ s : State, s.eng.mode ≠ .reset → s.eng.due = [.nmi] → s.eng.flt.chip = none → s.eng.rbit Reg.fltStat 1 = false →
    s.eng.activeMember.isSome = true →
    (nextEdge s.eng).rbit Reg.fltStat 1 = true ∧ (nextEdge s.eng).flt.nmiCount = s.eng.flt.nmiCount + 1) ∧
  (∀ (s : State) (b : Bus) (v : Fin 4), may s b →
    applies (.errRelease b v) s fun e => { e.setReg Reg.fltCtl (word v.val) with flt.errHold := false }) ∧
  (∀ (s : State) (b : Bus) (i : Fin 128) (v : Word), may s b → secureBus b = true → fld v 0 3 < 5 →
    (fld v 0 3 = 3 → blockPermitted i.val = true) →
    (sourceDefined i.val = true → applies (.reactWrite b i v) s fun e => e.setReg (Reg.fltReact i.val) (v &&& 0x17)) ∧
    (sourceDefined i.val = false → applies (.reactWrite b i v) s id)) ∧
  (∀ (s : State) (b : Bus) (i : Fin 128) (v : Word), may s b → secureBus b = false ∨ 5 ≤ fld v 0 3 ∨
    (fld v 0 3 = 3 ∧ blockPermitted i.val = false) →
    applies (.reactWrite b i v) s fun e => e.putRbit Reg.fltStat 9 true) ∧
  (∀ (s : State) (b : Bus), may s b → applies (.captureClear b) s fun e => e.putRbit Reg.fltCapStat 31 false) ∧
  (∀ (s : State) (i : Fin 128), s.eng.mode ≠ .reset → hasPair i.val = true → wireBroken s.eng i.val = false →
    runs (.pairBroken i) s fun t =>
      wireBroken t i.val = true ∧ (∀ j : Fin 128, j ≠ i → wireBroken t j.val = wireBroken s.eng j.val) ∧
      (∃ l : Nat, reports t = reports s.eng ++ [(126, word l)] ∧ wireBroken t l = true ∧ l ≤ i.val ∧ ∀ j < l, wireBroken t j = false) ∧
      regsBut [Reg.fltWireMap (i.val / 32)] s.eng t) ∧
  (∀ (s : State) (r : Report), s.eng.mode ≠ .reset → s.eng.flt.waiting = [r] → wireBroken s.eng r.source.val = true →
    s.eng.flt.sampled ≠ s.eng.tick →
    runs (.faultReport [] []) s fun t => t.regs = s.eng.regs ∧ t.flt.waiting = [] ∧ t.flt.log = s.eng.flt.log ∧ t.evt = s.eng.evt ∧ t.fw = s.eng.fw ∧
      t.due = s.eng.due ∧ r.source ∈ t.flt.inReport) ∧
  (∀ (s : State) (i : Fin 128),
    runs (.pairRestored i) s fun t =>
      wireBroken t i.val = false ∧ (∀ j : Fin 128, j ≠ i → wireBroken t j.val = wireBroken s.eng j.val) ∧
      t.rbit (stickyWord 126) 30 = s.eng.rbit (stickyWord 126) 30 ∧ reports t = reports s.eng ∧
      regsBut [Reg.fltWireMap (i.val / 32)] s.eng t)

/-- A record command runs alone, reads or writes one 64-byte record through NVM_REC_BUF, is lost while BUSY and refused in the key,
production and reserved areas (R368); its end gives the words, counts a corrected word, and reports an uncorrectable record or a failed
verify read (R363); a write into a set's slot leaves it invalid, and an image slot reads its tiles and its commit record (R365). One not
complete in 1 ms is reported (R345). The scrub reads every record in its turn and latches its time (R383); the loader's scrub reports a
tile that fails and repairs a held copy that differs (R371); the key area is read in the secure state alone (R384). -/
def Obligations.StoreRecords : Prop :=
  (∀ (s : State) (b : Bus), may s b → nvmBusy s.eng = false →
    applies (.nvmRecordRead b) s fun e => { e with nvm.op := some {
      by_ := b, write := false, record := e.rfld Reg.nvmRecAddr 6 18, data := (List.range 16).map fun i => e.reg (Reg.nvmRecBuf i),
      start := e.tick, late := false } }) ∧
  (∀ (s : State) (b : Bus), may s b → nvmBusy s.eng = false →
    areaOf (s.eng.rfld Reg.nvmRecAddr 6 18) ∉ [Area.keys, Area.prod, Area.reserved] →
    applies (.nvmRecordWrite b) s fun e => { e with nvm.op := some {
      by_ := b, write := true, record := e.rfld Reg.nvmRecAddr 6 18, data := (List.range 16).map fun i => e.reg (Reg.nvmRecBuf i),
      start := e.tick, late := false } }) ∧
  (∀ (s : State) (b : Bus), may s b → nvmBusy s.eng = true →
    applies (.nvmRecordRead b) s (fun e => e.putRbit Reg.nvmStat 11 true) ∧
    applies (.nvmRecordWrite b) s (fun e => e.putRbit Reg.nvmStat 11 true)) ∧
  (∀ (s : State) (b : Bus), may s b → nvmBusy s.eng = false →
    areaOf (s.eng.rfld Reg.nvmRecAddr 6 18) ∈ [Area.keys, Area.prod, Area.reserved] →
    applies (.nvmRecordWrite b) s fun e => e.raiseBy b 105 (64 * s.eng.rfld Reg.nvmRecAddr 6 18) 2) ∧
  (∀ (s : State) (o : NvmOp), s.eng.mode ≠ .reset → s.eng.nvmHeld = false → s.eng.nvm.op = some o → o.write = false →
    areaOf o.record = .single →
    runs (.nvmRecordComplete false false) s fun t =>
      (∀ i < 16, t.reg (Reg.nvmRecBuf i) = get0 s.eng.nvm.raw (16 * o.record + i)) ∧
      (∀ a, (∀ i < 16, a ≠ Reg.nvmRecBuf i) → t.reg a = s.eng.reg a) ∧ t = { s.eng with regs := t.regs, nvm.op := none }) ∧
  (∀ (s : State) (o : NvmOp), s.eng.mode ≠ .reset → s.eng.nvmHeld = false → s.eng.nvm.op = some o → o.write = false →
    s.eng.rfld Reg.nvmCnt 16 16 < 65535 →
    runs (.nvmRecordComplete true true) s fun t =>
      reports t = reports s.eng ++ [(104, word (64 * o.record))] ∧ t.reg Reg.nvmStat = putBit (s.eng.reg Reg.nvmStat) 8 true ∧
      t.reg Reg.nvmCnt = putFld (s.eng.reg Reg.nvmCnt) 16 16 (s.eng.rfld Reg.nvmCnt 16 16 + 1) ∧
      (∀ a, a ≠ Reg.nvmStat → a ≠ Reg.nvmCnt → (∀ i < 16, a ≠ Reg.nvmRecBuf i) → t.reg a = s.eng.reg a) ∧
      t = { s.eng with regs := t.regs, flt := { s.eng.flt with waiting := t.flt.waiting }, nvm.op := none, freeCtr := t.freeCtr }) ∧
  (∀ (s : State) (o : NvmOp), s.eng.mode ≠ .reset → s.eng.nvmHeld = false → s.eng.nvm.op = some o → o.write = true →
    areaOf o.record = .single → o.data.length = 16 →
    runs (.nvmRecordComplete false false) s fun t =>
      (∀ i < 16, get0 t.nvm.raw (16 * o.record + i) = o.data.getD i 0) ∧
      (∀ x, x < 16 * o.record ∨ 16 * o.record + 16 ≤ x → get0 t.nvm.raw x = get0 s.eng.nvm.raw x) ∧
      t = { s.eng with nvm := { s.eng.nvm with op := none, raw := t.nvm.raw } }) ∧
  (∀ (s : State) (o : NvmOp), s.eng.mode ≠ .reset → s.eng.nvmHeld = false → s.eng.nvm.op = some o → o.write = true →
    areaOf o.record = .single → o.data.length = 16 →
    runs (.nvmRecordComplete false true) s fun t =>
      reports t = reports s.eng ++ [(105, word (64 * o.record))] ∧
      (∀ x, x < 16 * o.record ∨ 16 * o.record + 16 ≤ x → get0 t.nvm.raw x = get0 s.eng.nvm.raw x) ∧ t.regs = s.eng.regs) ∧
  (∀ (s : State) (o : NvmOp), s.eng.mode ≠ .reset → s.eng.nvmHeld = false → s.eng.nvm.op = some o → o.write = true →
    areaOf o.record = .slot 2 →
    runs (.nvmRecordComplete false false) s fun t =>
      t.nvm.cal.1 = { s.eng.nvm.cal.1 with commit := none } ∧ t.nvm.cal.2 = s.eng.nvm.cal.2 ∧
      t = { s.eng with nvm := { s.eng.nvm with op := none, cal := t.nvm.cal } }) ∧
  (∀ (s : State) (o : NvmOp) (n : Nat), s.eng.mode ≠ .reset → s.eng.nvmHeld = false → s.eng.nvm.op = some o → o.record = n + 1 → n < 65535 →
    16 * n + 16 ≤ s.eng.nvm.img.1.tiles.length →
    (o.write = false →
      runs (.nvmRecordComplete false false) s fun t =>
        (∀ i < 16, t.reg (Reg.nvmRecBuf i) = s.eng.nvm.img.1.tiles.getD (16 * n + i) 0) ∧ t.nvm = { s.eng.nvm with op := none }) ∧
    (o.write = true →
      runs (.nvmRecordComplete false false) s fun t =>
        (∀ i < 16, t.nvm.img.1.tiles.getD (16 * n + i) 0 = o.data.getD i 0) ∧
        (∀ x, x < 16 * n ∨ 16 * n + 16 ≤ x → t.nvm.img.1.tiles.getD x 0 = s.eng.nvm.img.1.tiles.getD x 0) ∧
        t.nvm.img.1.commit = (if t.nvm.img.1.tiles = s.eng.nvm.img.1.tiles then s.eng.nvm.img.1.commit else none) ∧
        t.nvm.img.2 = s.eng.nvm.img.2 ∧ t = { s.eng with nvm := { s.eng.nvm with op := none, img := t.nvm.img } })) ∧
  (∀ (s : State) (o : NvmOp) (c : CommitRec), s.eng.mode ≠ .reset → s.eng.nvmHeld = false → s.eng.nvm.op = some o → o.write = false →
    s.eng.nvm.img.1.commit = some c → o.record = s.eng.nvm.img.1.tiles.length / 16 + 1 → o.record < 65536 →
    runs (.nvmRecordComplete false false) s fun t =>
      t.reg (Reg.nvmRecBuf 0) = 0x4E4D4331 ∧ t.reg (Reg.nvmRecBuf 1) = 0x101 ∧ t.reg (Reg.nvmRecBuf 2) = word c.gen ∧
      t.reg (Reg.nvmRecBuf 3) = word o.record ∧ t.reg (Reg.nvmRecBuf 4) = word c.sec ∧
      t.reg (Reg.nvmRecBuf 5) = word (c.sec / 2 ^ 32) ∧ t.reg (Reg.nvmRecBuf 6) = word c.ns ∧
      (∀ i, 8 ≤ i → i < 15 → t.reg (Reg.nvmRecBuf i) = 0) ∧
      t.reg (Reg.nvmRecBuf 15) = crc32c ((List.range 15).map fun i => t.reg (Reg.nvmRecBuf i)) ∧
      t.nvm = { s.eng.nvm with op := none }) ∧
  (∀ (s : State) (o : NvmOp), s.eng.mode ≠ .reset → s.eng.nvm.op = some o → o.late = false → o.start + 250000 ≤ s.eng.tick →
    becomes .nvmTimeout s ({ s.eng with nvm.op := some { o with late := true } }.raise 106 0)) ∧
  (∀ (s : State) (t : Fin 1024), s.eng.mode ≠ .reset → s.eng.nvm.image.isSome = true →
    s.eng.nvm.imgScrubTick + 2500000000 ≤ s.eng.tick → (slotOf s.eng.nvm.img s.eng.nvm.imageSlot).tiles = [] →
    s.eng.rfld Reg.nvmCnt 0 16 < 65535 →
    becomes (.imageScrub [] [t]) s
      (({ s.eng with nvm := { s.eng.nvm with imgScrubTick := s.eng.tick, repair := true } }.putRbit Reg.nvmStat 10 true).putRfld Reg.nvmCnt 0 16
        (s.eng.rfld Reg.nvmCnt 0 16 + 1))) ∧
  (∀ (s : State) (k : Nat) (ws : List Word), s.eng.mode ≠ .reset → s.eng.nvm.image.isSome = true →
    s.eng.nvm.imgScrubTick + 2500000000 ≤ s.eng.tick → (slotOf s.eng.nvm.img s.eng.nvm.imageSlot).tiles = ws →
    ((List.range (ws.length / 1024)).filter fun t => !tileOk ws t) = [k] →
    runs (.imageScrub [] []) s fun t =>
      t.regs = s.eng.regs ∧ t.nvm.image = s.eng.nvm.image ∧
      reports t = reports s.eng ++ [(104, word (tileAddress s.eng.nvm.imageSlot k))]) ∧
  (∀ (s : State) (l : List (Nat × Word)) (h : List (Fin 1024)), s.eng.tick < s.eng.nvm.imgScrubTick + 2500000000 → idles (.imageScrub l h) s) ∧
  (∀ (s : State) (b : Bus), may s b →
    (s.eng.nvm.scrub = none →
      applies (.mramScrubStart b) s fun e =>
        { e with nvm := { e.nvm with scrub := some 0, scrubTick := e.tick } }.putRbit Reg.nvmCtl 0 true) ∧
    (s.eng.nvm.scrub.isSome = true → applies (.mramScrubStart b) s id)) ∧
  (∀ (s : State) (n : Nat), s.eng.mode ≠ .reset → s.eng.nvm.scrub = some n → n < 196608 → nvmWaits s.eng = false →
    s.eng.nvm.scrubTick + 2500 ≤ s.eng.tick →
    becomes (.scrubRecord false false) s { s.eng with nvm := { s.eng.nvm with scrub := some (n + 1), scrubTick := s.eng.tick } } ∧
    becomes (.scrubRecord false true) s
      ({ s.eng with nvm := { s.eng.nvm with scrub := some (n + 1), scrubTick := s.eng.tick } }.raiseAt 104 (64 * n) 0 1) ∧
    (s.eng.rfld Reg.nvmCnt 16 16 < 65535 →
      becomes (.scrubRecord true false) s
        (({ s.eng with nvm := { s.eng.nvm with scrub := some (n + 1), scrubTick := s.eng.tick } }.putRbit Reg.nvmStat 8 true).putRfld
          Reg.nvmCnt 16 16 (s.eng.rfld Reg.nvmCnt 16 16 + 1)))) ∧
  (∀ (s : State) (n : Nat), s.eng.mode ≠ .reset → s.eng.nvm.scrub = some n → 196608 ≤ n →
    runs .scrubComplete s fun t =>
      t.reg Reg.nvmCtl = putBit (s.eng.reg Reg.nvmCtl) 0 false ∧ t.reg Reg.nvmScrubSecLo = word s.eng.nowSec ∧
      t.reg Reg.nvmScrubSecHi = word (s.eng.nowSec / 2 ^ 32) ∧
      regsBut [Reg.nvmCtl, Reg.nvmScrubSecLo, Reg.nvmScrubSecHi] s.eng t ∧ t = { s.eng with regs := t.regs, nvm.scrub := none }) ∧
  (∀ s : State, s.eng.mode ≠ .reset → s.eng.activeMember.isSome = true → s.eng.nvm.scrub = none →
    (s.eng.reg Reg.nvmScrubSecHi).toNat * 2 ^ 32 + (s.eng.reg Reg.nvmScrubSecLo).toNat + 2592000 ≤ s.eng.nowSec →
    becomes .scrubDue s ({ s.eng with nvm := { s.eng.nvm with scrub := some 0, scrubTick := s.eng.tick } }.putRbit Reg.nvmCtl 0 true)) ∧
  (∀ (s : State) (b : Bus) (slot : Fin 66) (w : Fin 16), may s b →
    (secureBus b = true →
      enters (.keyAreaRead b slot w) s fun e t => lastRead t b = (keyOf s.eng slot).getD w.val 0 ∧ t = { e with rdata := t.rdata }) ∧
    (secureBus b = false →
      enters (.keyAreaRead b slot w) s fun e t =>
        lastRead t b = 0 ∧ t = { e.putRbit Reg.nvmStat 12 true with rdata := t.rdata }))

/-- The boot selection takes the valid image, the selected calibration or the factory one (R367, R374), and without a valid image enters
the recovery state (R398); firmware takes the sessions' numbers from the store (R378). The selected image goes to the shadow halves, and
the stored calibration set becomes live (R372, R374). A Kennel image that was not built from what is selected is built again (R376), and
the checkpoint of a minute is written into the slot not selected (R366, R377). Where no image is valid the rows that need one do nothing. -/
def Obligations.BootStore : Prop :=
  (∀ s : State, s.eng.mode = .load → s.eng.sys.recovery = false → s.eng.activeMember.isSome = true → s.eng.nvm.selected = false →
    s.eng.nvm.img.1.commit = none → s.eng.nvm.img.2.commit = none → s.eng.nvm.ckpt.1.commit = none → s.eng.nvm.ckpt.2.commit = none →
    runs (.bootSlotSelect []) s fun t =>
      t.sys = { s.eng.sys with recovery := true } ∧ t.nvm.selected = true ∧ reports t = reports s.eng ++ [(114, 0), (114, 0)] ++
        (if s.eng.nvm.cal.1.commit.isSome && s.eng.nvm.cal.2.commit.isSome &&
          s.eng.nvm.cal.1.commit.map CommitRec.gen == s.eng.nvm.cal.2.commit.map CommitRec.gen &&
          s.eng.nvm.cal.1.set != s.eng.nvm.cal.2.set then [(60, 0)] else []) ∧
      t.rfld Reg.nvmBoot 2 2 = (match pickCal s.eng with | some (true, _) => 1 | some (false, _) => 0 | none => 2) ∧
      (∀ n : Fin 65, t.session n = { Session.reset with lastSeq := readSess s.eng n.val }) ∧ t.mode = .load ∧
      t.nvm.keys[(65 : Fin 66)] ≠ none ∧ t.drv = s.eng.drv ∧ t.rte = s.eng.rte ∧ t.sch = s.eng.sch) ∧
  (∀ (s : State) (c : CommitRec), s.eng.mode = .load → s.eng.sys.recovery = false → s.eng.activeMember.isSome = true →
    s.eng.nvm.selected = false → s.eng.nvm.img.1.commit = some c → s.eng.nvm.img.2.commit = none →
    runs (.bootSlotSelect []) s fun t =>
      t.nvm.selected = true ∧ t.mode = .load ∧
      (if imageValid s.eng s.eng.nvm.img.1.tiles then
        t.sys = s.eng.sys ∧ t.nvm.imageSlot = false ∧ t.rbit Reg.nvmBoot 1 = true ∧ t.rbit Reg.nvmBoot 0 = false ∧
        t.reg Reg.nvmImgGen = word c.gen
      else t.sys = { s.eng.sys with recovery := true })) ∧
  (∀ s : State, s.eng.mode = .load → s.eng.nvm.selected = true → s.eng.sys.recovery = false → s.eng.nvm.shadow = none →
    s.eng.nvm.image = none →
    match storedImage s.eng with
    | none => idles .imageDistribute s
    | some (img, _) =>
      becomes .imageDistribute s { s.eng with
        nvm := { s.eng.nvm with shadow := some img }, cal := { s.eng.cal with live := storedSet s.eng, shadow := storedSet s.eng } }) ∧
  (∀ s : State, s.eng.mode = .load → s.eng.activeMember.isSome = true → s.eng.nvm.selected = true → s.eng.nvmHeld = false →
    genOf s.eng.nvm.ken.1.commit < 0xFFFFFFFE → genOf s.eng.nvm.ken.2.commit < 0xFFFFFFFE →
    match storedImage s.eng with
    | none => idles .kennelRebuild s
    | some (img, gen) =>
      if kennelCurrent s.eng gen then idles .kennelRebuild s
      else
        runs .kennelRebuild s fun t =>
          t.nvm.kenSel = kennelEntries s.eng.variant img (storedSet s.eng).words ∧ kennelCurrent t gen = true ∧
          t.reg Reg.nvmBoot = putFld (s.eng.reg Reg.nvmBoot) 4 2 2 ∧ regsBut [Reg.nvmBoot] s.eng t ∧
          t = { s.eng with regs := t.regs, nvm := { s.eng.nvm with ken := t.nvm.ken, kenSel := t.nvm.kenSel } }) ∧
  (∀ (s : State) (minute : Nat) (ts : List Nat), s.eng.mode ≠ .reset → s.eng.activeMember.isSome = true → s.eng.nvmHeld = false →
    s.eng.fw.ckptDue = some (minute, ts) → s.eng.nvm.ckpt.1.commit = none → s.eng.nvm.ckpt.2.commit = none →
    becomes .checkpoint s { s.eng with
      fw := { s.eng.fw with ckptDue := none, ckptAcc := s.eng.led.acc.toList },
      nvm.ckpt := ({ data := { minute := minute, oldest := (s.eng.fw.ringNext + 2 ^ 32 - s.eng.fw.ring.length) % 2 ^ 32,
                               next := s.eng.fw.ringNext, acc := s.eng.led.acc.toList, tenants := ts, seq := s.eng.pak.seq },
                     commit := some { gen := 1, sec := s.eng.nowSec, ns := s.eng.nowSubNs } }, s.eng.nvm.ckpt.2) })

/-- A request of a mode is judged by R391 and R392: the table's transitions are accepted and wait, its other pairs, and LOAD, are refused
with ILLEGAL, one whose condition fails with its reason, one while another waits with BUSY, and one for the present mode is accepted
without effect. -/
def Obligations.ModeRequests : Prop :=
  (∀ (s : State) (c : Instr) (b : Bus) (m : Mode), modeRow c = some (b, m) → may s b → s.eng.sys.trip = none → s.eng.sys.pendMode = none →
    m ≠ .load → m ≠ s.eng.mode → acceptsMode s.eng s.eng.mode m = some none →
    applies c s fun e => { e with
      sys := { e.sys with pendMode := some m, pendFrom := if m = .reset then e.pak.boundary + 25000 else e.tick + 1 } }) ∧
  (∀ (s : State) (c : Instr) (b : Bus) (m : Mode) (r : Fin 16), modeRow c = some (b, m) → may s b → s.eng.sys.trip = none →
    s.eng.sys.pendMode = none → m ≠ .load → m ≠ s.eng.mode → acceptsMode s.eng s.eng.mode m = some (some r) →
    applies c s fun e => { e with sys := { e.sys with refused := true, reason := r } }) ∧
  (∀ (s : State) (c : Instr) (b : Bus) (m : Mode), modeRow c = some (b, m) → may s b → s.eng.sys.trip = none → s.eng.sys.pendMode = none →
    m = .load ∨ (m ≠ s.eng.mode ∧ acceptsMode s.eng s.eng.mode m = none) →
    applies c s fun e => { e with sys := { e.sys with refused := true, reason := 1 } }) ∧
  (∀ (s : State) (c : Instr) (b : Bus) (m : Mode), modeRow c = some (b, m) → may s b → s.eng.sys.pendMode.isSome = true →
    applies c s fun e => { e with sys := { e.sys with refused := true, reason := 2 } }) ∧
  (∀ (s : State) (c : Instr) (b : Bus), modeRow c = some (b, s.eng.mode) → may s b → s.eng.sys.trip = none → s.eng.sys.pendMode = none →
    s.eng.mode ≠ .load →
    applies c s id)

/-- LOAD completes into the mode that BOOTSEL selects (R387, R389). An accepted transition takes effect at its edge (R391): HOLD to RUN
and back without touching the map, CALIBRATE at a sweep boundary; entry to KENNEL ends every queued request and loads the Kennel
permutation (R78, R104, R394), a trip of HOT_SHUTDOWN first (R392). RESET by PORST_N is entered at once with the cause POR, and by request
with the cause REQUEST: MRAM stays, but for a set under way, which may lose its commit record (R366), and everything else returns to its
reset value (R386). -/
def Obligations.ModeEntries : Prop :=
  (∀ s : State, loadDone s.eng = true → (s.eng.sys.bootsel = 0 ∨ s.eng.sys.bootsel = 1) →
    runs .loadComplete s fun t =>
      t.mode = (if s.eng.sys.bootsel = 0 then .hold else .calibrate) ∧
      (∀ img, s.eng.nvm.image = some img →
        t.sch.default = some { base := nextSecond s.eng, cycle := img.gateCycle,
                               entries := img.gateEntries.map fun e => (e.1 &&& entryMask 0, e.2) }) ∧
      t = { s.eng with mode := t.mode, sch.default := t.sch.default, fw := { s.eng.fw with sessions := t.fw.sessions } }) ∧
  (∀ s : State, loadDone s.eng = true → s.eng.sys.bootsel = 2 → s.eng.drv.clampHeld = false →
    runs .loadComplete s fun t => t.mode = .kennel ∧ t.drv.loader = .kennel false false s.eng.tick ∧ t.drv.lock = .free ∧
      t.sch.queue = []) ∧
  (∀ s : State, loadDone s.eng = false → idles .loadComplete s) ∧
  (∀ s : State, s.eng.sys.trip = none → s.eng.sys.pendFrom ≤ s.eng.tick →
    (s.eng.mode = .hold → s.eng.sys.pendMode = some .run → s.eng.sch.commit = none →
      runs .modeTransition s fun t => t.mode = .run ∧
        t = { s.eng with mode := .run, sys.pendMode := none, fw := { s.eng.fw with sessions := t.fw.sessions } }) ∧
    (s.eng.mode = .run → s.eng.sys.pendMode = some .hold →
      runs .modeTransition s fun t => t.mode = .hold ∧
        t = { s.eng with mode := .hold, sys.pendMode := none, fw := { s.eng.fw with sessions := t.fw.sessions } })) ∧
  (∀ s : State, s.eng.sys.trip = none → s.eng.sys.pendFrom ≤ s.eng.tick → s.eng.mode = .hold → s.eng.sys.pendMode = some .calibrate →
    atSweepBoundary s.eng = true → commitArmed s.eng = false →
    runs .modeTransition s fun t => t.mode = .calibrate ∧ t.sys = { s.eng.sys with pendMode := none } ∧ t.sch.queue = [] ∧
      t.rte.cur = s.eng.rte.cur ∧ t.drv.clamped = s.eng.drv.clamped ∧ t.drv.active = s.eng.drv.active) ∧
  (∀ s : State, s.eng.sys.trip = none → s.eng.mode = .hold → s.eng.sys.pendMode = some .calibrate → atSweepBoundary s.eng = false →
    idles .modeTransition s) ∧
  (∀ (s : State) (u : Nat), s.eng.mode ≠ .reset → s.eng.sys.trip = some u → u + 1 ≤ s.eng.tick → s.eng.drv.clampHeld = false →
    runs .modeTransition s fun t =>
      t.mode = .kennel ∧ t.sys.trip = none ∧ t.sch.queue = [] ∧ t.sch.commit = none ∧ t.rte.cur = (kennelRef s.eng).1 ∧
      t.rte.base = (kennelRef s.eng).1 ∧ t.rte.cellsCur = (kennelRef s.eng).2 ∧ t.rte.cellsBase = (kennelRef s.eng).2 ∧
      t.rte.held = none ∧ t.rfld Reg.rteResult 24 4 = 9 ∧ t.rbit Reg.rteResult 31 = true ∧
      t.drv.loader = .kennel false false s.eng.tick ∧ t.drv.lock = .free ∧ t.drv.cellActive = s.eng.drv.cellActive ∧
      t.drv.active = s.eng.drv.active) ∧
  (∀ s : State, s.eng.sys.trip = none → s.eng.sys.pendMode = none → idles .modeTransition s) ∧
  (∀ s : State, s.eng.mode ≠ .reset → s.eng.sys.trip = none → s.eng.sys.pendFrom ≤ s.eng.tick → s.eng.sys.pendMode = some .reset →
    s.eng.nvm.op = none →
    runs .modeTransition s fun t =>
      t.mode = .reset ∧ t.reg Reg.sysResetCause = 4 ∧ t.sys.phase = .timed s.eng.tick ∧ t.drv.clamped = true ∧
      (∀ a, a ≠ Reg.sysResetCause → t.reg a = Reg.resetWord a) ∧ t.rte = RteState.reset ∧ t.sch = SchState.reset ∧
      t.nvm.img = s.eng.nvm.img ∧ t.nvm.raw = s.eng.nvm.raw) ∧
  (∀ s : State, s.eng.nvm.op = none →
    runs .porstAssert s fun t =>
      t.mode = .reset ∧ t.reg Reg.sysResetCause = 1 ∧ t.sys.phase = .porHeld ∧ t.drv = DrvState.reset ∧ t.flt = FltState.reset ∧
      t.rte = RteState.reset ∧ t.sch = SchState.reset ∧ t.led = LedState.reset ∧ t.fw = FwState.reset ∧
      (∀ a, a ≠ Reg.sysResetCause → t.reg a = Reg.resetWord a) ∧ t.nvm.img = s.eng.nvm.img ∧
      t.nvm.keys = s.eng.nvm.keys ∧ t.nvm.raw = s.eng.nvm.raw ∧
      (∀ b : Bool, slotOf t.nvm.cal b = slotOf s.eng.nvm.cal b ∨
        (if b then 3 else 2) ∈ setsUnderWay s.eng ∧ slotOf t.nvm.cal b = { slotOf s.eng.nvm.cal b with commit := none }) ∧
      (∀ b : Bool, slotOf t.nvm.ken b = slotOf s.eng.nvm.ken b ∨
        (if b then 5 else 4) ∈ setsUnderWay s.eng ∧ slotOf t.nvm.ken b = { slotOf s.eng.nvm.ken b with commit := none }) ∧
      (∀ b : Bool, slotOf t.nvm.ckpt b = slotOf s.eng.nvm.ckpt b ∨
        (if b then 7 else 6) ∈ setsUnderWay s.eng ∧ slotOf t.nvm.ckpt b = { slotOf s.eng.nvm.ckpt b with commit := none }))

/-- PGOOD falls with any rail and rises with all, 100 µs after the last fall at the earliest (R413). The JTAG instructions shift out the
bypass bit, the identification code of the variant or the sampled balls, and EXTEST drives them while PORST_N is low (R418). SMBus reads
give the mode word, the temperature, or 0x8000 before the model is valid, the power, the sticky fault bits and the identity, and nothing
in RESET (R419). In the recovery state the loader of the ACTIVE member takes blocks in their order, checks each tile, and commits a valid
image and requests RESET (R398, R420). The balls carry the nets in the counts of R422, and every port has one fibre of its own (R426). -/
def Obligations.PackagePorts : Prop :=
  (∀ (s : State) (r : Fin 6),
    becomes (.railNotGood r) s { s.eng with sys := { s.eng.sys with
      pgood := false, railsGood := listSet s.eng.sys.railsGood r.val false, railLowAt := some s.eng.tick } }) ∧
  (∀ (s : State) (n : Nat), s.eng.sys.railLowAt = some n → s.eng.tick < n + 25000 → idles .pgoodRelease s) ∧
  (∀ s : State, (∀ n, s.eng.sys.railLowAt = some n → n + 25000 ≤ s.eng.tick) →
    becomes .pgoodRelease s { s.eng with sys := { s.eng.sys with pgood := true, railsGood := [true, true, true, true, true, true] } }) ∧
  (∀ s : State,
    becomes .jtagBypass s { s.eng with sys := { s.eng.sys with jtag := .bypass, jtagOut := [false] } } ∧
    becomes .jtagIdcode s { s.eng with sys := { s.eng.sys with
      jtag := .idcode,
      jtagOut := (List.range 32).map (bit (match s.eng.variant with | .pq512 => 0x151204D3 | .pq256 => 0x125604D3 | .pq128 => 0x112804D3)) } }) ∧
  (∀ (s : State) (l : List Bool),
    runs (.jtagSamplePreload l) s fun t =>
      t.sys = { s.eng.sys with jtag := .samplePreload, bsr := l, jtagOut := t.sys.jtagOut } ∧ t.sys.jtagOut.length = l.length ∧
      t = { s.eng with sys := t.sys, freeCtr := t.freeCtr }) ∧
  (∀ (s : State) (l : List Bool), s.eng.sys.phase = .porHeld →
    runs (.jtagExtest l) s fun t =>
      t.sys = { s.eng.sys with jtag := .extest, bsr := l, jtagOut := t.sys.jtagOut } ∧ t.sys.jtagOut.length = l.length ∧
      drivesBalls t = true ∧ t = { s.eng with sys := t.sys, freeCtr := t.freeCtr }) ∧
  (∀ (s : State) (l : List Bool), s.eng.sys.phase ≠ .porHeld →
    runs (.jtagExtest l) s fun t =>
      t.sys = { s.eng.sys with jtag := .extest, jtagOut := [false] } ∧ drivesBalls t = false ∧ t = { s.eng with sys := t.sys }) ∧
  (∀ s : State, s.eng.mode ≠ .reset →
    becomes .smbusMode s { s.eng with sys.smbusOut := leBytes 2 (fld (sysModeWord s.eng) 0 16) } ∧
    becomes .smbusTemp s { s.eng with sys.smbusOut := leBytes 2 (if s.eng.rbit Reg.thmStat 10 then s.eng.rfld Reg.thmTj 0 16 else 0x8000) } ∧
    becomes .smbusPower s { s.eng with sys.smbusOut := leBytes 2 (s.eng.rfld Reg.pwrTotal 0 16) } ∧
    becomes .smbusFaults s { s.eng with sys.smbusOut := wordBytes ((List.range 4).map fun w => s.eng.reg (Reg.fltSticky w)) } ∧
    becomes .smbusId s { s.eng with sys.smbusOut := leBytes 4 (0x50510100 + variantCode s.eng.variant) }) ∧
  (∀ s : State, s.eng.mode = .reset →
    idles .smbusMode s ∧ idles .smbusTemp s ∧ idles .smbusPower s ∧ idles .smbusFaults s ∧ idles .smbusId s) ∧
  (∀ (s : State) (d : List Byte), s.eng.mode ≠ .reset → s.eng.sys.recovery = true → s.eng.activeMember.isSome = true → s.eng.sys.recov.next = 0 → d.length = 128 →
    runs (.recData 0 d) s fun t =>
      t.sys = { s.eng.sys with recov := { status := 1, next := 128, data := s.eng.sys.recov.data ++ wordsOf d } } ∧
      slotOf t.nvm.img (recSlot s.eng) = { tiles := [], commit := none } ∧
      slotOf t.nvm.img (!recSlot s.eng) = slotOf s.eng.nvm.img (!recSlot s.eng) ∧
      t = { s.eng with sys := t.sys, nvm := { s.eng.nvm with img := t.nvm.img } }) ∧
  (∀ (s : State) (o : Word) (d : List Byte) (ws : List Word), s.eng.mode ≠ .reset → s.eng.sys.recovery = true → s.eng.activeMember.isSome = true → o ≠ 0 →
    o.toNat = s.eng.sys.recov.next → (o.toNat + 128) % 4096 = 0 → d.length = 128 →
    ws = (slotOf s.eng.nvm.img (recSlot s.eng)).tiles ++ (s.eng.sys.recov.data ++ wordsOf d) →
    (tileOk ws (ws.length / 1024 - 1) = true →
      runs (.recData o d) s fun t =>
        t.sys = { s.eng.sys with recov := { status := 1, next := o.toNat + 128, data := [] } } ∧
        slotOf t.nvm.img (recSlot s.eng) = { slotOf s.eng.nvm.img (recSlot s.eng) with tiles := ws } ∧
        slotOf t.nvm.img (!recSlot s.eng) = slotOf s.eng.nvm.img (!recSlot s.eng) ∧
        t = { s.eng with sys := t.sys, nvm := { s.eng.nvm with img := t.nvm.img } }) ∧
    (tileOk ws (ws.length / 1024 - 1) = false →
      becomes (.recData o d) s { s.eng with sys.recov := { status := 4, next := 0, data := [] } })) ∧
  (∀ (s : State) (o : Word) (d : List Byte), s.eng.mode ≠ .reset → s.eng.sys.recovery = true → s.eng.activeMember.isSome = true → o ≠ 0 → o.toNat = s.eng.sys.recov.next →
    (o.toNat + 128) % 4096 ≠ 0 → d.length = 128 →
    becomes (.recData o d) s { s.eng with
      sys.recov := { status := 1, next := o.toNat + 128, data := s.eng.sys.recov.data ++ wordsOf d } }) ∧
  (∀ (s : State) (o : Word) (d : List Byte), s.eng.mode ≠ .reset → s.eng.sys.recovery = true → s.eng.activeMember.isSome = true → o.toNat ≠ s.eng.sys.recov.next → d.length = 128 →
    becomes (.recData o d) s { s.eng with sys.recov := { status := 6, next := 0, data := [] } }) ∧
  (∀ (s : State) (d : List Byte) (o : Word), s.eng.sys.recovery = false ∨ s.eng.activeMember = none → d.length = 128 →
    idles (.recData o d) s ∧ idles (.recCommit 1) s ∧ idles .recStatus s) ∧
  (∀ s : State, s.eng.mode = .load → s.eng.sys.recovery = true → s.eng.activeMember.isSome = true → s.eng.sys.recov.next ≠ 0 →
    s.eng.sys.pendMode = none → s.eng.sys.trip = none → ledgerWaits s.eng = false →
    runs (.recCommit 1) s fun t =>
      t.sys.recov.status = (if imageValid s.eng (slotOf s.eng.nvm.img (recSlot s.eng)).tiles then 3 else 5) ∧ t.sys.recov.next = 0 ∧
      t.sys.pendMode = (if imageValid s.eng (slotOf s.eng.nvm.img (recSlot s.eng)).tiles then some .reset else none) ∧
      ((slotOf t.nvm.img (recSlot s.eng)).commit.isSome = true ∨
        imageValid s.eng (slotOf s.eng.nvm.img (recSlot s.eng)).tiles = false)) ∧
  (∀ s : State, s.eng.mode ≠ .reset → s.eng.sys.recovery = true → s.eng.activeMember.isSome = true →
    becomes .recStatus s { s.eng with sys.smbusOut := [s.eng.sys.recov.status] }) ∧
  (ballNets.length = 1849 ∧ ballNets.count .vss = 1072 ∧ ballNets.count .vcore = 264 ∧ ballNets.count .vana = 216 ∧
    ballNets.count .vaux = 67 ∧ ballNets.count .vpil = 64 ∧ ballNets.count .vhn = 68 ∧ ballNets.count .vhp = 64 ∧
    ballNets.count .reserved = 7 ∧ signalBalls.length = 27 ∧ (∀ x ∈ signalBalls, ballNets.count (.signal x) = 1)) ∧
  (∀ (v : Variant) (o : Bool) (p : Nat), p < v.ports → fibrePort v (portFibre o p).1 ((portFibre o p).2 - 1) = some (o, p)) ∧
  (∀ (v : Variant) (f k : Nat) (o : Bool) (p : Nat), fibrePort v f k = some (o, p) → p < v.ports ∧ portFibre o p = (f, k + 1))

/-- A step takes the command at the front of the queue and runs it on the machine with the queue's rest. A command that accesses the bus,
or a received frame, after its place in the present TICK is taken on the next edge (the model's choice, assumption log 92); any other
command, and one whose place has not passed, on the present one. With nothing waiting a step is one TICK edge (the model's choice,
assumption log 1): the tick number advances in every mode, the pins follow the edge before (R352), and the places in the TICK begin again;
outside RESET time advances by 4 ns and RATE, and the elapsed counter time by the same (R242). On an edge that an earlier TICK has left
nothing for, no more changes, and no command appears. A PT write of the TICK before applies (R163); a lock whose Whistle was on it ends
(R91); THM_NODE shows the node words that an update edge formed (R281); a Pack boundary's time is latched (R305). Every command that
spells a transfer of its row answers a next state, in every state, and leaves the waiting commands as they are; one that spells none is
refused by name (the model's choice: no sender can form it). Invariant: every waiting command spells a transfer of its row. Every step
keeps it: a step takes the front command away, and no command puts another in. -/
def Obligations.StepRunsCommand : Prop :=
  (∀ (c : Instr) (rest : List Instr) (e : Engine), step { pending := c :: rest, eng := e } = exec c { pending := rest, eng := e }) ∧
  (∀ (c : Instr) (s : State) (x : BusCmd), wellFormed c = true → busOf c = some x → turnOf x.bus < s.eng.turn →
    exec c s = exec c { s with eng := nextEdge s.eng }) ∧
  (∀ (c : Instr) (s : State), wellFormed c = true → (flpOf c).isSome = true → 0 < s.eng.turn →
    exec c s = exec c { s with eng := nextEdge s.eng }) ∧
  (∀ (e : Engine), e.mode ≠ .reset → quietEdge e → e.due = [] →
    step { pending := [], eng := e } = .next { pending := [], eng := { drivePins e with
      tick := e.tick + 1, time := (e.time + e.increment) % timeModulus, elapsed := e.elapsed + e.increment, turn := 0,
      halfWrites := [] } }) ∧
  (∀ (e : Engine), e.mode = .reset →
    step { pending := [], eng := e } = .next { pending := [], eng := { drivePins e with
      tick := e.tick + 1, turn := 0, halfWrites := [], due := [] } }) ∧
  (∀ (e : Engine) (m : Nat) (v : Word), e.mode ≠ .reset → quietEdge e → e.due = [.pt m v] →
    step { pending := [], eng := e } = .next { pending := [], eng := { drivePins e with
      tick := e.tick + 1, time := (e.time + e.increment) % timeModulus, elapsed := e.elapsed + e.increment, turn := 0,
      halfWrites := [], due := [], pt := put0 e.pt m v } }) ∧
  (∀ (e : Engine) (n : Nat), e.mode ≠ .reset → quietEdge { e with drv.lock := .free } → e.due = [] → e.drv.lock = .untilTick n →
    n ≤ e.tick + 1 → e.drv.waiting = [] →
    ∃ t, step { pending := [], eng := e } = .next { pending := [], eng := t } ∧ t.drv = { e.drv with lock := .free } ∧ t.regs = e.regs) ∧
  (∀ (e : Engine), e.mode ≠ .reset → quietEdge { e with pwr.published := [] } → e.due = [] → e.pwr.published.length = 12 →
    ∃ t, step { pending := [], eng := e } = .next { pending := [], eng := t } ∧ t.pwr.published = [] ∧ t.tick = e.tick + 1 ∧
      (∀ i < 12, t.reg (Reg.thmNode i) = e.pwr.published.getD i 0) ∧ regsBut ((List.range 12).map Reg.thmNode) e t) ∧
  (∀ (e : Engine), e.mode ≠ .reset → quietEdge { e with pak.boundary := e.tick + 1 } → e.due = [] →
    e.tick + 1 = e.pak.boundary + 25000 * (e.pak.stamps.length + 1) →
    ∃ t, step { pending := [], eng := e } = .next { pending := [], eng := t } ∧ t.time = (e.time + e.increment) % timeModulus ∧
      t.pak = { e.pak with stamps := e.pak.stamps ++ [t.time] } ∧ t.regs = e.regs) ∧
  (∀ (c : Instr) (s : State), wellFormed c = true → ∃ e, exec c s = .next { s with eng := e }) ∧
  (∀ (c : Instr) (s : State), wellFormed c = false → ∃ what, exec c s = .refused (.illFormed what)) ∧
  (∀ s t : State, queueWellFormed s → step s = .next t → t.pending = s.pending.tail ∧ queueWellFormed t)

/-- After reset the engine is in RESET (R390) with the cause POR (R386), every clamp closed (R102), the registers at the values of their
header lines (R13), every bucket full (R223, R293), no sequence number accepted (R73, R217), the time base at 0 (R239), every session
closed and the queue empty. -/
def Obligations.ResetState : Prop :=
  State.reset.pending = [] ∧ State.reset.eng.mode = .reset ∧ State.reset.eng.reg Reg.sysResetCause = 1 ∧ State.reset.eng.drv.clamped = true ∧
  State.reset.eng.reg Reg.drvStat = 1 ∧ State.reset.eng.reg Reg.schCtl = 1 ∧ State.reset.eng.reg Reg.schGuard = 0x19 ∧
  State.reset.eng.reg Reg.schLead = 0x03200096 ∧ State.reset.eng.reg Reg.rteVrail = 0x1B58 ∧ State.reset.eng.reg Reg.fltCtl = 2 ∧
  State.reset.eng.reg Reg.pwrEbktCap = 0xBEBC2000 ∧ State.reset.eng.reg Reg.thmLimHot = 0x09100870 ∧
  State.reset.eng.reg Reg.mgtCtl = 0x3C00 ∧ State.reset.eng.reg Reg.pakCtl = 5 ∧ State.reset.eng.reg Reg.pakSwapPeriod = 86400 ∧
  State.reset.eng.reg Reg.calLimits = 0x30A ∧ State.reset.eng.reg Reg.snsCtl = 0x800 ∧
  (∀ t : Fin 64, State.reset.eng.reg (Reg.schTbRate t) = 100000 ∧ State.reset.eng.reg (Reg.schTbBurst t) = 4096 ∧
    State.reset.eng.reg (Reg.schTbCredit t) = 4096 ∧ State.reset.eng.sch.residue[t] = 0) ∧
  State.reset.eng.pwr.ebkt = 3200000000 ∧ State.reset.eng.rte.accepted = false ∧ State.reset.eng.sch.accepted = false ∧
  State.reset.eng.time = 0 ∧ (∀ n : Fin 65, (State.reset.eng.session n).tls = false) ∧ State.reset.eng.rte.cur = [] ∧
  State.reset.eng.flt.waiting = [] ∧ clampedInReset State.reset ∧ queueWellFormed State.reset

/-- The mode changes only by the transitions of R391: the lock of the PLL and the release of RESET into LOAD, the completion of LOAD, a
mode transition, a chip reset and PORST_N; no other step changes it, but a TICK edge that reaches the deadline of a chip reset (R355), on
an empty queue or before a command whose place in its TICK has passed. -/
def Obligations.ModeChangesOnlyByTransitions : Prop :=
  (∀ (c : Instr) (s t : State), exec c s = .next t → t.eng.mode ≠ s.eng.mode →
    c = .pllLock ∨ (∃ pins, c = .resetRelease pins) ∨ c = .loadComplete ∨ c = .modeTransition ∨ c = .chipReset ∨ c = .porstAssert ∨
    (((busOf c).isSome = true ∨ (flpOf c).isSome = true) ∧ 0 < s.eng.turn ∧ (nextEdge s.eng).mode = .reset ∧ t.eng.mode = .reset)) ∧
  (∀ s t : State, s.pending = [] → step s = .next t → t.eng.mode ≠ s.eng.mode →
    t.eng.mode = .reset ∧ ∃ x, s.eng.flt.chip = some x ∧ x.asked + 1024 ≤ t.eng.tick)

/-- Invariant: in RESET every clamp is closed (R102). Every step keeps it: what opens them, a Kennel Whistle, runs in no RESET, and every
entry to RESET closes them (R386). -/
def Obligations.ClampsStayClosedInReset : Prop :=
  ∀ s t : State, clampedInReset s → step s = .next t → clampedInReset t

/-- The words that the drive cells apply change only on a strobe, the Whistle's (R90): a Whistle, a Kennel Whistle or the match of
comparator 0, or where the engine enters RESET; no other step touches them. -/
def Obligations.CellsChangeOnlyOnStrobe : Prop :=
  ∀ s t : State, step s = .next t → t.eng.drv.cellActive ≠ s.eng.drv.cellActive → t.eng.mode ≠ .reset →
    ∃ (c : Instr) (rest : List Instr), s.pending = c :: rest ∧
      ((∃ m, c = .whistle m) ∨ (∃ m, c = .kennelWhistle m) ∨ (∃ m, c = .cmpMatch 0 m))
end

