-- ==== Sys2Proof/Laws/Memory.lean ====
section
/-! SUPPORT. Laws of the word memories: read over write, and the canonical form that every write keeps. -/

namespace Sys2Proof.Machine

open Sys2Proof

/-! ### Read over write -/

theorem memRead_memErase (d : Nat → Word) (m : Mem) (a b : Nat) :
    memRead d (memErase m a) b = if b = a then d a else memRead d m b := by
  induction m with
  | nil => simp only [memErase, memRead]; split <;> simp_all
  | cons p m ih =>
    obtain ⟨k, v⟩ := p
    simp only [memErase]
    by_cases ha : a = k
    · rw [if_pos ha, ih]
      by_cases hb : b = a
      · simp [hb]
      · have : b ≠ k := fun h => hb (h.trans ha.symm)
        simp [hb, memRead, this]
    · rw [if_neg ha]
      by_cases hk : b = k
      · have : b ≠ a := fun h => ha (h.symm.trans hk)
        rw [hk] at this ⊢; simp [memRead, this]
      · simp [memRead, hk, ih]

theorem memRead_memInsert (d : Nat → Word) (m : Mem) (a b : Nat) (v : Word) :
    memRead d (memInsert m a v) b = if b = a then v else memRead d m b := by
  induction m with
  | nil => simp [memInsert, memRead]
  | cons p m ih =>
    obtain ⟨k, w⟩ := p
    simp only [memInsert]
    by_cases h1 : a < k
    · rw [if_pos h1]; simp [memRead]
    · rw [if_neg h1]
      by_cases h2 : a = k
      · subst h2; rw [if_pos rfl]; simp only [memRead]; split <;> rfl
      · rw [if_neg h2]
        simp only [memRead, ih]
        by_cases hk : b = k
        · have : b ≠ a := fun h => h2 (h.symm.trans hk)
          rw [hk] at this ⊢; simp [this]
        · simp [hk]

/-- A word read after a write: the written one at its address, every other as before. -/
@[simp] theorem memRead_memWrite (d : Nat → Word) (m : Mem) (a b : Nat) (v : Word) :
    memRead d (memWrite d m a v) b = if b = a then v else memRead d m b := by
  unfold memWrite
  split
  · rename_i h; rw [memRead_memErase, h]
  · exact memRead_memInsert d m a b v

@[simp] theorem get0_put0 (m : Mem) (a b : Nat) (v : Word) : get0 (put0 m a v) b = if b = a then v else get0 m b :=
  memRead_memWrite zeroWord m a b v

@[simp] theorem get0_nil (a : Nat) : get0 [] a = 0 := rfl

/-! ### The canonical form -/

/-- Every address of a memory lies above one. -/
def aboveAll (a : Nat) (m : Mem) : Prop := ∀ p ∈ m, a < p.1

theorem wf_cons {d : Nat → Word} {a : Nat} {v : Word} {m : Mem} :
    Mem.wf d ((a, v) :: m) = true ↔ aboveAll a m ∧ v ≠ d a ∧ Mem.wf d m = true := by
  induction m generalizing a v with
  | nil => simp [Mem.wf, aboveAll]
  | cons p m ih =>
    obtain ⟨b, w⟩ := p
    have hb := @ih b w
    constructor
    · intro h
      simp only [Mem.wf, Bool.and_eq_true, decide_eq_true_eq, bne_iff_ne] at h
      obtain ⟨⟨h1, h2⟩, h3⟩ := h
      refine ⟨?_, h2, h3⟩
      intro p hp
      rcases List.mem_cons.1 hp with rfl | hp
      · exact h1
      · exact Nat.lt_trans h1 ((hb.1 h3).1 p hp)
    · rintro ⟨h1, h2, h3⟩
      have : a < b := h1 (b, w) (by simp)
      simp [Mem.wf, this, h2, h3]

theorem aboveAll_mono {a b : Nat} {m : Mem} (h : a ≤ b) (hm : aboveAll b m) : aboveAll a m :=
  fun p hp => Nat.lt_of_le_of_lt h (hm p hp)

theorem aboveAll_erase {a b : Nat} {m : Mem} (h : aboveAll b m) : aboveAll b (memErase m a) := by
  induction m with
  | nil => exact h
  | cons p m ih =>
    obtain ⟨k, v⟩ := p
    simp only [memErase]
    have hm : aboveAll b m := fun p hp => h p (List.mem_cons_of_mem _ hp)
    split
    · exact ih hm
    · intro p hp
      rcases List.mem_cons.1 hp with rfl | hp
      · exact h _ (by simp)
      · exact ih hm p hp

theorem wf_memErase {d : Nat → Word} {m : Mem} {a : Nat} (h : Mem.wf d m = true) : Mem.wf d (memErase m a) = true := by
  induction m with
  | nil => exact h
  | cons p m ih =>
    obtain ⟨k, v⟩ := p
    obtain ⟨h1, h2, h3⟩ := wf_cons.1 h
    simp only [memErase]
    split
    · exact ih h3
    · exact wf_cons.2 ⟨aboveAll_erase h1, h2, ih h3⟩

theorem aboveAll_insert {a b : Nat} {v : Word} {m : Mem} (h : aboveAll b m) (hb : b < a) : aboveAll b (memInsert m a v) := by
  induction m with
  | nil => intro p hp; simp [memInsert] at hp; subst hp; exact hb
  | cons p m ih =>
    obtain ⟨k, w⟩ := p
    have hk : b < k := h (k, w) (by simp)
    have hm : aboveAll b m := fun p hp => h p (List.mem_cons_of_mem _ hp)
    simp only [memInsert]
    split
    · intro p hp
      rcases List.mem_cons.1 hp with rfl | hp
      · exact hb
      · exact h p hp
    · split
      · intro p hp
        rcases List.mem_cons.1 hp with rfl | hp
        · exact hb
        · exact hm p hp
      · intro p hp
        rcases List.mem_cons.1 hp with rfl | hp
        · exact hk
        · exact ih hm p hp

theorem wf_memInsert {d : Nat → Word} {m : Mem} {a : Nat} {v : Word} (h : Mem.wf d m = true) (hv : v ≠ d a) :
    Mem.wf d (memInsert m a v) = true := by
  induction m with
  | nil => simpa [memInsert, Mem.wf] using hv
  | cons p m ih =>
    obtain ⟨k, w⟩ := p
    obtain ⟨h1, h2, h3⟩ := wf_cons.1 h
    simp only [memInsert]
    split
    · rename_i hk
      refine wf_cons.2 ⟨?_, hv, h⟩
      intro p hp
      rcases List.mem_cons.1 hp with rfl | hp
      · exact hk
      · exact Nat.lt_trans hk (h1 p hp)
    · split
      · rename_i hk; subst hk; exact wf_cons.2 ⟨h1, hv, h3⟩
      · rename_i hk hne
        exact wf_cons.2 ⟨aboveAll_insert h1 (by omega), h2, ih h3⟩

/-- A write keeps the canonical form. -/
theorem wf_memWrite {d : Nat → Word} {m : Mem} {a : Nat} {v : Word} (h : Mem.wf d m = true) :
    Mem.wf d (memWrite d m a v) = true := by
  unfold memWrite
  split
  · exact wf_memErase h
  · rename_i hv; exact wf_memInsert h hv

theorem wf_memWrites {d : Nat → Word} {m : Mem} {l : List (Nat × Word)} (h : Mem.wf d m = true) :
    Mem.wf d (memWrites d m l) = true := by
  unfold memWrites
  induction l generalizing m with
  | nil => exact h
  | cons p l ih => exact ih (wf_memWrite h)

theorem wf_put0 {m : Mem} {a : Nat} {v : Word} (h : Mem.wf zeroWord m = true) : Mem.wf zeroWord (put0 m a v) = true :=
  wf_memWrite h

theorem memRead_of_aboveAll {d : Nat → Word} {m : Mem} {a : Nat} (h : aboveAll a m) : memRead d m a = d a := by
  induction m with
  | nil => rfl
  | cons p m ih =>
    obtain ⟨k, v⟩ := p
    have hk : a < k := h (k, v) (by simp)
    have : a ≠ k := by omega
    simp [memRead, this, ih fun p hp => h p (List.mem_cons_of_mem _ hp)]

/-- Two memories in canonical form that read alike are equal data. -/
theorem eq_of_wf {d : Nat → Word} {m n : Mem} (hm : Mem.wf d m = true) (hn : Mem.wf d n = true)
    (h : ∀ a, memRead d m a = memRead d n a) : m = n := by
  induction m generalizing n with
  | nil =>
    cases n with
    | nil => rfl
    | cons q n =>
      obtain ⟨k, v⟩ := q
      have := h k
      simp [memRead] at this
      exact absurd this.symm (wf_cons.1 hn).2.1
  | cons p m ih =>
    obtain ⟨a, v⟩ := p
    obtain ⟨m1, m2, m3⟩ := wf_cons.1 hm
    cases n with
    | nil =>
      have := h a
      simp [memRead] at this
      exact absurd this m2
    | cons q n =>
      obtain ⟨b, w⟩ := q
      obtain ⟨n1, n2, n3⟩ := wf_cons.1 hn
      have hab : a = b := by
        rcases Nat.lt_trichotomy a b with hlt | heq | hgt
        · have := h a
          rw [memRead_of_aboveAll (a := a) (m := (b, w) :: n)] at this
          · simp [memRead] at this; exact absurd this m2
          · intro p hp
            rcases List.mem_cons.1 hp with rfl | hp
            · exact hlt
            · exact Nat.lt_trans hlt (n1 p hp)
        · exact heq
        · have := h b
          rw [memRead_of_aboveAll (a := b) (m := (a, v) :: m)] at this
          · simp [memRead] at this; exact absurd this.symm n2
          · intro p hp
            rcases List.mem_cons.1 hp with rfl | hp
            · exact hgt
            · exact Nat.lt_trans hgt (m1 p hp)
      subst hab
      have hv : v = w := by have := h a; simpa [memRead] using this
      subst hv
      congr 1
      refine ih m3 n3 fun x => ?_
      by_cases hx : x = a
      · subst hx; rw [memRead_of_aboveAll m1, memRead_of_aboveAll n1]
      · have := h x; simpa [memRead, hx] using this

end Sys2Proof.Machine
end

