-- ==== Sys2Proof/Laws/Message.lean ====
section
/-! SUPPORT. Laws of message bytes: the words of a run of words' bytes are those words. -/

namespace Sys2Proof.Machine

open Sys2Proof

theorem leBytes_four (v : Nat) :
    leBytes 4 v = [BitVec.ofNat 8 v, BitVec.ofNat 8 (v / 2 ^ 8), BitVec.ofNat 8 (v / 2 ^ 16), BitVec.ofNat 8 (v / 2 ^ 24)] := by
  simp [leBytes, List.range, List.range.loop]

theorem wordBytes_cons (w : Word) (ws : List Word) : wordBytes (w :: ws) = leBytes 4 w.toNat ++ wordBytes ws := rfl

theorem wordAt_wordBytes_cons (w : Word) (ws : List Word) : wordAt (wordBytes (w :: ws)) 0 = w := by
  rw [wordBytes_cons, leBytes_four]
  simp only [wordAt, leAt, List.drop_zero, List.cons_append, List.nil_append, List.take_succ_cons, List.take_zero, List.foldr, word]
  have h := w.isLt
  apply BitVec.eq_of_toNat_eq
  simp only [BitVec.toNat_ofNat]
  omega

theorem wordAt_wordBytes_succ (w : Word) (ws : List Word) (i : Nat) :
    wordAt (wordBytes (w :: ws)) (4 * (i + 1)) = wordAt (wordBytes ws) (4 * i) := by
  rw [wordBytes_cons, leBytes_four, show 4 * (i + 1) = 4 * i + 1 + 1 + 1 + 1 by omega]
  rfl

theorem wordBytes_length (ws : List Word) : (wordBytes ws).length = 4 * ws.length := by
  induction ws with
  | nil => rfl
  | cons w ws ih => rw [wordBytes_cons, List.length_append, ih, leBytes_four]; simp; omega

/-- The words of a run of words' bytes are those words. -/
theorem wordsOf_wordBytes (ws : List Word) : wordsOf (wordBytes ws) = ws := by
  unfold wordsOf
  rw [wordBytes_length, Nat.mul_div_cancel_left _ (by decide)]
  induction ws with
  | nil => rfl
  | cons w ws ih =>
    rw [List.length_cons, List.range_succ_eq_map, List.map_cons, List.map_map, wordAt_wordBytes_cons]
    exact congrArg (w :: ·) ((List.map_congr_left fun i _ => wordAt_wordBytes_succ w ws i).trans ih)

end Sys2Proof.Machine
end

