-- ==== Sys2Proof/Laws/State.lean ====
section
/-! SUPPORT. What each named update of the engine leaves alone, field by field. -/

namespace Sys2Proof.Machine

open Sys2Proof

/-! ### setReg -/

@[simp] theorem Engine.setReg_variant (s : Engine) (a : Nat) (v : Word) : (s.setReg a v).variant = s.variant := rfl
@[simp] theorem Engine.setReg_mode (s : Engine) (a : Nat) (v : Word) : (s.setReg a v).mode = s.mode := rfl
@[simp] theorem Engine.setReg_tick (s : Engine) (a : Nat) (v : Word) : (s.setReg a v).tick = s.tick := rfl
@[simp] theorem Engine.setReg_divTick (s : Engine) (a : Nat) (v : Word) : (s.setReg a v).divTick = s.divTick := rfl
@[simp] theorem Engine.setReg_time (s : Engine) (a : Nat) (v : Word) : (s.setReg a v).time = s.time := rfl
@[simp] theorem Engine.setReg_elapsed (s : Engine) (a : Nat) (v : Word) : (s.setReg a v).elapsed = s.elapsed := rfl
@[simp] theorem Engine.setReg_turn (s : Engine) (a : Nat) (v : Word) : (s.setReg a v).turn = s.turn := rfl
@[simp] theorem Engine.setReg_due (s : Engine) (a : Nat) (v : Word) : (s.setReg a v).due = s.due := rfl
@[simp] theorem Engine.setReg_halfWrites (s : Engine) (a : Nat) (v : Word) : (s.setReg a v).halfWrites = s.halfWrites := rfl
@[simp] theorem Engine.setReg_freeCtr (s : Engine) (a : Nat) (v : Word) : (s.setReg a v).freeCtr = s.freeCtr := rfl
@[simp] theorem Engine.setReg_latch (s : Engine) (a : Nat) (v : Word) : (s.setReg a v).latch = s.latch := rfl
@[simp] theorem Engine.setReg_rdata (s : Engine) (a : Nat) (v : Word) : (s.setReg a v).rdata = s.rdata := rfl
@[simp] theorem Engine.setReg_clk (s : Engine) (a : Nat) (v : Word) : (s.setReg a v).clk = s.clk := rfl
@[simp] theorem Engine.setReg_sys (s : Engine) (a : Nat) (v : Word) : (s.setReg a v).sys = s.sys := rfl
@[simp] theorem Engine.setReg_flt (s : Engine) (a : Nat) (v : Word) : (s.setReg a v).flt = s.flt := rfl
@[simp] theorem Engine.setReg_rte (s : Engine) (a : Nat) (v : Word) : (s.setReg a v).rte = s.rte := rfl
@[simp] theorem Engine.setReg_drv (s : Engine) (a : Nat) (v : Word) : (s.setReg a v).drv = s.drv := rfl
@[simp] theorem Engine.setReg_sns (s : Engine) (a : Nat) (v : Word) : (s.setReg a v).sns = s.sns := rfl
@[simp] theorem Engine.setReg_lps (s : Engine) (a : Nat) (v : Word) : (s.setReg a v).lps = s.lps := rfl
@[simp] theorem Engine.setReg_pt (s : Engine) (a : Nat) (v : Word) : (s.setReg a v).pt = s.pt := rfl
@[simp] theorem Engine.setReg_cal (s : Engine) (a : Nat) (v : Word) : (s.setReg a v).cal = s.cal := rfl
@[simp] theorem Engine.setReg_sch (s : Engine) (a : Nat) (v : Word) : (s.setReg a v).sch = s.sch := rfl
@[simp] theorem Engine.setReg_tim (s : Engine) (a : Nat) (v : Word) : (s.setReg a v).tim = s.tim := rfl
@[simp] theorem Engine.setReg_led (s : Engine) (a : Nat) (v : Word) : (s.setReg a v).led = s.led := rfl
@[simp] theorem Engine.setReg_evt (s : Engine) (a : Nat) (v : Word) : (s.setReg a v).evt = s.evt := rfl
@[simp] theorem Engine.setReg_pwr (s : Engine) (a : Nat) (v : Word) : (s.setReg a v).pwr = s.pwr := rfl
@[simp] theorem Engine.setReg_pak (s : Engine) (a : Nat) (v : Word) : (s.setReg a v).pak = s.pak := rfl
@[simp] theorem Engine.setReg_nvm (s : Engine) (a : Nat) (v : Word) : (s.setReg a v).nvm = s.nvm := rfl
@[simp] theorem Engine.setReg_mgt (s : Engine) (a : Nat) (v : Word) : (s.setReg a v).mgt = s.mgt := rfl
@[simp] theorem Engine.setReg_fw (s : Engine) (a : Nat) (v : Word) : (s.setReg a v).fw = s.fw := rfl

@[simp] theorem Engine.setReg_lp (s : Engine) (a : Nat) (v : Word) (j : Fin 33) : (s.setReg a v).lp j = s.lp j := rfl

@[simp] theorem Engine.setReg_lane (s : Engine) (a : Nat) (v : Word) (j : Fin 544) : (s.setReg a v).lane j = s.lane j := rfl

/-! ### putRfld -/

@[simp] theorem Engine.putRfld_variant (s : Engine) (a lo n v : Nat) : (s.putRfld a lo n v).variant = s.variant := rfl
@[simp] theorem Engine.putRfld_mode (s : Engine) (a lo n v : Nat) : (s.putRfld a lo n v).mode = s.mode := rfl
@[simp] theorem Engine.putRfld_tick (s : Engine) (a lo n v : Nat) : (s.putRfld a lo n v).tick = s.tick := rfl
@[simp] theorem Engine.putRfld_divTick (s : Engine) (a lo n v : Nat) : (s.putRfld a lo n v).divTick = s.divTick := rfl
@[simp] theorem Engine.putRfld_time (s : Engine) (a lo n v : Nat) : (s.putRfld a lo n v).time = s.time := rfl
@[simp] theorem Engine.putRfld_elapsed (s : Engine) (a lo n v : Nat) : (s.putRfld a lo n v).elapsed = s.elapsed := rfl
@[simp] theorem Engine.putRfld_turn (s : Engine) (a lo n v : Nat) : (s.putRfld a lo n v).turn = s.turn := rfl
@[simp] theorem Engine.putRfld_due (s : Engine) (a lo n v : Nat) : (s.putRfld a lo n v).due = s.due := rfl
@[simp] theorem Engine.putRfld_halfWrites (s : Engine) (a lo n v : Nat) : (s.putRfld a lo n v).halfWrites = s.halfWrites := rfl
@[simp] theorem Engine.putRfld_freeCtr (s : Engine) (a lo n v : Nat) : (s.putRfld a lo n v).freeCtr = s.freeCtr := rfl
@[simp] theorem Engine.putRfld_latch (s : Engine) (a lo n v : Nat) : (s.putRfld a lo n v).latch = s.latch := rfl
@[simp] theorem Engine.putRfld_rdata (s : Engine) (a lo n v : Nat) : (s.putRfld a lo n v).rdata = s.rdata := rfl
@[simp] theorem Engine.putRfld_clk (s : Engine) (a lo n v : Nat) : (s.putRfld a lo n v).clk = s.clk := rfl
@[simp] theorem Engine.putRfld_sys (s : Engine) (a lo n v : Nat) : (s.putRfld a lo n v).sys = s.sys := rfl
@[simp] theorem Engine.putRfld_flt (s : Engine) (a lo n v : Nat) : (s.putRfld a lo n v).flt = s.flt := rfl
@[simp] theorem Engine.putRfld_rte (s : Engine) (a lo n v : Nat) : (s.putRfld a lo n v).rte = s.rte := rfl
@[simp] theorem Engine.putRfld_drv (s : Engine) (a lo n v : Nat) : (s.putRfld a lo n v).drv = s.drv := rfl
@[simp] theorem Engine.putRfld_sns (s : Engine) (a lo n v : Nat) : (s.putRfld a lo n v).sns = s.sns := rfl
@[simp] theorem Engine.putRfld_lps (s : Engine) (a lo n v : Nat) : (s.putRfld a lo n v).lps = s.lps := rfl
@[simp] theorem Engine.putRfld_pt (s : Engine) (a lo n v : Nat) : (s.putRfld a lo n v).pt = s.pt := rfl
@[simp] theorem Engine.putRfld_cal (s : Engine) (a lo n v : Nat) : (s.putRfld a lo n v).cal = s.cal := rfl
@[simp] theorem Engine.putRfld_sch (s : Engine) (a lo n v : Nat) : (s.putRfld a lo n v).sch = s.sch := rfl
@[simp] theorem Engine.putRfld_tim (s : Engine) (a lo n v : Nat) : (s.putRfld a lo n v).tim = s.tim := rfl
@[simp] theorem Engine.putRfld_led (s : Engine) (a lo n v : Nat) : (s.putRfld a lo n v).led = s.led := rfl
@[simp] theorem Engine.putRfld_evt (s : Engine) (a lo n v : Nat) : (s.putRfld a lo n v).evt = s.evt := rfl
@[simp] theorem Engine.putRfld_pwr (s : Engine) (a lo n v : Nat) : (s.putRfld a lo n v).pwr = s.pwr := rfl
@[simp] theorem Engine.putRfld_pak (s : Engine) (a lo n v : Nat) : (s.putRfld a lo n v).pak = s.pak := rfl
@[simp] theorem Engine.putRfld_nvm (s : Engine) (a lo n v : Nat) : (s.putRfld a lo n v).nvm = s.nvm := rfl
@[simp] theorem Engine.putRfld_mgt (s : Engine) (a lo n v : Nat) : (s.putRfld a lo n v).mgt = s.mgt := rfl
@[simp] theorem Engine.putRfld_fw (s : Engine) (a lo n v : Nat) : (s.putRfld a lo n v).fw = s.fw := rfl

@[simp] theorem Engine.putRfld_lp (s : Engine) (a lo n v : Nat) (j : Fin 33) : (s.putRfld a lo n v).lp j = s.lp j := rfl

@[simp] theorem Engine.putRfld_lane (s : Engine) (a lo n v : Nat) (j : Fin 544) : (s.putRfld a lo n v).lane j = s.lane j := rfl

/-! ### putRbit -/

@[simp] theorem Engine.putRbit_variant (s : Engine) (a i : Nat) (b : Bool) : (s.putRbit a i b).variant = s.variant := rfl
@[simp] theorem Engine.putRbit_mode (s : Engine) (a i : Nat) (b : Bool) : (s.putRbit a i b).mode = s.mode := rfl
@[simp] theorem Engine.putRbit_tick (s : Engine) (a i : Nat) (b : Bool) : (s.putRbit a i b).tick = s.tick := rfl
@[simp] theorem Engine.putRbit_divTick (s : Engine) (a i : Nat) (b : Bool) : (s.putRbit a i b).divTick = s.divTick := rfl
@[simp] theorem Engine.putRbit_time (s : Engine) (a i : Nat) (b : Bool) : (s.putRbit a i b).time = s.time := rfl
@[simp] theorem Engine.putRbit_elapsed (s : Engine) (a i : Nat) (b : Bool) : (s.putRbit a i b).elapsed = s.elapsed := rfl
@[simp] theorem Engine.putRbit_turn (s : Engine) (a i : Nat) (b : Bool) : (s.putRbit a i b).turn = s.turn := rfl
@[simp] theorem Engine.putRbit_due (s : Engine) (a i : Nat) (b : Bool) : (s.putRbit a i b).due = s.due := rfl
@[simp] theorem Engine.putRbit_halfWrites (s : Engine) (a i : Nat) (b : Bool) : (s.putRbit a i b).halfWrites = s.halfWrites := rfl
@[simp] theorem Engine.putRbit_freeCtr (s : Engine) (a i : Nat) (b : Bool) : (s.putRbit a i b).freeCtr = s.freeCtr := rfl
@[simp] theorem Engine.putRbit_latch (s : Engine) (a i : Nat) (b : Bool) : (s.putRbit a i b).latch = s.latch := rfl
@[simp] theorem Engine.putRbit_rdata (s : Engine) (a i : Nat) (b : Bool) : (s.putRbit a i b).rdata = s.rdata := rfl
@[simp] theorem Engine.putRbit_clk (s : Engine) (a i : Nat) (b : Bool) : (s.putRbit a i b).clk = s.clk := rfl
@[simp] theorem Engine.putRbit_sys (s : Engine) (a i : Nat) (b : Bool) : (s.putRbit a i b).sys = s.sys := rfl
@[simp] theorem Engine.putRbit_flt (s : Engine) (a i : Nat) (b : Bool) : (s.putRbit a i b).flt = s.flt := rfl
@[simp] theorem Engine.putRbit_rte (s : Engine) (a i : Nat) (b : Bool) : (s.putRbit a i b).rte = s.rte := rfl
@[simp] theorem Engine.putRbit_drv (s : Engine) (a i : Nat) (b : Bool) : (s.putRbit a i b).drv = s.drv := rfl
@[simp] theorem Engine.putRbit_sns (s : Engine) (a i : Nat) (b : Bool) : (s.putRbit a i b).sns = s.sns := rfl
@[simp] theorem Engine.putRbit_lps (s : Engine) (a i : Nat) (b : Bool) : (s.putRbit a i b).lps = s.lps := rfl
@[simp] theorem Engine.putRbit_pt (s : Engine) (a i : Nat) (b : Bool) : (s.putRbit a i b).pt = s.pt := rfl
@[simp] theorem Engine.putRbit_cal (s : Engine) (a i : Nat) (b : Bool) : (s.putRbit a i b).cal = s.cal := rfl
@[simp] theorem Engine.putRbit_sch (s : Engine) (a i : Nat) (b : Bool) : (s.putRbit a i b).sch = s.sch := rfl
@[simp] theorem Engine.putRbit_tim (s : Engine) (a i : Nat) (b : Bool) : (s.putRbit a i b).tim = s.tim := rfl
@[simp] theorem Engine.putRbit_led (s : Engine) (a i : Nat) (b : Bool) : (s.putRbit a i b).led = s.led := rfl
@[simp] theorem Engine.putRbit_evt (s : Engine) (a i : Nat) (b : Bool) : (s.putRbit a i b).evt = s.evt := rfl
@[simp] theorem Engine.putRbit_pwr (s : Engine) (a i : Nat) (b : Bool) : (s.putRbit a i b).pwr = s.pwr := rfl
@[simp] theorem Engine.putRbit_pak (s : Engine) (a i : Nat) (b : Bool) : (s.putRbit a i b).pak = s.pak := rfl
@[simp] theorem Engine.putRbit_nvm (s : Engine) (a i : Nat) (b : Bool) : (s.putRbit a i b).nvm = s.nvm := rfl
@[simp] theorem Engine.putRbit_mgt (s : Engine) (a i : Nat) (b : Bool) : (s.putRbit a i b).mgt = s.mgt := rfl
@[simp] theorem Engine.putRbit_fw (s : Engine) (a i : Nat) (b : Bool) : (s.putRbit a i b).fw = s.fw := rfl

@[simp] theorem Engine.putRbit_lp (s : Engine) (a i : Nat) (b : Bool) (j : Fin 33) : (s.putRbit a i b).lp j = s.lp j := rfl

@[simp] theorem Engine.putRbit_lane (s : Engine) (a i : Nat) (b : Bool) (j : Fin 544) : (s.putRbit a i b).lane j = s.lane j := rfl

/-! ### countWrap -/

@[simp] theorem Engine.countWrap_variant (s : Engine) (a lo n : Nat) : (s.countWrap a lo n).variant = s.variant := rfl
@[simp] theorem Engine.countWrap_mode (s : Engine) (a lo n : Nat) : (s.countWrap a lo n).mode = s.mode := rfl
@[simp] theorem Engine.countWrap_tick (s : Engine) (a lo n : Nat) : (s.countWrap a lo n).tick = s.tick := rfl
@[simp] theorem Engine.countWrap_divTick (s : Engine) (a lo n : Nat) : (s.countWrap a lo n).divTick = s.divTick := rfl
@[simp] theorem Engine.countWrap_time (s : Engine) (a lo n : Nat) : (s.countWrap a lo n).time = s.time := rfl
@[simp] theorem Engine.countWrap_elapsed (s : Engine) (a lo n : Nat) : (s.countWrap a lo n).elapsed = s.elapsed := rfl
@[simp] theorem Engine.countWrap_turn (s : Engine) (a lo n : Nat) : (s.countWrap a lo n).turn = s.turn := rfl
@[simp] theorem Engine.countWrap_due (s : Engine) (a lo n : Nat) : (s.countWrap a lo n).due = s.due := rfl
@[simp] theorem Engine.countWrap_halfWrites (s : Engine) (a lo n : Nat) : (s.countWrap a lo n).halfWrites = s.halfWrites := rfl
@[simp] theorem Engine.countWrap_freeCtr (s : Engine) (a lo n : Nat) : (s.countWrap a lo n).freeCtr = s.freeCtr := rfl
@[simp] theorem Engine.countWrap_latch (s : Engine) (a lo n : Nat) : (s.countWrap a lo n).latch = s.latch := rfl
@[simp] theorem Engine.countWrap_rdata (s : Engine) (a lo n : Nat) : (s.countWrap a lo n).rdata = s.rdata := rfl
@[simp] theorem Engine.countWrap_clk (s : Engine) (a lo n : Nat) : (s.countWrap a lo n).clk = s.clk := rfl
@[simp] theorem Engine.countWrap_sys (s : Engine) (a lo n : Nat) : (s.countWrap a lo n).sys = s.sys := rfl
@[simp] theorem Engine.countWrap_flt (s : Engine) (a lo n : Nat) : (s.countWrap a lo n).flt = s.flt := rfl
@[simp] theorem Engine.countWrap_rte (s : Engine) (a lo n : Nat) : (s.countWrap a lo n).rte = s.rte := rfl
@[simp] theorem Engine.countWrap_drv (s : Engine) (a lo n : Nat) : (s.countWrap a lo n).drv = s.drv := rfl
@[simp] theorem Engine.countWrap_sns (s : Engine) (a lo n : Nat) : (s.countWrap a lo n).sns = s.sns := rfl
@[simp] theorem Engine.countWrap_lps (s : Engine) (a lo n : Nat) : (s.countWrap a lo n).lps = s.lps := rfl
@[simp] theorem Engine.countWrap_pt (s : Engine) (a lo n : Nat) : (s.countWrap a lo n).pt = s.pt := rfl
@[simp] theorem Engine.countWrap_cal (s : Engine) (a lo n : Nat) : (s.countWrap a lo n).cal = s.cal := rfl
@[simp] theorem Engine.countWrap_sch (s : Engine) (a lo n : Nat) : (s.countWrap a lo n).sch = s.sch := rfl
@[simp] theorem Engine.countWrap_tim (s : Engine) (a lo n : Nat) : (s.countWrap a lo n).tim = s.tim := rfl
@[simp] theorem Engine.countWrap_led (s : Engine) (a lo n : Nat) : (s.countWrap a lo n).led = s.led := rfl
@[simp] theorem Engine.countWrap_evt (s : Engine) (a lo n : Nat) : (s.countWrap a lo n).evt = s.evt := rfl
@[simp] theorem Engine.countWrap_pwr (s : Engine) (a lo n : Nat) : (s.countWrap a lo n).pwr = s.pwr := rfl
@[simp] theorem Engine.countWrap_pak (s : Engine) (a lo n : Nat) : (s.countWrap a lo n).pak = s.pak := rfl
@[simp] theorem Engine.countWrap_nvm (s : Engine) (a lo n : Nat) : (s.countWrap a lo n).nvm = s.nvm := rfl
@[simp] theorem Engine.countWrap_mgt (s : Engine) (a lo n : Nat) : (s.countWrap a lo n).mgt = s.mgt := rfl
@[simp] theorem Engine.countWrap_fw (s : Engine) (a lo n : Nat) : (s.countWrap a lo n).fw = s.fw := rfl

@[simp] theorem Engine.countWrap_lp (s : Engine) (a lo n : Nat) (j : Fin 33) : (s.countWrap a lo n).lp j = s.lp j := rfl

@[simp] theorem Engine.countWrap_lane (s : Engine) (a lo n : Nat) (j : Fin 544) : (s.countWrap a lo n).lane j = s.lane j := rfl

/-! ### setLp -/

@[simp] theorem Engine.setLp_variant (s : Engine) (k : Fin 33) (y : LpState) : (s.setLp k y).variant = s.variant := rfl
@[simp] theorem Engine.setLp_mode (s : Engine) (k : Fin 33) (y : LpState) : (s.setLp k y).mode = s.mode := rfl
@[simp] theorem Engine.setLp_tick (s : Engine) (k : Fin 33) (y : LpState) : (s.setLp k y).tick = s.tick := rfl
@[simp] theorem Engine.setLp_divTick (s : Engine) (k : Fin 33) (y : LpState) : (s.setLp k y).divTick = s.divTick := rfl
@[simp] theorem Engine.setLp_time (s : Engine) (k : Fin 33) (y : LpState) : (s.setLp k y).time = s.time := rfl
@[simp] theorem Engine.setLp_elapsed (s : Engine) (k : Fin 33) (y : LpState) : (s.setLp k y).elapsed = s.elapsed := rfl
@[simp] theorem Engine.setLp_turn (s : Engine) (k : Fin 33) (y : LpState) : (s.setLp k y).turn = s.turn := rfl
@[simp] theorem Engine.setLp_due (s : Engine) (k : Fin 33) (y : LpState) : (s.setLp k y).due = s.due := rfl
@[simp] theorem Engine.setLp_halfWrites (s : Engine) (k : Fin 33) (y : LpState) : (s.setLp k y).halfWrites = s.halfWrites := rfl
@[simp] theorem Engine.setLp_freeCtr (s : Engine) (k : Fin 33) (y : LpState) : (s.setLp k y).freeCtr = s.freeCtr := rfl
@[simp] theorem Engine.setLp_regs (s : Engine) (k : Fin 33) (y : LpState) : (s.setLp k y).regs = s.regs := rfl
@[simp] theorem Engine.setLp_latch (s : Engine) (k : Fin 33) (y : LpState) : (s.setLp k y).latch = s.latch := rfl
@[simp] theorem Engine.setLp_rdata (s : Engine) (k : Fin 33) (y : LpState) : (s.setLp k y).rdata = s.rdata := rfl
@[simp] theorem Engine.setLp_clk (s : Engine) (k : Fin 33) (y : LpState) : (s.setLp k y).clk = s.clk := rfl
@[simp] theorem Engine.setLp_sys (s : Engine) (k : Fin 33) (y : LpState) : (s.setLp k y).sys = s.sys := rfl
@[simp] theorem Engine.setLp_flt (s : Engine) (k : Fin 33) (y : LpState) : (s.setLp k y).flt = s.flt := rfl
@[simp] theorem Engine.setLp_rte (s : Engine) (k : Fin 33) (y : LpState) : (s.setLp k y).rte = s.rte := rfl
@[simp] theorem Engine.setLp_drv (s : Engine) (k : Fin 33) (y : LpState) : (s.setLp k y).drv = s.drv := rfl
@[simp] theorem Engine.setLp_sns (s : Engine) (k : Fin 33) (y : LpState) : (s.setLp k y).sns = s.sns := rfl
@[simp] theorem Engine.setLp_pt (s : Engine) (k : Fin 33) (y : LpState) : (s.setLp k y).pt = s.pt := rfl
@[simp] theorem Engine.setLp_cal (s : Engine) (k : Fin 33) (y : LpState) : (s.setLp k y).cal = s.cal := rfl
@[simp] theorem Engine.setLp_sch (s : Engine) (k : Fin 33) (y : LpState) : (s.setLp k y).sch = s.sch := rfl
@[simp] theorem Engine.setLp_tim (s : Engine) (k : Fin 33) (y : LpState) : (s.setLp k y).tim = s.tim := rfl
@[simp] theorem Engine.setLp_led (s : Engine) (k : Fin 33) (y : LpState) : (s.setLp k y).led = s.led := rfl
@[simp] theorem Engine.setLp_evt (s : Engine) (k : Fin 33) (y : LpState) : (s.setLp k y).evt = s.evt := rfl
@[simp] theorem Engine.setLp_pwr (s : Engine) (k : Fin 33) (y : LpState) : (s.setLp k y).pwr = s.pwr := rfl
@[simp] theorem Engine.setLp_pak (s : Engine) (k : Fin 33) (y : LpState) : (s.setLp k y).pak = s.pak := rfl
@[simp] theorem Engine.setLp_nvm (s : Engine) (k : Fin 33) (y : LpState) : (s.setLp k y).nvm = s.nvm := rfl
@[simp] theorem Engine.setLp_mgt (s : Engine) (k : Fin 33) (y : LpState) : (s.setLp k y).mgt = s.mgt := rfl
@[simp] theorem Engine.setLp_fw (s : Engine) (k : Fin 33) (y : LpState) : (s.setLp k y).fw = s.fw := rfl

@[simp] theorem Engine.setLp_reg (s : Engine) (k : Fin 33) (y : LpState) (x : Nat) : (s.setLp k y).reg x = s.reg x := rfl

@[simp] theorem Engine.setLp_lane (s : Engine) (k : Fin 33) (y : LpState) (j : Fin 544) : (s.setLp k y).lane j = s.lane j := rfl

/-! ### onLp -/

@[simp] theorem Engine.onLp_variant (s : Engine) (k : Fin 33) (f : LpState → LpState) : (s.onLp k f).variant = s.variant := rfl
@[simp] theorem Engine.onLp_mode (s : Engine) (k : Fin 33) (f : LpState → LpState) : (s.onLp k f).mode = s.mode := rfl
@[simp] theorem Engine.onLp_tick (s : Engine) (k : Fin 33) (f : LpState → LpState) : (s.onLp k f).tick = s.tick := rfl
@[simp] theorem Engine.onLp_divTick (s : Engine) (k : Fin 33) (f : LpState → LpState) : (s.onLp k f).divTick = s.divTick := rfl
@[simp] theorem Engine.onLp_time (s : Engine) (k : Fin 33) (f : LpState → LpState) : (s.onLp k f).time = s.time := rfl
@[simp] theorem Engine.onLp_elapsed (s : Engine) (k : Fin 33) (f : LpState → LpState) : (s.onLp k f).elapsed = s.elapsed := rfl
@[simp] theorem Engine.onLp_turn (s : Engine) (k : Fin 33) (f : LpState → LpState) : (s.onLp k f).turn = s.turn := rfl
@[simp] theorem Engine.onLp_due (s : Engine) (k : Fin 33) (f : LpState → LpState) : (s.onLp k f).due = s.due := rfl
@[simp] theorem Engine.onLp_halfWrites (s : Engine) (k : Fin 33) (f : LpState → LpState) : (s.onLp k f).halfWrites = s.halfWrites := rfl
@[simp] theorem Engine.onLp_freeCtr (s : Engine) (k : Fin 33) (f : LpState → LpState) : (s.onLp k f).freeCtr = s.freeCtr := rfl
@[simp] theorem Engine.onLp_regs (s : Engine) (k : Fin 33) (f : LpState → LpState) : (s.onLp k f).regs = s.regs := rfl
@[simp] theorem Engine.onLp_latch (s : Engine) (k : Fin 33) (f : LpState → LpState) : (s.onLp k f).latch = s.latch := rfl
@[simp] theorem Engine.onLp_rdata (s : Engine) (k : Fin 33) (f : LpState → LpState) : (s.onLp k f).rdata = s.rdata := rfl
@[simp] theorem Engine.onLp_clk (s : Engine) (k : Fin 33) (f : LpState → LpState) : (s.onLp k f).clk = s.clk := rfl
@[simp] theorem Engine.onLp_sys (s : Engine) (k : Fin 33) (f : LpState → LpState) : (s.onLp k f).sys = s.sys := rfl
@[simp] theorem Engine.onLp_flt (s : Engine) (k : Fin 33) (f : LpState → LpState) : (s.onLp k f).flt = s.flt := rfl
@[simp] theorem Engine.onLp_rte (s : Engine) (k : Fin 33) (f : LpState → LpState) : (s.onLp k f).rte = s.rte := rfl
@[simp] theorem Engine.onLp_drv (s : Engine) (k : Fin 33) (f : LpState → LpState) : (s.onLp k f).drv = s.drv := rfl
@[simp] theorem Engine.onLp_sns (s : Engine) (k : Fin 33) (f : LpState → LpState) : (s.onLp k f).sns = s.sns := rfl
@[simp] theorem Engine.onLp_pt (s : Engine) (k : Fin 33) (f : LpState → LpState) : (s.onLp k f).pt = s.pt := rfl
@[simp] theorem Engine.onLp_cal (s : Engine) (k : Fin 33) (f : LpState → LpState) : (s.onLp k f).cal = s.cal := rfl
@[simp] theorem Engine.onLp_sch (s : Engine) (k : Fin 33) (f : LpState → LpState) : (s.onLp k f).sch = s.sch := rfl
@[simp] theorem Engine.onLp_tim (s : Engine) (k : Fin 33) (f : LpState → LpState) : (s.onLp k f).tim = s.tim := rfl
@[simp] theorem Engine.onLp_led (s : Engine) (k : Fin 33) (f : LpState → LpState) : (s.onLp k f).led = s.led := rfl
@[simp] theorem Engine.onLp_evt (s : Engine) (k : Fin 33) (f : LpState → LpState) : (s.onLp k f).evt = s.evt := rfl
@[simp] theorem Engine.onLp_pwr (s : Engine) (k : Fin 33) (f : LpState → LpState) : (s.onLp k f).pwr = s.pwr := rfl
@[simp] theorem Engine.onLp_pak (s : Engine) (k : Fin 33) (f : LpState → LpState) : (s.onLp k f).pak = s.pak := rfl
@[simp] theorem Engine.onLp_nvm (s : Engine) (k : Fin 33) (f : LpState → LpState) : (s.onLp k f).nvm = s.nvm := rfl
@[simp] theorem Engine.onLp_mgt (s : Engine) (k : Fin 33) (f : LpState → LpState) : (s.onLp k f).mgt = s.mgt := rfl
@[simp] theorem Engine.onLp_fw (s : Engine) (k : Fin 33) (f : LpState → LpState) : (s.onLp k f).fw = s.fw := rfl

@[simp] theorem Engine.onLp_reg (s : Engine) (k : Fin 33) (f : LpState → LpState) (x : Nat) : (s.onLp k f).reg x = s.reg x := rfl

@[simp] theorem Engine.onLp_lane (s : Engine) (k : Fin 33) (f : LpState → LpState) (j : Fin 544) : (s.onLp k f).lane j = s.lane j := rfl

/-! ### setLane -/

@[simp] theorem Engine.setLane_variant (s : Engine) (l : Fin 544) (y : Lane) : (s.setLane l y).variant = s.variant := rfl
@[simp] theorem Engine.setLane_mode (s : Engine) (l : Fin 544) (y : Lane) : (s.setLane l y).mode = s.mode := rfl
@[simp] theorem Engine.setLane_tick (s : Engine) (l : Fin 544) (y : Lane) : (s.setLane l y).tick = s.tick := rfl
@[simp] theorem Engine.setLane_divTick (s : Engine) (l : Fin 544) (y : Lane) : (s.setLane l y).divTick = s.divTick := rfl
@[simp] theorem Engine.setLane_time (s : Engine) (l : Fin 544) (y : Lane) : (s.setLane l y).time = s.time := rfl
@[simp] theorem Engine.setLane_elapsed (s : Engine) (l : Fin 544) (y : Lane) : (s.setLane l y).elapsed = s.elapsed := rfl
@[simp] theorem Engine.setLane_turn (s : Engine) (l : Fin 544) (y : Lane) : (s.setLane l y).turn = s.turn := rfl
@[simp] theorem Engine.setLane_due (s : Engine) (l : Fin 544) (y : Lane) : (s.setLane l y).due = s.due := rfl
@[simp] theorem Engine.setLane_halfWrites (s : Engine) (l : Fin 544) (y : Lane) : (s.setLane l y).halfWrites = s.halfWrites := rfl
@[simp] theorem Engine.setLane_freeCtr (s : Engine) (l : Fin 544) (y : Lane) : (s.setLane l y).freeCtr = s.freeCtr := rfl
@[simp] theorem Engine.setLane_regs (s : Engine) (l : Fin 544) (y : Lane) : (s.setLane l y).regs = s.regs := rfl
@[simp] theorem Engine.setLane_latch (s : Engine) (l : Fin 544) (y : Lane) : (s.setLane l y).latch = s.latch := rfl
@[simp] theorem Engine.setLane_rdata (s : Engine) (l : Fin 544) (y : Lane) : (s.setLane l y).rdata = s.rdata := rfl
@[simp] theorem Engine.setLane_clk (s : Engine) (l : Fin 544) (y : Lane) : (s.setLane l y).clk = s.clk := rfl
@[simp] theorem Engine.setLane_sys (s : Engine) (l : Fin 544) (y : Lane) : (s.setLane l y).sys = s.sys := rfl
@[simp] theorem Engine.setLane_flt (s : Engine) (l : Fin 544) (y : Lane) : (s.setLane l y).flt = s.flt := rfl
@[simp] theorem Engine.setLane_rte (s : Engine) (l : Fin 544) (y : Lane) : (s.setLane l y).rte = s.rte := rfl
@[simp] theorem Engine.setLane_drv (s : Engine) (l : Fin 544) (y : Lane) : (s.setLane l y).drv = s.drv := rfl
@[simp] theorem Engine.setLane_lps (s : Engine) (l : Fin 544) (y : Lane) : (s.setLane l y).lps = s.lps := rfl
@[simp] theorem Engine.setLane_pt (s : Engine) (l : Fin 544) (y : Lane) : (s.setLane l y).pt = s.pt := rfl
@[simp] theorem Engine.setLane_cal (s : Engine) (l : Fin 544) (y : Lane) : (s.setLane l y).cal = s.cal := rfl
@[simp] theorem Engine.setLane_sch (s : Engine) (l : Fin 544) (y : Lane) : (s.setLane l y).sch = s.sch := rfl
@[simp] theorem Engine.setLane_tim (s : Engine) (l : Fin 544) (y : Lane) : (s.setLane l y).tim = s.tim := rfl
@[simp] theorem Engine.setLane_led (s : Engine) (l : Fin 544) (y : Lane) : (s.setLane l y).led = s.led := rfl
@[simp] theorem Engine.setLane_evt (s : Engine) (l : Fin 544) (y : Lane) : (s.setLane l y).evt = s.evt := rfl
@[simp] theorem Engine.setLane_pwr (s : Engine) (l : Fin 544) (y : Lane) : (s.setLane l y).pwr = s.pwr := rfl
@[simp] theorem Engine.setLane_pak (s : Engine) (l : Fin 544) (y : Lane) : (s.setLane l y).pak = s.pak := rfl
@[simp] theorem Engine.setLane_nvm (s : Engine) (l : Fin 544) (y : Lane) : (s.setLane l y).nvm = s.nvm := rfl
@[simp] theorem Engine.setLane_mgt (s : Engine) (l : Fin 544) (y : Lane) : (s.setLane l y).mgt = s.mgt := rfl
@[simp] theorem Engine.setLane_fw (s : Engine) (l : Fin 544) (y : Lane) : (s.setLane l y).fw = s.fw := rfl

@[simp] theorem Engine.setLane_reg (s : Engine) (l : Fin 544) (y : Lane) (x : Nat) : (s.setLane l y).reg x = s.reg x := rfl

@[simp] theorem Engine.setLane_lp (s : Engine) (l : Fin 544) (y : Lane) (j : Fin 33) : (s.setLane l y).lp j = s.lp j := rfl

/-! ### raise -/

@[simp] theorem Engine.raise_variant (s : Engine) (n : Fin 128) (l : Nat) : (s.raise n l).variant = s.variant := rfl
@[simp] theorem Engine.raise_mode (s : Engine) (n : Fin 128) (l : Nat) : (s.raise n l).mode = s.mode := rfl
@[simp] theorem Engine.raise_tick (s : Engine) (n : Fin 128) (l : Nat) : (s.raise n l).tick = s.tick := rfl
@[simp] theorem Engine.raise_divTick (s : Engine) (n : Fin 128) (l : Nat) : (s.raise n l).divTick = s.divTick := rfl
@[simp] theorem Engine.raise_time (s : Engine) (n : Fin 128) (l : Nat) : (s.raise n l).time = s.time := rfl
@[simp] theorem Engine.raise_elapsed (s : Engine) (n : Fin 128) (l : Nat) : (s.raise n l).elapsed = s.elapsed := rfl
@[simp] theorem Engine.raise_turn (s : Engine) (n : Fin 128) (l : Nat) : (s.raise n l).turn = s.turn := rfl
@[simp] theorem Engine.raise_due (s : Engine) (n : Fin 128) (l : Nat) : (s.raise n l).due = s.due := rfl
@[simp] theorem Engine.raise_halfWrites (s : Engine) (n : Fin 128) (l : Nat) : (s.raise n l).halfWrites = s.halfWrites := rfl
@[simp] theorem Engine.raise_freeCtr (s : Engine) (n : Fin 128) (l : Nat) : (s.raise n l).freeCtr = s.freeCtr := rfl
@[simp] theorem Engine.raise_regs (s : Engine) (n : Fin 128) (l : Nat) : (s.raise n l).regs = s.regs := rfl
@[simp] theorem Engine.raise_latch (s : Engine) (n : Fin 128) (l : Nat) : (s.raise n l).latch = s.latch := rfl
@[simp] theorem Engine.raise_rdata (s : Engine) (n : Fin 128) (l : Nat) : (s.raise n l).rdata = s.rdata := rfl
@[simp] theorem Engine.raise_clk (s : Engine) (n : Fin 128) (l : Nat) : (s.raise n l).clk = s.clk := rfl
@[simp] theorem Engine.raise_sys (s : Engine) (n : Fin 128) (l : Nat) : (s.raise n l).sys = s.sys := rfl
@[simp] theorem Engine.raise_rte (s : Engine) (n : Fin 128) (l : Nat) : (s.raise n l).rte = s.rte := rfl
@[simp] theorem Engine.raise_drv (s : Engine) (n : Fin 128) (l : Nat) : (s.raise n l).drv = s.drv := rfl
@[simp] theorem Engine.raise_sns (s : Engine) (n : Fin 128) (l : Nat) : (s.raise n l).sns = s.sns := rfl
@[simp] theorem Engine.raise_lps (s : Engine) (n : Fin 128) (l : Nat) : (s.raise n l).lps = s.lps := rfl
@[simp] theorem Engine.raise_pt (s : Engine) (n : Fin 128) (l : Nat) : (s.raise n l).pt = s.pt := rfl
@[simp] theorem Engine.raise_cal (s : Engine) (n : Fin 128) (l : Nat) : (s.raise n l).cal = s.cal := rfl
@[simp] theorem Engine.raise_sch (s : Engine) (n : Fin 128) (l : Nat) : (s.raise n l).sch = s.sch := rfl
@[simp] theorem Engine.raise_tim (s : Engine) (n : Fin 128) (l : Nat) : (s.raise n l).tim = s.tim := rfl
@[simp] theorem Engine.raise_led (s : Engine) (n : Fin 128) (l : Nat) : (s.raise n l).led = s.led := rfl
@[simp] theorem Engine.raise_evt (s : Engine) (n : Fin 128) (l : Nat) : (s.raise n l).evt = s.evt := rfl
@[simp] theorem Engine.raise_pwr (s : Engine) (n : Fin 128) (l : Nat) : (s.raise n l).pwr = s.pwr := rfl
@[simp] theorem Engine.raise_pak (s : Engine) (n : Fin 128) (l : Nat) : (s.raise n l).pak = s.pak := rfl
@[simp] theorem Engine.raise_nvm (s : Engine) (n : Fin 128) (l : Nat) : (s.raise n l).nvm = s.nvm := rfl
@[simp] theorem Engine.raise_mgt (s : Engine) (n : Fin 128) (l : Nat) : (s.raise n l).mgt = s.mgt := rfl
@[simp] theorem Engine.raise_fw (s : Engine) (n : Fin 128) (l : Nat) : (s.raise n l).fw = s.fw := rfl

@[simp] theorem Engine.raise_reg (s : Engine) (n : Fin 128) (l : Nat) (x : Nat) : (s.raise n l).reg x = s.reg x := rfl

@[simp] theorem Engine.raise_lp (s : Engine) (n : Fin 128) (l : Nat) (j : Fin 33) : (s.raise n l).lp j = s.lp j := rfl

@[simp] theorem Engine.raise_lane (s : Engine) (n : Fin 128) (l : Nat) (j : Fin 544) : (s.raise n l).lane j = s.lane j := rfl

/-! ### raiseWith -/

@[simp] theorem Engine.raiseWith_variant (s : Engine) (r : Report) : (s.raiseWith r).variant = s.variant := rfl
@[simp] theorem Engine.raiseWith_mode (s : Engine) (r : Report) : (s.raiseWith r).mode = s.mode := rfl
@[simp] theorem Engine.raiseWith_tick (s : Engine) (r : Report) : (s.raiseWith r).tick = s.tick := rfl
@[simp] theorem Engine.raiseWith_divTick (s : Engine) (r : Report) : (s.raiseWith r).divTick = s.divTick := rfl
@[simp] theorem Engine.raiseWith_time (s : Engine) (r : Report) : (s.raiseWith r).time = s.time := rfl
@[simp] theorem Engine.raiseWith_elapsed (s : Engine) (r : Report) : (s.raiseWith r).elapsed = s.elapsed := rfl
@[simp] theorem Engine.raiseWith_turn (s : Engine) (r : Report) : (s.raiseWith r).turn = s.turn := rfl
@[simp] theorem Engine.raiseWith_due (s : Engine) (r : Report) : (s.raiseWith r).due = s.due := rfl
@[simp] theorem Engine.raiseWith_halfWrites (s : Engine) (r : Report) : (s.raiseWith r).halfWrites = s.halfWrites := rfl
@[simp] theorem Engine.raiseWith_freeCtr (s : Engine) (r : Report) : (s.raiseWith r).freeCtr = s.freeCtr := rfl
@[simp] theorem Engine.raiseWith_regs (s : Engine) (r : Report) : (s.raiseWith r).regs = s.regs := rfl
@[simp] theorem Engine.raiseWith_latch (s : Engine) (r : Report) : (s.raiseWith r).latch = s.latch := rfl
@[simp] theorem Engine.raiseWith_rdata (s : Engine) (r : Report) : (s.raiseWith r).rdata = s.rdata := rfl
@[simp] theorem Engine.raiseWith_clk (s : Engine) (r : Report) : (s.raiseWith r).clk = s.clk := rfl
@[simp] theorem Engine.raiseWith_sys (s : Engine) (r : Report) : (s.raiseWith r).sys = s.sys := rfl
@[simp] theorem Engine.raiseWith_rte (s : Engine) (r : Report) : (s.raiseWith r).rte = s.rte := rfl
@[simp] theorem Engine.raiseWith_drv (s : Engine) (r : Report) : (s.raiseWith r).drv = s.drv := rfl
@[simp] theorem Engine.raiseWith_sns (s : Engine) (r : Report) : (s.raiseWith r).sns = s.sns := rfl
@[simp] theorem Engine.raiseWith_lps (s : Engine) (r : Report) : (s.raiseWith r).lps = s.lps := rfl
@[simp] theorem Engine.raiseWith_pt (s : Engine) (r : Report) : (s.raiseWith r).pt = s.pt := rfl
@[simp] theorem Engine.raiseWith_cal (s : Engine) (r : Report) : (s.raiseWith r).cal = s.cal := rfl
@[simp] theorem Engine.raiseWith_sch (s : Engine) (r : Report) : (s.raiseWith r).sch = s.sch := rfl
@[simp] theorem Engine.raiseWith_tim (s : Engine) (r : Report) : (s.raiseWith r).tim = s.tim := rfl
@[simp] theorem Engine.raiseWith_led (s : Engine) (r : Report) : (s.raiseWith r).led = s.led := rfl
@[simp] theorem Engine.raiseWith_evt (s : Engine) (r : Report) : (s.raiseWith r).evt = s.evt := rfl
@[simp] theorem Engine.raiseWith_pwr (s : Engine) (r : Report) : (s.raiseWith r).pwr = s.pwr := rfl
@[simp] theorem Engine.raiseWith_pak (s : Engine) (r : Report) : (s.raiseWith r).pak = s.pak := rfl
@[simp] theorem Engine.raiseWith_nvm (s : Engine) (r : Report) : (s.raiseWith r).nvm = s.nvm := rfl
@[simp] theorem Engine.raiseWith_mgt (s : Engine) (r : Report) : (s.raiseWith r).mgt = s.mgt := rfl
@[simp] theorem Engine.raiseWith_fw (s : Engine) (r : Report) : (s.raiseWith r).fw = s.fw := rfl

@[simp] theorem Engine.raiseWith_reg (s : Engine) (r : Report) (x : Nat) : (s.raiseWith r).reg x = s.reg x := rfl

@[simp] theorem Engine.raiseWith_lp (s : Engine) (r : Report) (j : Fin 33) : (s.raiseWith r).lp j = s.lp j := rfl

@[simp] theorem Engine.raiseWith_lane (s : Engine) (r : Report) (j : Fin 544) : (s.raiseWith r).lane j = s.lane j := rfl

/-! ### emitHop -/

@[simp] theorem Engine.emitHop_variant (s : Engine) (p h : Nat) : (s.emitHop p h).variant = s.variant := rfl
@[simp] theorem Engine.emitHop_mode (s : Engine) (p h : Nat) : (s.emitHop p h).mode = s.mode := rfl
@[simp] theorem Engine.emitHop_tick (s : Engine) (p h : Nat) : (s.emitHop p h).tick = s.tick := rfl
@[simp] theorem Engine.emitHop_divTick (s : Engine) (p h : Nat) : (s.emitHop p h).divTick = s.divTick := rfl
@[simp] theorem Engine.emitHop_time (s : Engine) (p h : Nat) : (s.emitHop p h).time = s.time := rfl
@[simp] theorem Engine.emitHop_elapsed (s : Engine) (p h : Nat) : (s.emitHop p h).elapsed = s.elapsed := rfl
@[simp] theorem Engine.emitHop_turn (s : Engine) (p h : Nat) : (s.emitHop p h).turn = s.turn := rfl
@[simp] theorem Engine.emitHop_due (s : Engine) (p h : Nat) : (s.emitHop p h).due = s.due := rfl
@[simp] theorem Engine.emitHop_halfWrites (s : Engine) (p h : Nat) : (s.emitHop p h).halfWrites = s.halfWrites := rfl
@[simp] theorem Engine.emitHop_freeCtr (s : Engine) (p h : Nat) : (s.emitHop p h).freeCtr = s.freeCtr := rfl
@[simp] theorem Engine.emitHop_regs (s : Engine) (p h : Nat) : (s.emitHop p h).regs = s.regs := rfl
@[simp] theorem Engine.emitHop_latch (s : Engine) (p h : Nat) : (s.emitHop p h).latch = s.latch := rfl
@[simp] theorem Engine.emitHop_rdata (s : Engine) (p h : Nat) : (s.emitHop p h).rdata = s.rdata := rfl
@[simp] theorem Engine.emitHop_clk (s : Engine) (p h : Nat) : (s.emitHop p h).clk = s.clk := rfl
@[simp] theorem Engine.emitHop_sys (s : Engine) (p h : Nat) : (s.emitHop p h).sys = s.sys := rfl
@[simp] theorem Engine.emitHop_flt (s : Engine) (p h : Nat) : (s.emitHop p h).flt = s.flt := rfl
@[simp] theorem Engine.emitHop_rte (s : Engine) (p h : Nat) : (s.emitHop p h).rte = s.rte := rfl
@[simp] theorem Engine.emitHop_drv (s : Engine) (p h : Nat) : (s.emitHop p h).drv = s.drv := rfl
@[simp] theorem Engine.emitHop_sns (s : Engine) (p h : Nat) : (s.emitHop p h).sns = s.sns := rfl
@[simp] theorem Engine.emitHop_lps (s : Engine) (p h : Nat) : (s.emitHop p h).lps = s.lps := rfl
@[simp] theorem Engine.emitHop_pt (s : Engine) (p h : Nat) : (s.emitHop p h).pt = s.pt := rfl
@[simp] theorem Engine.emitHop_cal (s : Engine) (p h : Nat) : (s.emitHop p h).cal = s.cal := rfl
@[simp] theorem Engine.emitHop_sch (s : Engine) (p h : Nat) : (s.emitHop p h).sch = s.sch := rfl
@[simp] theorem Engine.emitHop_tim (s : Engine) (p h : Nat) : (s.emitHop p h).tim = s.tim := rfl
@[simp] theorem Engine.emitHop_led (s : Engine) (p h : Nat) : (s.emitHop p h).led = s.led := rfl
@[simp] theorem Engine.emitHop_pwr (s : Engine) (p h : Nat) : (s.emitHop p h).pwr = s.pwr := rfl
@[simp] theorem Engine.emitHop_pak (s : Engine) (p h : Nat) : (s.emitHop p h).pak = s.pak := rfl
@[simp] theorem Engine.emitHop_nvm (s : Engine) (p h : Nat) : (s.emitHop p h).nvm = s.nvm := rfl
@[simp] theorem Engine.emitHop_mgt (s : Engine) (p h : Nat) : (s.emitHop p h).mgt = s.mgt := rfl
@[simp] theorem Engine.emitHop_fw (s : Engine) (p h : Nat) : (s.emitHop p h).fw = s.fw := rfl

@[simp] theorem Engine.emitHop_reg (s : Engine) (p h : Nat) (x : Nat) : (s.emitHop p h).reg x = s.reg x := rfl

@[simp] theorem Engine.emitHop_lp (s : Engine) (p h : Nat) (j : Fin 33) : (s.emitHop p h).lp j = s.lp j := rfl

@[simp] theorem Engine.emitHop_lane (s : Engine) (p h : Nat) (j : Fin 544) : (s.emitHop p h).lane j = s.lane j := rfl

/-! ### emit -/

@[simp] theorem Engine.emit_variant (s : Engine) (p : Nat) : (s.emit p).variant = s.variant := rfl
@[simp] theorem Engine.emit_mode (s : Engine) (p : Nat) : (s.emit p).mode = s.mode := rfl
@[simp] theorem Engine.emit_tick (s : Engine) (p : Nat) : (s.emit p).tick = s.tick := rfl
@[simp] theorem Engine.emit_divTick (s : Engine) (p : Nat) : (s.emit p).divTick = s.divTick := rfl
@[simp] theorem Engine.emit_time (s : Engine) (p : Nat) : (s.emit p).time = s.time := rfl
@[simp] theorem Engine.emit_elapsed (s : Engine) (p : Nat) : (s.emit p).elapsed = s.elapsed := rfl
@[simp] theorem Engine.emit_turn (s : Engine) (p : Nat) : (s.emit p).turn = s.turn := rfl
@[simp] theorem Engine.emit_due (s : Engine) (p : Nat) : (s.emit p).due = s.due := rfl
@[simp] theorem Engine.emit_halfWrites (s : Engine) (p : Nat) : (s.emit p).halfWrites = s.halfWrites := rfl
@[simp] theorem Engine.emit_freeCtr (s : Engine) (p : Nat) : (s.emit p).freeCtr = s.freeCtr := rfl
@[simp] theorem Engine.emit_regs (s : Engine) (p : Nat) : (s.emit p).regs = s.regs := rfl
@[simp] theorem Engine.emit_latch (s : Engine) (p : Nat) : (s.emit p).latch = s.latch := rfl
@[simp] theorem Engine.emit_rdata (s : Engine) (p : Nat) : (s.emit p).rdata = s.rdata := rfl
@[simp] theorem Engine.emit_clk (s : Engine) (p : Nat) : (s.emit p).clk = s.clk := rfl
@[simp] theorem Engine.emit_sys (s : Engine) (p : Nat) : (s.emit p).sys = s.sys := rfl
@[simp] theorem Engine.emit_flt (s : Engine) (p : Nat) : (s.emit p).flt = s.flt := rfl
@[simp] theorem Engine.emit_rte (s : Engine) (p : Nat) : (s.emit p).rte = s.rte := rfl
@[simp] theorem Engine.emit_drv (s : Engine) (p : Nat) : (s.emit p).drv = s.drv := rfl
@[simp] theorem Engine.emit_sns (s : Engine) (p : Nat) : (s.emit p).sns = s.sns := rfl
@[simp] theorem Engine.emit_lps (s : Engine) (p : Nat) : (s.emit p).lps = s.lps := rfl
@[simp] theorem Engine.emit_pt (s : Engine) (p : Nat) : (s.emit p).pt = s.pt := rfl
@[simp] theorem Engine.emit_cal (s : Engine) (p : Nat) : (s.emit p).cal = s.cal := rfl
@[simp] theorem Engine.emit_sch (s : Engine) (p : Nat) : (s.emit p).sch = s.sch := rfl
@[simp] theorem Engine.emit_tim (s : Engine) (p : Nat) : (s.emit p).tim = s.tim := rfl
@[simp] theorem Engine.emit_led (s : Engine) (p : Nat) : (s.emit p).led = s.led := rfl
@[simp] theorem Engine.emit_pwr (s : Engine) (p : Nat) : (s.emit p).pwr = s.pwr := rfl
@[simp] theorem Engine.emit_pak (s : Engine) (p : Nat) : (s.emit p).pak = s.pak := rfl
@[simp] theorem Engine.emit_nvm (s : Engine) (p : Nat) : (s.emit p).nvm = s.nvm := rfl
@[simp] theorem Engine.emit_mgt (s : Engine) (p : Nat) : (s.emit p).mgt = s.mgt := rfl
@[simp] theorem Engine.emit_fw (s : Engine) (p : Nat) : (s.emit p).fw = s.fw := rfl

@[simp] theorem Engine.emit_reg (s : Engine) (p : Nat) (x : Nat) : (s.emit p).reg x = s.reg x := rfl

@[simp] theorem Engine.emit_lp (s : Engine) (p : Nat) (j : Fin 33) : (s.emit p).lp j = s.lp j := rfl

@[simp] theorem Engine.emit_lane (s : Engine) (p : Nat) (j : Fin 544) : (s.emit p).lane j = s.lane j := rfl

/-! ### freeWord -/

@[simp] theorem Engine.freeWord_variant (s : Engine) : (s.freeWord.2).variant = s.variant := rfl
@[simp] theorem Engine.freeWord_mode (s : Engine) : (s.freeWord.2).mode = s.mode := rfl
@[simp] theorem Engine.freeWord_tick (s : Engine) : (s.freeWord.2).tick = s.tick := rfl
@[simp] theorem Engine.freeWord_divTick (s : Engine) : (s.freeWord.2).divTick = s.divTick := rfl
@[simp] theorem Engine.freeWord_time (s : Engine) : (s.freeWord.2).time = s.time := rfl
@[simp] theorem Engine.freeWord_elapsed (s : Engine) : (s.freeWord.2).elapsed = s.elapsed := rfl
@[simp] theorem Engine.freeWord_turn (s : Engine) : (s.freeWord.2).turn = s.turn := rfl
@[simp] theorem Engine.freeWord_due (s : Engine) : (s.freeWord.2).due = s.due := rfl
@[simp] theorem Engine.freeWord_halfWrites (s : Engine) : (s.freeWord.2).halfWrites = s.halfWrites := rfl
@[simp] theorem Engine.freeWord_regs (s : Engine) : (s.freeWord.2).regs = s.regs := rfl
@[simp] theorem Engine.freeWord_latch (s : Engine) : (s.freeWord.2).latch = s.latch := rfl
@[simp] theorem Engine.freeWord_rdata (s : Engine) : (s.freeWord.2).rdata = s.rdata := rfl
@[simp] theorem Engine.freeWord_clk (s : Engine) : (s.freeWord.2).clk = s.clk := rfl
@[simp] theorem Engine.freeWord_sys (s : Engine) : (s.freeWord.2).sys = s.sys := rfl
@[simp] theorem Engine.freeWord_flt (s : Engine) : (s.freeWord.2).flt = s.flt := rfl
@[simp] theorem Engine.freeWord_rte (s : Engine) : (s.freeWord.2).rte = s.rte := rfl
@[simp] theorem Engine.freeWord_drv (s : Engine) : (s.freeWord.2).drv = s.drv := rfl
@[simp] theorem Engine.freeWord_sns (s : Engine) : (s.freeWord.2).sns = s.sns := rfl
@[simp] theorem Engine.freeWord_lps (s : Engine) : (s.freeWord.2).lps = s.lps := rfl
@[simp] theorem Engine.freeWord_pt (s : Engine) : (s.freeWord.2).pt = s.pt := rfl
@[simp] theorem Engine.freeWord_cal (s : Engine) : (s.freeWord.2).cal = s.cal := rfl
@[simp] theorem Engine.freeWord_sch (s : Engine) : (s.freeWord.2).sch = s.sch := rfl
@[simp] theorem Engine.freeWord_tim (s : Engine) : (s.freeWord.2).tim = s.tim := rfl
@[simp] theorem Engine.freeWord_led (s : Engine) : (s.freeWord.2).led = s.led := rfl
@[simp] theorem Engine.freeWord_evt (s : Engine) : (s.freeWord.2).evt = s.evt := rfl
@[simp] theorem Engine.freeWord_pwr (s : Engine) : (s.freeWord.2).pwr = s.pwr := rfl
@[simp] theorem Engine.freeWord_pak (s : Engine) : (s.freeWord.2).pak = s.pak := rfl
@[simp] theorem Engine.freeWord_nvm (s : Engine) : (s.freeWord.2).nvm = s.nvm := rfl
@[simp] theorem Engine.freeWord_mgt (s : Engine) : (s.freeWord.2).mgt = s.mgt := rfl
@[simp] theorem Engine.freeWord_fw (s : Engine) : (s.freeWord.2).fw = s.fw := rfl

@[simp] theorem Engine.freeWord_reg (s : Engine) (x : Nat) : (s.freeWord.2).reg x = s.reg x := rfl

@[simp] theorem Engine.freeWord_lp (s : Engine) (j : Fin 33) : (s.freeWord.2).lp j = s.lp j := rfl

@[simp] theorem Engine.freeWord_lane (s : Engine) (j : Fin 544) : (s.freeWord.2).lane j = s.lane j := rfl

/-! ### What the updates write -/

@[simp] theorem Engine.setLp_lp (s : Engine) (k j : Fin 33) (x : LpState) :
    (s.setLp k x).lp j = if k = j then x else s.lp j := by
  simp only [Engine.lp, Engine.setLp, Fin.getElem_fin, Vector.getElem_set, Fin.ext_iff]

@[simp] theorem Engine.onLp_lp (s : Engine) (k j : Fin 33) (f : LpState → LpState) :
    (s.onLp k f).lp j = if k = j then f (s.lp k) else s.lp j := Engine.setLp_lp s k j (f (s.lp k))

@[simp] theorem Engine.setLane_lane (s : Engine) (l j : Fin 544) (x : Lane) :
    (s.setLane l x).lane j = if l = j then x else s.lane j := by
  simp only [Engine.lane, Engine.setLane, Fin.getElem_fin, Vector.getElem_set, Fin.ext_iff]

@[simp] theorem Engine.setLp_setLp (s : Engine) (k : Fin 33) (x y : LpState) : (s.setLp k x).setLp k y = s.setLp k y := by
  simp only [Engine.setLp]
  congr 1
  apply Vector.ext
  intro i hi
  simp only [Vector.getElem_set]
  split <;> rfl

@[simp] theorem Engine.onLp_eq (s : Engine) (k : Fin 33) (x : LpState) : s.onLp k (fun _ => x) = s.setLp k x := rfl

end Sys2Proof.Machine
end

