-- ==== Sys2Proof/Laws/Register.lean ====
section
/-! SUPPORT. Laws of register words: reads over writes, fields and bits of written words, and what each shared operation can do. -/

namespace Sys2Proof.Machine

open Sys2Proof

/-! ### Bits and fields -/

theorem ofNat_shift_getLsbD (i j : Nat) (hj : j < 32) : (BitVec.ofNat 32 (1 <<< i)).getLsbD j = decide (i = j) := by
  simp only [BitVec.getLsbD_ofNat, hj, decide_true, Bool.true_and, Nat.one_shiftLeft, Nat.testBit_two_pow]

/-- A bit of a word in which one bit is written. -/
theorem bit_putBit (w : Word) (i j : Nat) (b : Bool) (hj : j < 32) : bit (putBit w i b) j = if i = j then b else bit w j := by
  unfold bit putBit
  cases b
  · rw [if_neg (by decide), BitVec.getLsbD_and, BitVec.getLsbD_not, ofNat_shift_getLsbD i j hj]
    by_cases h : i = j <;> simp [h, hj]
  · rw [if_pos rfl, BitVec.getLsbD_or, ofNat_shift_getLsbD i j hj]
    by_cases h : i = j <;> simp [h]

@[simp] theorem bit_putBit_self (w : Word) (i : Nat) (b : Bool) (hi : i < 32) : bit (putBit w i b) i = b := by
  simp [bit_putBit w i i b hi]

theorem fld_testBit (w : Word) (lo n i : Nat) : (fld w lo n).testBit i = (decide (i < n) && w.getLsbD (lo + i)) := by
  unfold fld
  rw [Nat.testBit_mod_two_pow, Nat.testBit_shiftRight]
  rfl

theorem putFld_getLsbD (w : Word) (lo n v j : Nat) (hj : j < 32) :
    (putFld w lo n v).getLsbD j = if lo ≤ j ∧ j < lo + n then v.testBit (j - lo) else w.getLsbD j := by
  unfold putFld
  rw [BitVec.getLsbD_or, BitVec.getLsbD_and, BitVec.getLsbD_not, BitVec.getLsbD_ofNat, BitVec.getLsbD_ofNat]
  simp only [hj, decide_true, Bool.true_and, Nat.testBit_shiftLeft, Nat.testBit_mod_two_pow]
  rw [Nat.testBit_two_pow_sub_one]
  by_cases h1 : lo ≤ j
  · by_cases h2 : j < lo + n
    · have : j - lo < n := by omega
      simp [h1, h2, this]
    · have : ¬ j - lo < n := by omega
      simp [h1, h2, this]
  · simp [h1]

/-- A field read back from the word it was written into. -/
theorem fld_putFld (w : Word) (lo n v : Nat) (h : lo + n ≤ 32) : fld (putFld w lo n v) lo n = v % 2 ^ n := by
  apply Nat.eq_of_testBit_eq
  intro i
  rw [fld_testBit, Nat.testBit_mod_two_pow]
  by_cases hi : i < n
  · rw [putFld_getLsbD w lo n v (lo + i) (by omega)]
    simp [hi]
  · simp [hi]

/-- A field apart from the one written. -/
theorem fld_putFld_apart (w : Word) (lo n v lo' n' : Nat) (h : lo' + n' ≤ 32) (hd : lo' + n' ≤ lo ∨ lo + n ≤ lo') :
    fld (putFld w lo n v) lo' n' = fld w lo' n' := by
  apply Nat.eq_of_testBit_eq
  intro i
  rw [fld_testBit, fld_testBit]
  by_cases hi : i < n'
  · rw [putFld_getLsbD w lo n v (lo' + i) (by omega), if_neg (by omega)]
  · simp [hi]

theorem bit_putFld_apart (w : Word) (lo n v j : Nat) (hj : j < 32) (hd : j < lo ∨ lo + n ≤ j) :
    bit (putFld w lo n v) j = bit w j := by
  unfold bit
  rw [putFld_getLsbD w lo n v j hj, if_neg (by omega)]

theorem fld_putBit_apart (w : Word) (i : Nat) (b : Bool) (lo n : Nat) (h : lo + n ≤ 32) (hd : i < lo ∨ lo + n ≤ i) :
    fld (putBit w i b) lo n = fld w lo n := by
  apply Nat.eq_of_testBit_eq
  intro k
  rw [fld_testBit, fld_testBit]
  by_cases hk : k < n
  · have := bit_putBit w i (lo + k) b (by omega)
    unfold bit at this
    rw [this, if_neg (by omega)]
  · simp [hk]

/-! ### Register words -/

/-- A register read after a write. -/
@[simp] theorem Engine.reg_setReg (s : Engine) (a b : Nat) (v : Word) : (s.setReg a v).reg b = if b = a then v else s.reg b :=
  memRead_memWrite Reg.resetWord s.regs a b v

@[simp] theorem Engine.reg_putRfld (s : Engine) (a lo n v b : Nat) :
    (s.putRfld a lo n v).reg b = if b = a then putFld (s.reg a) lo n v else s.reg b := Engine.reg_setReg s a b _

@[simp] theorem Engine.reg_putRbit (s : Engine) (a i b : Nat) (c : Bool) :
    (s.putRbit a i c).reg b = if b = a then putBit (s.reg a) i c else s.reg b := Engine.reg_setReg s a b _

@[simp] theorem Engine.setRegs_nil (s : Engine) : s.setRegs [] = s := rfl

@[simp] theorem Engine.setRegs_cons (s : Engine) (p : Nat × Word) (l : List (Nat × Word)) :
    s.setRegs (p :: l) = (s.setReg p.1 p.2).setRegs l := rfl

theorem Engine.rbit_putRbit_self (s : Engine) (a i : Nat) (c : Bool) (hi : i < 32) : (s.putRbit a i c).rbit a i = c := by
  simp [Engine.rbit, hi]

theorem Engine.rfld_putRfld_self (s : Engine) (a lo n v : Nat) (h : lo + n ≤ 32) : (s.putRfld a lo n v).rfld a lo n = v % 2 ^ n := by
  simp [Engine.rfld, fld_putFld _ lo n v h]

/-- Many registers written: every other one keeps its word. -/
theorem Engine.reg_setRegs_apart (s : Engine) (l : List (Nat × Word)) (b : Nat) (h : ∀ p ∈ l, p.1 ≠ b) :
    (s.setRegs l).reg b = s.reg b := by
  induction l generalizing s with
  | nil => rfl
  | cons p l ih =>
    rw [Engine.setRegs_cons, ih _ (fun q hq => h q (List.mem_cons_of_mem _ hq)), Engine.reg_setReg, if_neg]
    exact fun e => h p (by simp) e.symm

/-- The register file keeps its canonical form over every write. -/
theorem Engine.wf_setReg {s : Engine} {a : Nat} {v : Word} (h : Mem.wf Reg.resetWord s.regs = true) :
    Mem.wf Reg.resetWord (s.setReg a v).regs = true := wf_memWrite h

/-! ### Accesses, guards and modes -/

theorem Engine.unlessReset_eq {s : Engine} (h : s.mode ≠ .reset) (f : Engine → Engine) : s.unlessReset f = f s := if_neg h

theorem Engine.unlessReset_reset {s : Engine} (h : s.mode = .reset) (f : Engine → Engine) : s.unlessReset f = s := if_pos h

@[simp] theorem Engine.onlyIf_true (s : Engine) (f : Engine → Engine) : s.onlyIf true f = f s := rfl

@[simp] theorem Engine.onlyIf_false (s : Engine) (f : Engine → Engine) : s.onlyIf false f = s := rfl

/-- An access of a master that reaches the register has its effect. -/
theorem Engine.access_eq {s : Engine} {b : Bus} (hm : s.mode ≠ .reset) (hr : s.reaches b = true) (f : Engine → Engine) :
    s.access b f = f s := by
  unfold Engine.access; rw [if_neg hm, if_pos hr]

/-- In RESET no access does anything. -/
theorem Engine.access_reset {s : Engine} {b : Bus} (hm : s.mode = .reset) (f : Engine → Engine) : s.access b f = s := by
  unfold Engine.access; rw [if_pos hm]

/-- An access of a member that is not ACTIVE is blocked with PAK_STAT[13], but for a follower's and the FLP window's. -/
theorem Engine.access_blocked {s : Engine} {b : Bus} (hm : s.mode ≠ .reset) (hr : s.reaches b = false)
    (hf : s.follows b = false) (hb : b.master ≠ .flp) (f : Engine → Engine) : s.access b f = s.putRbit Reg.pakStat 13 true := by
  unfold Engine.access; simp [hm, hr, hf, hb]

/-- An access log entry touches no register. -/
@[simp] theorem Engine.enterLog_reg (s : Engine) (es : List LogEntry) (a : Nat) : (s.enterLog es).reg a = s.reg a := rfl

/-- An access log entry changes the Pack's logs alone. -/
theorem Engine.enterLog_frame (s : Engine) (es : List LogEntry) :
    s.enterLog es = { s with pak.logs := (s.enterLog es).pak.logs } := rfl

/-- A meaning runs its operation on the engine, keeps the queue, and closes the TICK to the accesses that follow. -/
theorem State.run_eq (s : State) (f : Engine → Engine) : s.run f = .next { s with eng := { f s.eng with turn := 2 } } := rfl

/-! ### Places in a TICK, and the commands of a member (R304, R306) -/

/-- An access that has not missed its place is taken in the present TICK. -/
theorem State.onTurn_eq {s : State} {k : Nat} (h : s.eng.turn ≤ k) : s.onTurn k = s := if_pos h

/-- An access that has missed its place is taken in the next TICK. -/
theorem State.onTurn_late {s : State} {k : Nat} (h : ¬ s.eng.turn ≤ k) : s.onTurn k = { s with eng := nextEdge s.eng } := if_neg h

theorem State.bus_eq {s : State} {c : Instr} {x : BusCmd} (hc : busOf c = some x) (ht : s.eng.turn ≤ turnOf x.bus) :
    s.bus c = .next { s with eng := { issue c x s.eng with turn := turnOf x.bus } } := by
  simp only [State.bus, hc, State.runAt, State.onTurn_eq ht]

theorem State.flp_eq {s : State} {c : Instr} {f : Engine → Engine} (hc : flpOf c = some f) (ht : s.eng.turn = 0) :
    s.flp c = .next { s with eng := { runFirmware c f (receive c s.eng) with turn := 0 } } := by
  simp only [State.flp, hc, State.runAt, State.onTurn_eq (Nat.le_of_eq ht)]

theorem State.firmware_eq {s : State} {c : Instr} {f : Engine → Engine} (hc : firmwareOf c = some f) :
    s.firmware c = .next { s with eng := { runFirmware c f s.eng with turn := 2 } } := by
  simp only [State.firmware, hc, State.run_eq]

/-- What every command of the bus does, by its master and the state of the Pack. -/
theorem issue_cases (c : Instr) (x : BusCmd) (s : Engine) :
    issue c x s = x.effect s ∨ issue c x s = followNext s c ∨ issue c x s = live c x s ∨
    ∃ log, s.pak.replay = some log ∧ issue c x s = replayed c x log s := by
  unfold issue
  split
  · exact .inl rfl
  · split
    · split
      · rename_i log h
        split
        · exact .inr (.inr (.inl rfl))
        · exact .inr (.inr (.inr ⟨log, h, rfl⟩))
      · exact .inr (.inr (.inl rfl))
    · split
      · exact .inr (.inl rfl)
      · exact .inl rfl

/-- The ordinary access: the ACTIVE member's, outside a replay, with room in the log and no follower waiting. -/
theorem issue_live {c : Instr} {x : BusCmd} {s : Engine} (hm : s.mode ≠ .reset) (hr : s.reaches x.bus = true)
    (hp : s.pak.replay = none) (hh : s.pak.held = []) (hf : s.pak.followHeld = [])
    (hl : s.log.length + (entriesOf s x.bus x.accesses).length ≤ 4096) (hx : x.accesses ≠ []) :
    issue c x s = x.effect (s.enterLog (entriesOf s x.bus x.accesses)) := by
  have hx' : x.accesses.isEmpty = false := by cases h : x.accesses <;> simp_all
  unfold issue
  rw [if_neg (by simp [hm, hx']), if_pos hr, hp]
  unfold live
  rw [if_neg (by simp [logFull, hh]; omega)]
  simp [whileFollowed, hf]

/-- What a member reads or writes in its own SRAM or the boot ROM leaves no entry. -/
theorem issue_own {c : Instr} {x : BusCmd} {s : Engine} (hx : x.accesses = []) : issue c x s = x.effect s := by
  unfold issue; simp [hx]

/-- An access entry holds no more words than its access. -/
theorem entriesOf_length (s : Engine) (b : Bus) (l : List LogEntry) : (entriesOf s b l).length = l.length := by
  unfold entriesOf; split <;> simp

end Sys2Proof.Machine
end

