-- ==== Sys2Proof/Tests/Slice0.lean ====
section
/-! SUPPORT. Small states, ill-formed terms, program words and the worked examples of the spec. -/

namespace Sys2Proof.Tests

open Sys2Proof Sys2Proof.Machine Sys2Proof.Safety

set_option Elab.async false
set_option linter.unusedVariables false

/-! ### Small states -/

/-- Mode HOLD on a late edge: member A ACTIVE, the engine out of RESET. -/
def base : Engine :=
  { Engine.reset with mode := .hold, tick := 10000000, elapsed := 0, sys := { SysState.reset with phase := .out },
                      pak := { PakState.reset with a := { Member.reset with role := .active }, seq := 100, cycle := 9 } }

def on (e : Engine) : State := { pending := [], eng := e }

/-- Member A in the secure state, member B, and the FLP register window. -/
def sup : Bus := { master := .memberA, secure := true }
def supB : Bus := { master := .memberB, secure := true }
def window : Bus := { master := .flp, secure := true }

/-- Machine 0 fetches. -/
def lpEngine (f : LpState → LpState) : Engine := (base.putRbit (Reg.lpCtl 0) 0 true).onLp 0 f
def lp0 : Lp := { k := 0, ecc := .clean }

def req : SchReq := { cmd := 4, requester := 64, seq := 1, deadline := none, submitted := 0, direct := false }
def result : RouteResult := { seq := 1, op := .add, map := [], cells := [], changed := [], blink := [], energy := 0 }
def commit (st : CommitStage) : Commit := { req := req, cost := 0, result := result, stage := st }
def job : RouteJob :=
  { op := .add, input := 0, output := 0, tenant := 0, seq := 1, target := [], vrail := 0, words := [], start := 0,
    aborted := false, cancelled := false }
def issue : Issued := { req := req, cost := 0, done := false }
def lastWhistle : LastWhistle := { edge := 0, changed := [5], oldLive := [], missed := [], ackChecked := false, openChecked := false }
def conv : Conv :=
  { slot := 0, half := 0, seq := 0, start := 0, stale := false, dummy := false, range := 0, addr := 0x70000000, leash := false,
    pre := false, tdac := 512, sample := none, drive := none }
def laneWith (l : Fin 544) (f : Lane → Lane) : Engine := base.setLane l (f (base.lane l))
def words (n : Fin 128) (sec lo : Word) : SubmitWords := { requester := n, dlNs := 0, dlSec := sec, seqLo := lo, seqHi := 0 }
def report (i : Fin 128) : Report := { source := i, locus := 0, master := 0, access := 0, index := 0 }
def gates : GateList := { base := 0, cycle := 1000, entries := [(0x010003E8, 0xFFFFFFFF, 0xFFFFFFFF)] }

/-- The management port is up and session n is on TLS. -/
def open_ (n : Fin 65) : Engine :=
  { base.setReg Reg.mgtIp 0x0A000001 with mgt := { MgtState.reset with link := true, handshakes := 1 }, fw := { FwState.reset with sessions := FwState.reset.sessions.set n { Session.reset with tls := true } } }
def msg (n : Nat) (p : List Byte) : HostMsg :=
  { version := 1, session := BitVec.ofNat 16 n, sender := 0xFF, flags := 0, reserved := 0, seq := 5,
    length := BitVec.ofNat 32 p.length, payload := p }

def image : Image := { (default : Image) with laneSlot := [(0, 1)] }
def routeEngine : Engine := { base with variant := .pq128, rte.job := some job, sch.issued := some issue }
theorem routed_some : (computeRoute routeEngine job).isSome = true := by decide +kernel
def routed : RouteResult := (computeRoute routeEngine job).get routed_some
theorem routed_eq : computeRoute routeEngine job = some routed := (Option.some_get routed_some).symm
def loadedEngine : Engine :=
  { (base.putRbit Reg.sysPilotStat 0 true).putRbit Reg.thmStat 10 true with
    mode := .load, sns.sweepRun := true, sns.sweepStart := 10000000, nvm.image := some image, drv.clamped := false,
    sys := { base.sys with sweepsSincePt := some 3, updatesSinceValid := 8 } }
/-- One entry of 2^24 − 1 TICK that admits everyone, and a commit dearer than the bucket. -/
def wideGates : GateList := { base := 0, cycle := 0xFFFFFF, entries := [(0x03FFFFFF, 0xFFFFFFFF, 0xFFFFFFFF)] }
def dear : Commit := { commit (.waiting 0 false) with result := { result with energy := 2 ^ 32 } }
def open0 : Held := { tenant := 1, input := 2, output := 3, since := 0, carry := 0, blinks := 0, start := true, step := false }
/-- One tile of words, as an IMAGE_LOAD of the first part of an image carries it. -/
def tilePart (ws : List Word) : List Byte := leBytes 4 0 ++ leBytes 4 8192 ++ leBytes 8 0 ++ wordBytes ws
theorem tilePart_words (ws : List Word) : wordsOf ((tilePart ws).drop 16) = ws := wordsOf_wordBytes ws
theorem ne_next (x : Word) : x ≠ x + 1 := by bv_omega
/-- Tile 0 is the one tile of these words, and its check is that of its CRC. -/
theorem tileOk_one (z : List Word) (c : Word) (hz : z.length = 1023) (h0 : z.getD 0 0 = 0) : tileOk (z ++ [c]) 0 = (crc32c z == c) := by
  have h1 : (z ++ [c]).length = 1024 := by simp [hz]
  have h2 : imageTile (z ++ [c]) 0 = z ++ [c] := by simp [imageTile, List.take_of_length_le, hz]
  have h3 : (z ++ [c]).take 1023 = z := List.take_left' hz
  have h4 : (z ++ [c]).getD 1023 0 = c := by simp [List.getD_eq_getElem?_getD, ← hz]
  have h5 : (z ++ [c]).getD 0 0 = 0 := by
    cases z with
    | nil => simp at hz
    | cons x z => exact h0
  simp only [tileOk, h1, h2, h3, h4, h5]
  simp [fld]
theorem newTilesOk_one (z : List Word) (c : Word) (hz : z.length = 1023) (h0 : z.getD 0 0 = 0) :
    newTilesOk (z ++ [c]) 0 = (crc32c z == c) := by
  have h1 : (z ++ [c]).length = 1024 := by simp [hz]
  simp [newTilesOk, h1, List.range, List.range.loop, tileOk_one z c hz h0]
/-- 1,023 words of zero. -/
def zeros : List Word := List.replicate 1023 0
theorem zeros_length : zeros.length = 1023 := List.length_replicate
theorem tileOk_zeros (c : Word) : tileOk (zeros ++ [c]) 0 = (crc32c zeros == c) := tileOk_one zeros c zeros_length rfl
theorem good_tile : tileOk (zeros ++ [crc32c zeros]) 0 = true := (tileOk_zeros _).trans (beq_self_eq_true _)
theorem bad_tile : tileOk (zeros ++ [crc32c zeros + 1]) 0 = false := (tileOk_zeros _).trans (beq_eq_false_iff_ne.mpr (ne_next _))
/-- The bytes of the last 128 of a tile of zeros. -/
def lastBlock (c : Word) : List Byte := wordBytes (List.replicate 31 0 ++ [c])
theorem lastBlock_length (c : Word) : (lastBlock c).length = 128 := by rw [lastBlock, wordBytes_length]; simp
theorem lastBlock_words (c : Word) : List.replicate 992 0 ++ wordsOf (lastBlock c) = zeros ++ [c] := by
  rw [lastBlock, wordsOf_wordBytes, ← List.append_assoc, List.replicate_append_replicate]
  rfl
theorem newTilesOk_zeros (c : Word) : newTilesOk (zeros ++ [c]) 0 = (crc32c zeros == c) := newTilesOk_one zeros c zeros_length rfl
theorem tilePart_length (c : Word) : (tilePart (zeros ++ [c])).length = 4112 := by
  simp only [tilePart, List.length_append, wordBytes_length, zeros_length]
  rfl

theorem crc_wrong (m : Mem) (t : Nat) : tileCrc (upset m []) t ≠ get0 [(t, tileCrc m t + 1)] t := by
  simp [get0, memRead, upset]
theorem crc_right (m : Mem) (t : Nat) : tileCrc m t = get0 [(t, tileCrc m t)] t := by simp [get0, memRead]
def goodCrcs : Mem := (List.range 26).map fun t => (t, tileCrc [] t)
def badCrcs : Mem := (List.range 26).map fun t => (t, if t = 0 then tileCrc [] t + 1 else tileCrc [] t)
def kennelEngine (retried : Bool) (crcs : Mem) : Engine :=
  { base with variant := .pq128, drv.loader := .kennel false retried 0, drv.kennelCrc := crcs }
theorem badTiles_eq (r : Bool) (crcs : Mem) :
    badKennelTiles (kennelEngine r crcs) = (List.range 26).filter fun t => tileCrc [] t != get0 crcs t := by
  unfold badKennelTiles
  rw [show (kennelEngine r crcs).variant.tiles = 26 from (by decide +kernel : Variant.pq128.tiles = 26)]
  rfl
theorem goodCrcs_none (f : Nat → Word) :
    (List.range 26).filter (fun t => f t != get0 ((List.range 26).map fun t => (t, f t)) t) = [] := by
  simp [List.range, List.range.loop, get0, memRead]
theorem badCrcs_one (f : Nat → Word) :
    (List.range 26).filter (fun t => f t != get0 ((List.range 26).map fun t => (t, if t = 0 then f t + 1 else f t)) t) = [0] := by
  simp [List.range, List.range.loop, get0, memRead, ne_next]
theorem no_bad_tile : badKennelTiles (kennelEngine false goodCrcs) = [] := (badTiles_eq _ _).trans (goodCrcs_none (tileCrc []))
theorem one_bad_tile (r : Bool) : badKennelTiles (kennelEngine r badCrcs) = [0] := (badTiles_eq _ _).trans (badCrcs_one (tileCrc []))

/-- Slot 64 asks for no port. -/
def ownNothing : List Byte := [2, 64] ++ List.replicate 130 0
theorem own_inputs : portMap ownNothing 4 = [] := by decide +kernel
theorem own_outputs : portMap ownNothing 68 = [] := by decide +kernel
theorem owned_none (t : Nat) (o : Bool) (p : Nat) : ownsPort (open_ 0) t o p = false := by
  unfold ownsPort
  rw [show (if o = true then (open_ 0).fw.ownOut else (open_ 0).fw.ownIn) = Vector.replicate 512 none by cases o <;> rfl,
    Vector.getElem?_replicate]
  split <;> simp_all
theorem owned_now (k : Nat) (o : Bool) : portsOwned (open_ 0) k o = [] := by simp [portsOwned, owned_none]

theorem tile_length (c : Word) : (msg 0 (tilePart (zeros ++ [c]))).payload.length = 4112 := tilePart_length c

/-- A handshake as R328 asks: AES-128-GCM, P-256 and ECDSA. -/
def hello : Hello := { suite := 0x1301, group := 0x17, signature := 0x403, psk := false, key := [1] }
/-- A posted delta of a cycle with nothing in it but its trailer. -/
def delta (c : Nat) (crcs : List (Nat × Word)) : Delta := { cycle := c, changes := [], crcs := crcs }
theorem trailer_wrong (c p : Nat) (m : Mem) : trailerAgrees (delta c [(p, pageCrc m p + 1)]) m = false := by
  simp [trailerAgrees, delta]
/-- The engine holds its own key, and a client's in slot 64. -/
def keyed (n : Fin 65) (client : List Word) : Engine :=
  let own : KeySlot := { key := [2], inputs := [], outputs := [] }
  let slot : KeySlot := { key := client, inputs := [], outputs := [] }
  { open_ n with nvm := { NvmState.reset with keys := (NvmState.reset.keys.set 65 (some own)).set 64 (some slot) } }
theorem one_bad :
    ((List.range ((zeros ++ [crc32c zeros + 1]).length / 1024)).filter fun t => !tileOk (zeros ++ [crc32c zeros + 1]) t) = [0] := by
  rw [show (zeros ++ [crc32c zeros + 1]).length / 1024 = 1 by rw [List.length_append, zeros_length]; rfl]
  simp only [List.range, List.range.loop, List.filter_cons, bad_tile, List.filter_nil]
  rfl
theorem rec_words (c : Word) (b : Bool) :
    zeros ++ [c] = (slotOf NvmState.reset.img b).tiles ++ (List.replicate 992 0 ++ wordsOf (lastBlock c)) := by
  rw [lastBlock_words]; cases b <;> rfl
theorem last_tile (c : Word) : (zeros ++ [c]).length / 1024 - 1 = 0 := by simp [zeros_length]
theorem good_last : tileOk (zeros ++ [crc32c zeros]) ((zeros ++ [crc32c zeros]).length / 1024 - 1) = true := by rw [last_tile]; exact good_tile
theorem bad_last : tileOk (zeros ++ [crc32c zeros + 1]) ((zeros ++ [crc32c zeros + 1]).length / 1024 - 1) = false := by
  rw [last_tile]; exact bad_tile
/-- PI and TAP_K of every plane input within their bounds. -/
def inputWords : Mem := (List.range 256).map fun i => (calKey 2 i, 0x6A403E80)
theorem tile_taken (c : Word) : flpTaken (on (open_ 0)) 0 (msg 0 (tilePart (zeros ++ [c]))) := by
  refine ⟨by decide +kernel, rfl, ?_, ?_, rfl, rfl, ?_, by decide +kernel⟩
  · simp [msg, tilePart_length]
  · rw [tile_length]; decide
  · show 0 < (5 : BitVec 64).toNat; decide

/-! ### Terms that spell no transfer -/

theorem test_bad_op_refused : exec (.rteBadOp sup 1) (on base) = .refused (.illFormed "RTE_BAD_OP") := rfl
theorem test_bad_op_boundary : wellFormed (.rteBadOp sup 5) = false ∧ wellFormed (.rteBadOp sup 6) = true ∧ wellFormed (.rteBadOp sup 0) = true := by
  decide
theorem test_ill_op_refused : wellFormed (.lpIllOp lp0 0x06000008) = false ∧ wellFormed (.lpIllOp lp0 0x50000000) = true := by decide +kernel
theorem test_pin_unpin_apart :
    wellFormed (.flpPin 0 (msg 0 [0, 0, 0, 0, 1, 0, 0, 0])) = false ∧ wellFormed (.flpUnpin 0 (msg 0 (List.replicate 8 0))) = false := by decide
theorem test_key_rows_apart :
    wellFormed (.keyEnroll 0 (msg 0 [1])) = false ∧ wellFormed (.keyEnroll 0 (msg 0 [2])) = false ∧
    wellFormed (.keyRevoke 0 (msg 0 [0])) = false ∧ wellFormed (.keyOwn 0 (msg 0 [1])) = false := by decide
theorem test_fault_read_rows_apart :
    wellFormed (.faultRead 0 (msg 0 [1])) = false ∧ wellFormed (.faultReadClear 0 (msg 0 [0])) = false := by decide
theorem test_unknown_type_is_unknown :
    wellFormed (.flpUnknownType 0 0x11 (msg 0 [])) = false ∧ wellFormed (.flpUnknownType 0 0x12 (msg 0 [])) = true := by decide
theorem test_recovery_block_length : wellFormed (.recData 0 (List.replicate 127 0)) = false := by decide +kernel

/-! ### Words of the loop processors, written out from the spec -/

/-- Example 6-3: LOOP 1, #8 is 0x0600_0008. -/
theorem test_decode_loop : lpDecode lp0 0x06000008 = some (.loop lp0 0 (.imm 8)) := by decide +kernel
/-- Example 6-3: FTAP MAC A0, [P0]- > D0, [P4]- > D4 is 0x1D00_88C8. -/
theorem test_decode_ftap : lpDecode lp0 0x1D0088C8 = some (.ftap lp0 .add 0 ⟨0, ⟨.minus, 0⟩⟩ ⟨4, ⟨.minus, 0⟩⟩) := by decide +kernel
/-- R153: CLASS 0x2, OP 0x01, DST 3, SRC 1, no load. -/
theorem test_decode_add : lpDecode lp0 (0b0010_00001_11_01_000_0000_0_0_000_0000_000#32) = some (.add lp0 3 1 none) := by decide +kernel
/-- R153: CLASS 0x3, OP 5 (LDXA), D5, address 0x7FFF. -/
theorem test_decode_ldxa : lpDecode lp0 (0b0011_101_101_0000000_111111111111111#32) = some (.ldxa lp0 5 0x7FFF) := by decide +kernel
/-- R153: CLASS 0x4, OP 0 (LDI), Rd 0x09 (P1), 0x1234. -/
theorem test_decode_ldi : lpDecode lp0 (0b0100_00_001001_0000_0001001000110100#32) = some (.ldi lp0 9 0x1234) := by decide +kernel
/-- R152: class 5 is undefined. -/
theorem test_decode_undefined : lpDecode lp0 0x50000000 = none := by decide +kernel

/-! ### The worked examples of the spec -/

/-- Example 2-2: output line 301 of stage 0 reaches line 406 of stage 1, and line 173 of stage 15 line 346 of stage 16. -/
theorem test_fabric_wiring : nextLine 9 0 301 = 406 ∧ nextLine 9 15 173 = 346 := by decide +kernel
/-- Example 3-1: the cells of an eight-port network after a full PERMUTE. -/
theorem test_route_example : routeAll 3 [] [3, 7, 1, 4, 6, 0, 2, 5] (List.replicate 8 false) = some [3, 10, 11, 12, 13, 15, 16, 17, 18] := by
  decide +kernel
theorem test_route_targets : permOfCells 3 [3, 10, 11, 12, 13, 15, 16, 17, 18] = [3, 7, 1, 4, 6, 0, 2, 5] := by decide +kernel
/-- Example 5-1: S⁺ of slot 26 of lane 37 is written as 0x4435_45B8 at 0x7000_94D0. -/
theorem test_result_word :
    get0 (resultWrite 37 1464 (laneWith 37 fun x => { x with convs := [{ conv with slot := 26, seq := 0x44, range := 4, addr := 0x700094D0, leash := true }] })).sns.results
      0x700094D0 = 0x443545B8 := by decide +kernel
/-- Example 18-1: result addresses of lane 87, slot 20. -/
theorem test_result_address : resultAddr 87 20 0 = 0x70015CA0 ∧ resultAddr 87 20 1 = 0x70015CA4 := by decide +kernel
/-- Example 6-1: in bit-reversed order 0x0306 is followed by 0x0301. -/
theorem test_bit_reversed :
    (({ LpState.reset with p := LpState.reset.p.set 2 0x306, n := LpState.reset.n.set 2 1, m := LpState.reset.m.set 2 0x8003 } :
      LpState).update .plus 2).p[2] = 0x301 := by decide +kernel
/-- Example 6-2: in a buffer of five words at 0x0408, stepped by 2, 0x040C is followed by 0x0409; shortening to 3 folds 0x040B. -/
theorem test_circular :
    (({ LpState.reset with p := LpState.reset.p.set 1 0x40C, n := LpState.reset.n.set 1 2, m := LpState.reset.m.set 1 0x4005 } :
      LpState).update .plus 1).p[1] = 0x409 := by decide +kernel
theorem test_circular_fold :
    (({ LpState.reset with p := LpState.reset.p.set 1 0x40B, m := LpState.reset.m.set 1 0x4005 } : LpState).writeM 1 0x4003).p[1] = 0x408 := by
  decide +kernel
/-- Example 10-1: the first record of the ring. -/
theorem test_ring_record :
    ((ringEntry ⟨9, 17, 300, 31666667, 29999999400, 1, true, false, false⟩ base).fw.ring.headD []).take 5 = [0x0824232C, 0x01E331EB, 0, 0xFC23A9A8, 6] := by decide +kernel
/-- Example 8-1: the pilot terms of the window give VPI = 3.220 V and β = 1.1250, and these give B = 2,410. -/
theorem test_pilot_solution :
    (pilotSolve 17487 32 (2294 * fixOne) (67299 * fixOne) 8 (phasePerLsb 32000 false, fixOfQuot 112 100)).map
      (fun p => (roundHalfUp (fixPi * 60000) (32768 * p.1).toNat, roundHalfUp (p.2 * 32768) fixOne.toNat)) = some (32200, 36864) := by
  decide +kernel
theorem test_target_word : targetB 32200 36864 32 false false = some 2410 ∧ targetB 32200 36864 32 false true = some (-2410) := by
  decide +kernel
/-- CRC-32C of 32 bytes of zeros and of ones (RFC 3720, appendix B.4). -/
theorem test_crc : crc32c (List.replicate 8 0) = 0x8A9136AA ∧ crc32c (List.replicate 8 0xFFFFFFFF) = 0x62A8AB43 := by decide +kernel

/-! ### A step of the machine -/

/-- The command at the front of the queue runs, and leaves it. -/
theorem test_front_runs : step { pending := [.nop lp0, .jtagBypass], eng := lpEngine id } = exec (.nop lp0) { pending := [.jtagBypass], eng := lpEngine id } :=
  rfl
/-- No word of the table spells a command. -/
theorem test_no_table_word : decodeTableWord 32 0x06000008 = none ∧ (on base).withFetchWord 32 0 = on base := ⟨rfl, rfl⟩

/-- Example 19-1: ball BC20 carries ERR_N and BA20 carries VHN; I017 leaves on ribbon F00, position 18, and O300 on F25, position 13. -/
theorem test_example_19_1 :
    rowIndex "BC" = some 41 ∧ ballNet 41 20 = .signal "ERR_N" ∧ rowIndex "BA" = some 39 ∧ ballNet 39 20 = .vhn ∧
      portFibre false 17 = (0, 18) ∧ portFibre true 300 = (25, 13) := by decide +kernel

end Sys2Proof.Tests
end

