-- ==== Sys2Proof/Tests/Witnesses.lean ====
section
/-! SUPPORT. For every statement, states and operands that meet the hypotheses of each of its clauses. -/

namespace Sys2Proof.Tests

open Sys2Proof Sys2Proof.Machine Sys2Proof.Safety

set_option Elab.async false
set_option linter.unusedVariables false

/-- States and operands that meet the hypotheses of ClockReferences, clause by clause. -/
theorem witness_ClockReferences :
    (∃ (s : State) (b : Bus) (v : Word), may s b ∧ s.eng.switching = false) ∧
    (∃ (s : State) (b : Bus) (v : Word), may s b ∧ s.eng.switching = true) ∧
    (∃ (s : State), s.eng.mode ≠ .reset ∧ s.eng.switching = true) ∧
    (∃ (s : State) (tin : Bool), s.eng.mode ≠ .reset ∧ s.eng.missing tin = false ∧ s.eng.activeSrc = tin) ∧
    (∃ (s : State) (tin : Bool), s.eng.mode ≠ .reset ∧ s.eng.missing tin = false ∧ s.eng.activeSrc ≠ tin) ∧
    (∃ (s : State) (tin : Bool), s.eng.mode ≠ .reset ∧ s.eng.missing tin = true) ∧
    (∃ (s : State), s.eng.mode ≠ .reset ∧ s.eng.locked = true) ∧
    (∃ (s : State) (tin : Bool), s.eng.mode = .reset) :=
  ⟨⟨on base, sup, 0, by decide +kernel⟩,
   ⟨on ((base.putRbit Reg.sysClkStat 2 true)), sup, 0, by decide +kernel⟩,
   ⟨on ((base.putRbit Reg.sysClkStat 2 true)), by decide +kernel⟩,
   ⟨on base, false, by decide +kernel⟩,
   ⟨on base, true, by decide +kernel⟩,
   ⟨on { base with clk.refclkMissing := true }, false, by decide +kernel⟩,
   ⟨on ((base.putRbit Reg.sysClkStat 0 true)), by decide +kernel⟩,
   ⟨on (Engine.reset), false, by decide +kernel⟩⟩

/-- States and operands that meet the hypotheses of LoadEntry, clause by clause. -/
theorem witness_LoadEntry :
    (∃ (s : State), s.eng.sys.phase = .released ∧ s.eng.locked = false ∧ s.eng.missing s.eng.activeSrc = false) ∧
    (∃ (s : State), s.eng.sys.phase = .out ∧ s.eng.locked = false) ∧
    (∃ (s : State) (pins : Fin 4), s.eng.sys.phase = .porHeld) ∧
    (∃ (s : State) (pins : Fin 4) (n : Nat), s.eng.sys.phase = .timed n ∧ n + 25000 ≤ s.eng.tick) ∧
    (∃ (s : State) (pins : Fin 4) (n : Nat), s.eng.sys.phase = .timed n ∧ s.eng.tick < n + 25000) :=
  ⟨⟨on { Engine.reset with sys.phase := .released }, by decide +kernel⟩,
   ⟨on (base), by decide +kernel⟩,
   ⟨on (Engine.reset), 0, by decide +kernel⟩,
   ⟨on { Engine.reset with tick := 25000, sys.phase := .timed 0 }, 0, 0, by decide +kernel⟩,
   ⟨on { Engine.reset with tick := 24999, sys.phase := .timed 0 }, 0, 0, by decide +kernel⟩⟩

/-- States and operands that meet the hypotheses of PilotMonitor, clause by clause. -/
theorem witness_PilotMonitor :
    (∃ (s : State) (p : Fin 4096), s.eng.mode ≠ .reset ∧ s.eng.sys.pilotOn = true ∧ 9 * s.eng.pilotSet ≤ 10 * p.val) ∧
    (∃ (s : State) (p : Fin 4096), s.eng.mode ≠ .reset ∧ s.eng.sys.pilotOn = true ∧ 2 * p.val < s.eng.pilotSet ∧ s.eng.rbit Reg.sysPilotStat 2 = false) ∧
    (∃ (s : State) (p : Fin 4096), s.eng.mode ≠ .reset ∧ s.eng.rbit Reg.sysPilotStat 2 = true ∧ s.eng.pilotSet ≤ 2 * p.val) ∧
    (∃ (s : State) (p : Fin 4096), s.eng.mode ≠ .reset ∧ s.eng.sys.pilotOn = true ∧ 10 * p.val < 9 * s.eng.pilotSet) ∧
    (∃ (s : State) (p : Fin 4096), s.eng.mode ≠ .reset ∧ s.eng.sys.pilotOn = true ∧ s.eng.pilotSet ≤ 2 * p.val) ∧
    (∃ (s : State) (p : Fin 4096), s.eng.mode ≠ .reset ∧ s.eng.sys.pilotOn = true ∧ s.eng.rbit Reg.sysPilotStat 2 = true ∧ 2 * p.val < s.eng.pilotSet) :=
  ⟨⟨on { base with sys.pilotOn := true }, 0, by decide +kernel⟩,
   ⟨on { base with sys.pilotOn := true, nvm.image := some { image with pilotPower := 1000 } }, 0, by decide +kernel⟩,
   ⟨on ((base.putRbit Reg.sysPilotStat 2 true)), 0, by decide +kernel⟩,
   ⟨on { base with sys.pilotOn := true, nvm.image := some { image with pilotPower := 1000 } }, 0, by decide +kernel⟩,
   ⟨on { base with sys.pilotOn := true, nvm.image := some { image with pilotPower := 1000 } }, 500, by decide +kernel⟩,
   ⟨on { base.putRbit Reg.sysPilotStat 2 true with sys.pilotOn := true, nvm.image := some { image with pilotPower := 1000 } }, 0, by decide +kernel⟩⟩

/-- States and operands that meet the hypotheses of RouteCommands, clause by clause. -/
theorem witness_RouteCommands :
    (∃ (s : State) (b : Bus) (m : Bool) (i : Fin 512) (o : Fin 512) (t : Fin 64), may s b ∧ s.eng.memberOf b = some m ∧ routeFree s m ∧ i.val < s.eng.variant.ports ∧ o.val < s.eng.variant.ports ∧ mapConn (get0 s.eng.rte.base i) = false ∧ (∀ k < s.eng.variant.ports, mapConn (get0 s.eng.rte.base k) = true → mapOut (get0 s.eng.rte.base k) ≠ o.val)) ∧
    (∃ (s : State) (b : Bus) (m : Bool) (i : Fin 512) (o : Fin 512), may s b ∧ s.eng.memberOf b = some m ∧ routeFree s m ∧ i.val < s.eng.variant.ports ∧ o.val < s.eng.variant.ports ∧ mapConn (get0 s.eng.rte.base i) = true ∧ mapOut (get0 s.eng.rte.base i) = o.val ∧ mapPinned (get0 s.eng.rte.base i) = false) ∧
    (∃ (s : State) (b : Bus) (m : Bool), may s b ∧ s.eng.memberOf b = some m ∧ routeFree s m ∧ validate s.eng .permute (directReq s m (routeWord 3 0 0 0)) = none) ∧
    (∃ (s : State) (b : Bus) (m : Bool) (i : Fin 512) (o : Fin 512), may s b ∧ s.eng.memberOf b = some m ∧ routeFree s m ∧ i.val < s.eng.variant.ports ∧ o.val < s.eng.variant.ports ∧ mapConn (get0 s.eng.rte.base i) = true ∧ mapOut (get0 s.eng.rte.base i) = o.val) ∧
    (∃ (s : State) (b : Bus) (m : Bool) (i : Fin 512), may s b ∧ s.eng.memberOf b = some m ∧ routeFree s m ∧ i.val < s.eng.variant.ports ∧ mapConn (get0 s.eng.rte.base i) = true) ∧
    (∃ (s : State) (b : Bus) (m : Bool) (op : Fin 16), may s b ∧ s.eng.memberOf b = some m ∧ routeFree s m ∧ (op.val = 0 ∨ 5 < op.val)) ∧
    (∃ (s : State) (c : Instr) (b : Bus) (m : Bool) (w : Word), directWrite c = some (b, w) ∧ wellFormed c = true ∧ may s b ∧ s.eng.memberOf b = some m ∧ routeNumber s m ∧ s.eng.rte.job = none ∧ s.eng.rte.held = none ∧ s.eng.mode ≠ .hold ∧ s.eng.mode ≠ .run) ∧
    (∃ (s : State) (c : Instr) (b : Bus) (m : Bool) (w : Word), directWrite c = some (b, w) ∧ wellFormed c = true ∧ may s b ∧ s.eng.memberOf b = some m ∧ s.eng.rte.accepted = true ∧ stagedSeq s m ≤ (s.eng.reg Reg.rteLastSeqHi).toNat * 2 ^ 32 + (s.eng.reg Reg.rteLastSeqLo).toNat) ∧
    (∃ (s : State) (c : Instr) (b : Bus) (m : Bool) (w : Word), directWrite c = some (b, w) ∧ wellFormed c = true ∧ may s b ∧ s.eng.memberOf b = some m ∧ routeNumber s m ∧ (s.eng.rte.job.isSome = true ∨ s.eng.rte.held.isSome = true)) :=
  ⟨⟨on base, sup, false, 511, 511, 63, by decide +kernel⟩,
   ⟨on { base with rte.base := [(511, 0x800001FF)] }, sup, false, 511, 511, by decide +kernel⟩,
   ⟨on base, sup, false, by decide +kernel⟩,
   ⟨on { base with rte.base := [(511, 0x800001FF)] }, sup, false, 511, 511, by decide +kernel⟩,
   ⟨on { base with rte.base := [(511, 0x800001FF)] }, sup, false, 511, by decide +kernel⟩,
   ⟨on base, sup, false, 6, by decide +kernel⟩,
   ⟨on { base with mode := .load }, .rteAdd sup 1 2 3, sup, false, routeWord 1 1 2 3, by decide +kernel⟩,
   ⟨on { base with rte.accepted := true }, .rteUnpin sup 511, sup, false, routeWord 5 511 0 0, by decide +kernel⟩,
   ⟨on { base with rte.job := some job }, .rtePermute sup, sup, false, routeWord 3 0 0 0, by decide +kernel⟩⟩

/-- States and operands that meet the hypotheses of RouteResults, clause by clause. -/
theorem witness_RouteResults :
    (∃ (s : State) (j : RouteJob) (i : Issued) (r : RouteResult), s.eng.rte.job = some j ∧ s.eng.sch.issued = some i ∧ j.cancelled = false ∧ j.aborted = false ∧ computeRoute s.eng j = some r) ∧
    (∃ (s : State) (j : RouteJob) (i : Issued), s.eng.rte.job = some j ∧ s.eng.sch.issued = some i ∧ (j.cancelled = true ∨ j.aborted = true ∨ computeRoute s.eng j = none)) ∧
    (∃ (s : State) (b : Bus) (j : RouteJob), may s b ∧ s.eng.rte.job = some j) ∧
    (∃ (s : State) (h : RouteResult) (i : Issued), s.eng.rte.held = some h ∧ s.eng.sch.issued = some i ∧ (s.eng.mode = .hold ∨ s.eng.mode = .run) ∧ s.eng.builderFree = true ∧ s.eng.drv.lock = .free) ∧
    (∃ (s : State) (c : Commit), s.eng.sch.commit = some c ∧ c.stage = .building ∧ s.eng.mode = .hold) ∧
    (∃ (s : State) (c : Commit), s.eng.sch.commit = some c ∧ c.stage = .building ∧ s.eng.mode = .run) :=
  ⟨⟨on (routeEngine), job, issue, routed, rfl, rfl, rfl, rfl, routed_eq⟩,
   ⟨on { base with rte.job := some { job with aborted := true }, sch.issued := some issue }, { job with aborted := true }, issue, by decide +kernel⟩,
   ⟨on { base with rte.job := some job }, sup, job, by decide +kernel⟩,
   ⟨on { base with rte.held := some result, sch.issued := some issue }, result, issue, by decide +kernel⟩,
   ⟨on { base with sch.commit := some (commit .building) }, commit .building, by decide +kernel⟩,
   ⟨on { base with mode := .run, sch.commit := some (commit .building) }, commit .building, by decide +kernel⟩⟩

/-- States and operands that meet the hypotheses of DriveLoader, clause by clause. -/
theorem witness_DriveLoader :
    (∃ (s : State) (n : Nat), s.eng.drv.loader = .verify n ∧ s.eng.drv.reseedDue = false ∧ (∀ t ∈ s.eng.drv.dirty, tileCrc s.eng.drv.staged t = get0 s.eng.drv.crcStaged t)) ∧
    (∃ (s : State) (n : Nat) (c : Commit) (t0 : Nat) (l1 : List Nat) (l2 : List Nat) (flips : List (Nat × Word)), s.eng.drv.loader = .verify n ∧ s.eng.drv.reseedDue = false ∧ s.eng.drv.dirty = l1 ++ t0 :: l2 ∧ t0 < 256 ∧ s.eng.sch.commit = some c ∧ c.stage = .verifying ∧ (∀ t ∈ l1, tileCrc (upset s.eng.drv.staged flips) t = get0 s.eng.drv.crcStaged t) ∧ tileCrc (upset s.eng.drv.staged flips) t0 ≠ get0 s.eng.drv.crcStaged t0) ∧
    (∃ (s : State) (n : Nat) (t0 : Nat) (l : List Nat) (flips : List (Nat × Word)), s.eng.drv.loader = .verify n ∧ s.eng.drv.reseedDue = false ∧ s.eng.drv.dirty = t0 :: l ∧ t0 < 256 ∧ s.eng.sch.commit = none ∧ s.eng.cal.fold = .building ∧ tileCrc (upset s.eng.drv.staged flips) t0 ≠ get0 s.eng.drv.crcStaged t0) ∧
    (∃ (s : State), s.eng.drv.reseedDue = true) ∧
    (∃ (s : State) (n : Nat), s.eng.drv.loader = .reseed n ∧ s.eng.drv.waiting = []) ∧
    (∃ (s : State), scrubsNow s ∧ s.eng.drv.scrubArea = 1 ∧ tileCrc s.eng.drv.active s.eng.drv.scrubTile = get0 s.eng.drv.crcActive s.eng.drv.scrubTile) ∧
    (∃ (s : State), scrubsNow s ∧ s.eng.drv.scrubArea = 0 ∧ s.eng.stagedLocked = true ∧ 1 < s.eng.variant.tiles ∧ tileCrc s.eng.drv.active 0 = get0 s.eng.drv.crcActive 0) ∧
    (∃ (s : State) (flips : List (Nat × Word)), scrubsNow s ∧ s.eng.drv.scrubArea = 1 ∧ s.eng.drv.scrubTile < 256 ∧ s.eng.drv.crcActive ≠ [] ∧ tileCrc (upset s.eng.drv.active flips) s.eng.drv.scrubTile ≠ get0 s.eng.drv.crcActive s.eng.drv.scrubTile) ∧
    (∃ (s : State) (flips : List (Nat × Word)), scrubsNow s ∧ s.eng.drv.scrubArea = 0 ∧ s.eng.stagedLocked = false ∧ s.eng.drv.scrubTile < 256 ∧ s.eng.drv.crcStaged ≠ [] ∧ s.eng.unverifiedCommit = false ∧ s.eng.cal.fold ≠ .building ∧ tileCrc (upset s.eng.drv.staged flips) s.eng.drv.scrubTile ≠ get0 s.eng.drv.crcStaged s.eng.drv.scrubTile) ∧
    (∃ (s : State) (flips : List (Nat × Word)), scrubsNow s ∧ s.eng.drv.scrubArea = 0 ∧ s.eng.stagedLocked = false ∧ s.eng.drv.scrubTile < 256 ∧ s.eng.drv.crcStaged ≠ [] ∧ s.eng.unverifiedCommit = true ∧ tileCrc (upset s.eng.drv.staged flips) s.eng.drv.scrubTile ≠ get0 s.eng.drv.crcStaged s.eng.drv.scrubTile) ∧
    (∃ (s : State) (flips : List (Nat × Word)), scrubsNow s ∧ s.eng.drv.scrubArea = 2 ∧ s.eng.drv.kennelCrc ≠ [] ∧ tileCrc (upset s.eng.drv.kennelBuf flips) s.eng.drv.scrubTile ≠ get0 s.eng.drv.kennelCrc s.eng.drv.scrubTile) ∧
    (∃ (s : State) (tile : Nat), s.eng.drv.scrubFix = some tile) ∧
    (∃ (s : State) (tile : Nat) (a : Fin 16777216), s.eng.drv.scrubFix = some tile ∧ tile < 256) :=
  ⟨⟨on { base with drv.loader := .verify 0 }, 0, by decide +kernel⟩,
   ⟨on { base with drv.loader := .verify 0, drv.dirty := [0], drv.crcStaged := [(0, tileCrc [] 0 + 1)], sch.commit := some (commit .verifying) }, 0, commit .verifying, 0, [], [], [], by decide +kernel, by decide +kernel, by decide +kernel, by decide +kernel, by decide +kernel, by decide +kernel, by decide +kernel, crc_wrong _ _⟩,
   ⟨on { base with drv.loader := .verify 0, drv.dirty := [0], drv.crcStaged := [(0, tileCrc [] 0 + 1)], cal.fold := .building }, 0, 0, [], [], by decide +kernel, by decide +kernel, by decide +kernel, by decide +kernel, by decide +kernel, by decide +kernel, crc_wrong _ _⟩,
   ⟨on { base with drv.reseedDue := true }, by decide +kernel⟩,
   ⟨on { base with drv.loader := .reseed 0 }, 0, by decide +kernel⟩,
   ⟨on { (base.putRbit Reg.drvCtl 3 true) with drv.scrubArea := 1, drv.scrubTile := 134, drv.crcActive := [(134, tileCrc [] 134)] }, by decide +kernel, by decide +kernel, crc_right _ _⟩,
   ⟨on { (base.putRbit Reg.drvCtl 3 true) with drv.lock := .held, drv.crcActive := [(0, tileCrc [] 0)] }, by decide +kernel, by decide +kernel, by decide +kernel, by decide +kernel, crc_right _ _⟩,
   ⟨on { (base.putRbit Reg.drvCtl 3 true) with sys.sweepsSinceKennel := some 0, drv.scrubArea := 1, drv.scrubTile := 255, drv.crcActive := [(255, tileCrc [] 255 + 1)] }, [], by decide +kernel, by decide +kernel, by decide +kernel, by decide +kernel, crc_wrong _ _⟩,
   ⟨on { (base.putRbit Reg.drvCtl 3 true) with sys.sweepsSinceKennel := some 0, drv.crcStaged := [(0, tileCrc [] 0 + 1)] }, [], by decide +kernel, by decide +kernel, by decide +kernel, by decide +kernel, by decide +kernel, by decide +kernel, by decide +kernel, crc_wrong _ _⟩,
   ⟨on { (base.putRbit Reg.drvCtl 3 true) with drv.crcStaged := [(0, tileCrc [] 0 + 1)], sch.commit := some (commit .building) }, [], by decide +kernel, by decide +kernel, by decide +kernel, by decide +kernel, by decide +kernel, by decide +kernel, crc_wrong _ _⟩,
   ⟨on { (base.putRbit Reg.drvCtl 3 true) with drv.scrubArea := 2, drv.kennelCrc := [(0, tileCrc [] 0 + 1)] }, [], by decide +kernel, by decide +kernel, by decide +kernel, crc_wrong _ _⟩,
   ⟨on { base with drv.scrubFix := some 255 }, 255, by decide +kernel⟩,
   ⟨on { base with drv.scrubFix := some 255 }, 255, 0, by decide +kernel⟩⟩

/-- States and operands that meet the hypotheses of WhistleEffect, clause by clause. -/
theorem witness_WhistleEffect :
    ∃ (s : State) (missed : List (Fin 34)) (c : Commit), s.eng.mode ≠ .reset ∧ commitDue s.eng = some c :=
  ⟨on { base with sch.commit := some (commit (.armed 10000000)) }, [], commit (.armed 10000000), by decide +kernel⟩

/-- States and operands that meet the hypotheses of DriveChecks, clause by clause. -/
theorem witness_DriveChecks :
    (∃ (s : State) (l : LastWhistle) (b : Nat) (bs : List Nat), s.eng.drv.last = some l ∧ l.ackChecked = false ∧ l.edge + 4 ≤ s.eng.tick ∧ l.missed.foldl (fun acc b => insertNat b acc) [] = b :: bs) ∧
    (∃ (s : State) (l : LastWhistle), s.eng.drv.last = some l ∧ l.ackChecked = false ∧ l.edge + 4 ≤ s.eng.tick ∧ l.missed = []) ∧
    (∃ (s : State) (b : Bus) (v : Word), may s b) ∧
    (∃ (s : State) (b : Bus) (k : Nat) (e : Nat) (l : List (Nat × Nat)), may s b ∧ s.eng.drv.fifo = (k, e) :: l ∧ k < 4 ∧ e < 65536) ∧
    (∃ (s : State) (l : LastWhistle) (e : Nat) (q : Nat), s.eng.mode ≠ .reset ∧ s.eng.drv.last = some l ∧ l.openChecked = false ∧ l.edge + 19 ≤ s.eng.tick ∧ s.eng.rbit Reg.drvCtl 0 = true ∧ l.changed = [e] ∧ s.eng.drv.fifo.length < 64 ∧ s.eng.rfld Reg.drvOpenThr 8 8 * 65536 ≤ 10 * stepOf s l e ∧ q * 100 * 65536 < s.eng.rfld Reg.drvOpenThr 0 7 * (capacitance s.eng.cal.live.words e * stepOf s l e * 1000)) ∧
    (∃ (s : State) (l : LastWhistle) (e : Nat) (q : Nat), s.eng.mode ≠ .reset ∧ s.eng.drv.last = some l ∧ l.openChecked = false ∧ l.edge + 19 ≤ s.eng.tick ∧ l.changed = [e] ∧ s.eng.rfld Reg.drvOpenThr 0 7 * (capacitance s.eng.cal.live.words e * stepOf s l e * 1000) ≤ q * 100 * 65536) ∧
    (∃ (s : State) (e : Fin 34816) (excess : Nat) (since : Nat), s.eng.mode ≠ .reset ∧ s.eng.drv.clamped = false ∧ s.eng.rbit Reg.drvCtl 1 = true ∧ e.val < s.eng.variant.elements ∧ s.eng.drv.fifo.length < 64 ∧ s.eng.rfld Reg.drvLeakThr 0 8 < excess ∧ since + 2500 * s.eng.rfld Reg.drvLeakThr 16 8 ≤ s.eng.tick ∧ leakBlanked s.eng e = false) ∧
    (∃ (s : State) (e : Fin 34816) (excess : Nat) (since : Nat), (excess ≤ s.eng.rfld Reg.drvLeakThr 0 8 ∨ s.eng.tick < since + 2500 * s.eng.rfld Reg.drvLeakThr 16 8 ∨ leakBlanked s.eng e = true)) :=
  ⟨⟨on { base with drv.last := some { lastWhistle with missed := [33], edge := 9999996 } }, { lastWhistle with missed := [33], edge := 9999996 }, 33, [], by decide +kernel⟩,
   ⟨on { base with drv.last := some lastWhistle }, lastWhistle, by decide +kernel⟩,
   ⟨on base, sup, 0, by decide +kernel⟩,
   ⟨on { base with drv.fifo := [(3, 65535)] }, sup, 3, 65535, [], by decide +kernel⟩,
   ⟨on { (base.putRbit Reg.drvCtl 0 true).putRfld Reg.drvOpenThr 0 8 0x0A with drv.last := some lastWhistle, drv.cellActive := [(5, 0x7FFF)], cal.live.words := [(21, 0x7FFF0000)] }, lastWhistle, 5, 0, by decide +kernel⟩,
   ⟨on { base with drv.last := some lastWhistle }, lastWhistle, 5, 0, by decide +kernel⟩,
   ⟨on { (base.putRbit Reg.drvCtl 1 true) with drv.clamped := false }, 34815, 21, 0, by decide +kernel⟩,
   ⟨on base, 0, 0, 0, by decide +kernel⟩⟩

/-- States and operands that meet the hypotheses of KennelImage, clause by clause. -/
theorem witness_KennelImage :
    (∃ (s : State) (r : Bool) (n : Nat), s.eng.drv.loader = .kennel false r n ∧ s.eng.mode ≠ .load ∧ badKennelTiles s.eng = []) ∧
    (∃ (s : State) (r : Bool) (n : Nat), s.eng.drv.loader = .kennel false r n ∧ s.eng.mode = .load) ∧
    (∃ (s : State) (n : Nat) (tile : Nat) (l : List Nat), s.eng.drv.loader = .kennel false false n ∧ s.eng.mode ≠ .load ∧ badKennelTiles s.eng = tile :: l) ∧
    (∃ (s : State) (n : Nat) (tile : Nat) (l : List Nat), s.eng.drv.loader = .kennel false true n ∧ s.eng.mode ≠ .load ∧ tile < 256 ∧ badKennelTiles s.eng = tile :: l ∧ s.eng.pwr.recovering = false) ∧
    (∃ (s : State) (t0 : Nat), s.eng.drv.loader = .kennelReload t0) ∧
    (∃ (s : State) (missed : List (Fin 34)) (r : Bool) (n : Nat), s.eng.mode ≠ .reset ∧ s.eng.drv.loader = .kennel true r n ∧ n < s.eng.tick) :=
  ⟨⟨on (kennelEngine false goodCrcs), false, 0, by decide +kernel, by decide +kernel, no_bad_tile⟩,
   ⟨on { base with mode := .load, drv.loader := .kennel false false 0 }, false, 0, by decide +kernel⟩,
   ⟨on (kennelEngine false badCrcs), 0, 0, [], by decide +kernel, by decide +kernel, one_bad_tile _⟩,
   ⟨on (kennelEngine true badCrcs), 0, 0, [], by decide +kernel, by decide +kernel, by decide +kernel, one_bad_tile _, by decide +kernel⟩,
   ⟨on { base with drv.loader := .kennelReload 0 }, 0, by decide +kernel⟩,
   ⟨on { base with drv.loader := .kennel true false 9999999 }, [], false, 9999999, by decide +kernel⟩⟩

/-- States and operands that meet the hypotheses of ScentGenerators, clause by clause. -/
theorem witness_ScentGenerators :
    (∃ (s : State), s.eng.mode ≠ .reset ∧ s.eng.drv.scentTick + 250 ≤ s.eng.tick) ∧
    (∃ (s : State), s.eng.tick < s.eng.drv.scentTick + 250) ∧
    (∃ (s : State) (b : Bus) (g : Fin 8) (v : Word), may s b ∧ fld v 16 16 < s.eng.variant.elements) ∧
    (∃ (s : State) (b : Bus) (g : Fin 8) (v : Word), may s b ∧ s.eng.variant.elements ≤ fld v 16 16) :=
  ⟨⟨on base, by decide +kernel⟩,
   ⟨on { base with drv.scentTick := 9999999 }, by decide +kernel⟩,
   ⟨on base, sup, 0, 34815 <<< 16, by decide +kernel⟩,
   ⟨on base, sup, 0, 34816 <<< 16, by decide +kernel⟩⟩

/-- States and operands that meet the hypotheses of Conversions, clause by clause. -/
theorem witness_Conversions :
    (∃ (s : State) (l : Fin 544) (slot : Nat) (half : Nat) (rest : List (Nat × Nat × Bool)), s.eng.mode ≠ .reset ∧ s.eng.coincident = true ∧ (s.eng.lane l).todo = (slot, half, false) :: rest ∧ slot < 68 ∧ (if l.val < 512 then s.eng.sns.sweepStart else s.eng.sns.scanStart) + 250 * (s.eng.lane l).made ≤ s.eng.tick ∧ (s.eng.lane l).testAct = false) ∧
    (∃ (s : State) (l : Fin 544) (half : Nat) (rest : List (Nat × Nat × Bool)), s.eng.mode ≠ .reset ∧ s.eng.coincident = true ∧ l.val < 512 ∧ (s.eng.lane l).todo = (73, half, false) :: rest ∧ half < 2 ∧ s.eng.sns.sweepStart + 250 * (s.eng.lane l).made ≤ s.eng.tick) ∧
    (∃ (s : State) (l : Fin 544) (code : Fin 4096) (c : Conv) (cs : List Conv), s.eng.mode ≠ .reset ∧ (s.eng.lane l).convs = cs ++ [c] ∧ c.start + 64 ≤ s.eng.tick ∧ c.sample = none ∧ judged s.eng l c = true) ∧
    (∃ (s : State) (l : Fin 544) (code : Fin 4096) (c : Conv) (cs : List Conv), (s.eng.lane l).convs = cs ++ [c] ∧ judged s.eng l c = false) ∧
    (∃ (s : State) (b : Bus) (l : Fin 544) (v : Word), may s b ∧ fld v 0 3 < 6 ∧ fld v 8 2 < 3 ∧ hasSlot l (fld v 23 7) = true ∧ ((bit v 31 = false ∧ bit v 30 = false) ∨ s.eng.mode = .calibrate)) ∧
    (∃ (s : State) (b : Bus) (l : Fin 544) (v : Word), may s b ∧ bit v 31 = false ∧ bit v 30 = false) ∧
    (∃ (s : State) (b : Bus) (l : Fin 544) (v : Word), may s b ∧ (bit v 31 = true ∨ bit v 30 = true) ∧ s.eng.mode ≠ .calibrate) :=
  ⟨⟨on { laneWith 0 fun x => { x with todo := [(67, 0, false)] } with sns.sweepStart := 10000000 }, 0, 67, 0, [], by decide +kernel⟩,
   ⟨on { laneWith 0 fun x => { x with todo := [(73, 0, false)] } with sns.sweepStart := 10000000 }, 0, 0, [], by decide +kernel⟩,
   ⟨on { laneWith 0 fun x => { x with convs := [conv] } with cal.live.words := [(3 * 2 ^ 18, 0x80000000)] }, 0, 0, conv, [], by decide +kernel⟩,
   ⟨on (laneWith 0 fun x => { x with convs := [conv] }), 0, 0, conv, [], by decide +kernel⟩,
   ⟨on { base with mode := .calibrate }, sup, 0, 0xC3800205, by decide +kernel⟩,
   ⟨on base, sup, 0, 0, by decide +kernel⟩,
   ⟨on base, sup, 0, 0x40000000, by decide +kernel⟩⟩

/-- States and operands that meet the hypotheses of LaneResults, clause by clause. -/
theorem witness_LaneResults :
    (∃ (s : State) (l : Fin 544) (code : Fin 4096) (c : Conv) (rest : List Conv), s.eng.mode ≠ .reset ∧ (s.eng.lane l).convs = c :: rest ∧ c.start + 252 ≤ s.eng.tick ∧ c.dummy = false ∧ c.seq < 256 ∧ c.slot < 72 ∧ c.range < 8 ∧ c.sample.getD code < 4096) ∧
    (∃ (s : State) (l : Fin 544) (code : Fin 4096) (c : Conv) (rest : List Conv), s.eng.mode ≠ .reset ∧ (s.eng.lane l).convs = c :: rest ∧ c.start + 252 ≤ s.eng.tick ∧ c.dummy = true) ∧
    (∃ (s : State) (l : Fin 544) (code : Fin 4096) (c : Conv) (rest : List Conv), s.eng.mode ≠ .reset ∧ (l.val < 512 ∨ s.eng.portOn = false) ∧ (s.eng.lane l).convs = c :: rest ∧ c.start + 252 ≤ s.eng.tick ∧ c.dummy = false ∧ c.slot = 68 ∧ c.sample = none ∧ (code.val < 2007 ∨ 2089 < code.val ∧ code.val < 4095)) ∧
    (∃ (s : State) (l : Fin 544) (code : Fin 4096) (c : Conv) (rest : List Conv), s.eng.mode ≠ .reset ∧ (l.val < 512 ∨ s.eng.portOn = false) ∧ (s.eng.lane l).convs = c :: rest ∧ c.start + 252 ≤ s.eng.tick ∧ c.dummy = false ∧ c.slot = 71 ∧ c.stale = false ∧ c.sample = none ∧ code.val < 4095 ∧ 25 * c.tdac < 2 * (32 * ((code.val : Int) - 64) - 125 * (c.tdac : Int)).natAbs) ∧
    (∃ (s : State) (l : Fin 544) (code : Fin 4096) (c : Conv) (rest : List Conv), s.eng.mode ≠ .reset ∧ (l.val < 512 ∨ s.eng.portOn = false) ∧ (s.eng.lane l).convs = c :: rest ∧ c.start + 252 ≤ s.eng.tick ∧ c.dummy = false ∧ c.slot < 68 ∧ c.sample = none ∧ code.val = 4095) :=
  ⟨⟨on (laneWith 543 fun x => { x with convs := [{ conv with slot := 71, seq := 255, range := 7 }] }), 543, 0, { conv with slot := 71, seq := 255, range := 7 }, [], by decide +kernel⟩,
   ⟨on (laneWith 0 fun x => { x with convs := [{ conv with dummy := true }] }), 0, 0, { conv with dummy := true }, [], by decide +kernel⟩,
   ⟨on (laneWith 512 fun x => { x with convs := [{ conv with slot := 68 }] }), 512, 2006, { conv with slot := 68 }, [], by decide +kernel⟩,
   ⟨on (laneWith 512 fun x => { x with convs := [{ conv with slot := 71 }] }), 512, 4094, { conv with slot := 71 }, [], by decide +kernel⟩,
   ⟨on (laneWith 512 fun x => { x with convs := [conv] }), 512, 4095, conv, [], by decide +kernel⟩⟩

/-- States and operands that meet the hypotheses of LaneBoundaries, clause by clause. -/
theorem witness_LaneBoundaries :
    (∃ (s : State), s.eng.mode ≠ .reset ∧ s.eng.coincident = true ∧ whistleDue s.eng = false ∧ s.eng.sns.sweepRun = true ∧ (sweepDue s.eng = true ∨ sweepCutDue s.eng = true)) ∧
    (∃ (s : State) (img : Image), s.eng.mode = .load ∧ s.eng.coincident = true ∧ whistleDue s.eng = false ∧ s.eng.sns.sweepRun = false ∧ s.eng.nvm.shadow = some img) ∧
    (∃ (s : State), whistleDue s.eng = true) ∧
    (∃ (s : State), s.eng.mode ≠ .reset ∧ s.eng.coincident = true ∧ whistleDue s.eng = false ∧ (scanDue s.eng = true ∨ scanCutDue s.eng = true)) ∧
    (∃ (s : State), s.eng.sns.sweepRun = true ∧ s.eng.sns.paused = false ∧ 0 < s.eng.pwr.pauseInForce ∧ s.eng.sns.sweepStart + 34000 ≤ s.eng.tick) :=
  ⟨⟨on { base with sns.sweepRun := true, sns.sweepStart := 9966000 }, by decide +kernel⟩,
   ⟨on { base with mode := .load, nvm.shadow := some image }, image, by decide +kernel⟩,
   ⟨on { base with drv.loader := .kennel true false 9999999 }, by decide +kernel⟩,
   ⟨on { base with sns.scanRun := true, sns.scanStart := 9984000 }, by decide +kernel⟩,
   ⟨on { base with sns.sweepRun := true, sns.sweepStart := 9966000, pwr.pauseInForce := 1 }, by decide +kernel⟩⟩

/-- States and operands that meet the hypotheses of MachineFrame, clause by clause. -/
theorem witness_MachineFrame :
    ∃ (s : State) (i : Instr) (c : Lp), lpRowOf i = some c ∧ fetches s c :=
  ⟨on (lpEngine id), .nop lp0, lp0, by decide +kernel⟩

/-- States and operands that meet the hypotheses of AluResults, clause by clause. -/
theorem witness_AluResults :
    (∃ (s : State) (i : Instr) (c : Lp) (d : Fin 4) (f : LpState → Int), modifies i = some (c, d, f) ∧ fetches s c ∧ (s.eng.lp c.k).clamp[d] = false ∧ -(2 ^ 39) ≤ f (s.eng.lp c.k) ∧ f (s.eng.lp c.k) < 2 ^ 39) ∧
    (∃ (s : State) (i : Instr) (c : Lp) (d : Fin 4) (f : LpState → Int), modifies i = some (c, d, f) ∧ fetches s c ∧ (s.eng.lp c.k).clamp[d] = false ∧ 2 ^ 39 ≤ f (s.eng.lp c.k)) ∧
    (∃ (s : State) (i : Instr) (c : Lp) (d : Fin 4) (f : LpState → Int), modifies i = some (c, d, f) ∧ fetches s c ∧ (s.eng.lp c.k).clamp[d] = false ∧ f (s.eng.lp c.k) < -(2 ^ 39)) ∧
    (∃ (s : State) (i : Instr) (c : Lp) (d : Fin 4) (f : LpState → Int), modifies i = some (c, d, f) ∧ fetches s c ∧ (s.eng.lp c.k).clamp[d] = true) :=
  ⟨⟨on (lpEngine fun x => { x with d := x.d.set 0 0x7FFF }), .addd lp0 0 0 none, lp0, 0, fun x => x.acc 0 + (x.d[(0 : Fin 8)]).toInt * 2 ^ 16, rfl, by decide +kernel⟩,
   ⟨on (lpEngine fun x => { x with a := x.a.set 0 (BitVec.ofInt 40 (2 ^ 39 - 1)), d := x.d.set 0 1 }), .addd lp0 0 0 none, lp0, 0, fun x => x.acc 0 + (x.d[(0 : Fin 8)]).toInt * 2 ^ 16, rfl, by decide +kernel⟩,
   ⟨on (lpEngine fun x => { x with a := x.a.set 0 (BitVec.ofInt 40 (-(2 ^ 39))), d := x.d.set 0 1 }), .subd lp0 0 0 none, lp0, 0, fun x => x.acc 0 - (x.d[(0 : Fin 8)]).toInt * 2 ^ 16, rfl, by decide +kernel⟩,
   ⟨on (lpEngine fun x => { x with clamp := x.clamp.set 3 true }), .neg lp0 3 none, lp0, 3, fun x => -x.acc 3, rfl, by decide +kernel⟩⟩

/-- States and operands that meet the hypotheses of AluWrites, clause by clause. -/
theorem witness_AluWrites :
    (∃ (s : State) (c : Lp) (d : Fin 4), fetches s c) ∧
    (∃ (s : State) (c : Lp) (d : Fin 4) (r : Fin 8), fetches s c) ∧
    (∃ (s : State) (c : Lp) (d : Fin 4) (n : Fin 4), fetches s c) ∧
    (∃ (s : State) (c : Lp) (d : Fin 4) (n : Fin 4), fetches s c) ∧
    (∃ (s : State) (c : Lp) (r : Fin 8), fetches s c) ∧
    (∃ (s : State) (c : Lp) (d : Fin 4) (r : Fin 8), fetches s c ∧ (s.eng.lp c.k).clamp[d] = false ∧ (s.eng.lp c.k).d[r].toInt * 2 ^ 16 < (s.eng.lp c.k).acc d ∧ 0 ≤ (s.eng.lp c.k).d[r].toInt) ∧
    (∃ (s : State) (c : Lp) (d : Fin 4) (r : Fin 8), fetches s c ∧ (s.eng.lp c.k).clamp[d] = false ∧ (s.eng.lp c.k).d[r].toInt < 0 ∧ (s.eng.lp c.k).acc d ≠ 0) ∧
    (∃ (s : State) (c : Lp) (d : Fin 4) (r : Fin 8), fetches s c ∧ (s.eng.lp c.k).clamp[d] = false ∧ (s.eng.lp c.k).acc d ≤ (s.eng.lp c.k).d[r].toInt * 2 ^ 16 ∧ -((s.eng.lp c.k).d[r].toInt * 2 ^ 16) ≤ (s.eng.lp c.k).acc d) ∧
    (∃ (s : State) (c : Lp) (d : Fin 4) (r : Fin 8) (ea : Ea4), fetches s c ∧ (s.eng.lp c.k).clamp[d] = false ∧ -(2 ^ 39) ≤ (s.eng.lp c.k).acc d + (s.eng.lp c.k).d[r].toInt * 2 ^ 16 ∧ (s.eng.lp c.k).acc d + (s.eng.lp c.k).d[r].toInt * 2 ^ 16 < 2 ^ 39 ∧ ((s.eng.lp c.k).p[xPtr ea]).toNat < 0x4000) ∧
    (∃ (s : State) (c : Lp) (d : Fin 4) (r : Fin 8) (ea : Ea4), fetches s c) :=
  ⟨⟨on (lpEngine id), lp0, 0, by decide +kernel⟩,
   ⟨on (lpEngine id), lp0, 0, 0, by decide +kernel⟩,
   ⟨on (lpEngine id), lp0, 0, 0, by decide +kernel⟩,
   ⟨on (lpEngine id), lp0, 0, 0, by decide +kernel⟩,
   ⟨on (lpEngine id), lp0, 0, by decide +kernel⟩,
   ⟨on (lpEngine fun x => { x with a := x.a.set 0 (BitVec.ofInt 40 (2 ^ 16 + 1)), d := x.d.set 0 1 }), lp0, 0, 0, by decide +kernel⟩,
   ⟨on (lpEngine fun x => { x with a := x.a.set 0 1, d := x.d.set 0 0xFFFF }), lp0, 0, 0, by decide +kernel⟩,
   ⟨on (lpEngine id), lp0, 0, 0, by decide +kernel⟩,
   ⟨on (lpEngine id), lp0, 0, 0, ⟨.plus, 0⟩, by decide +kernel⟩,
   ⟨on (lpEngine id), lp0, 0, 0, ⟨.plus, 0⟩, by decide +kernel⟩⟩

/-- States and operands that meet the hypotheses of Multiplies, clause by clause. -/
theorem witness_Multiplies :
    (∃ (s : State) (c : Lp) (k : Fin 4) (x : Fin 8) (y : Fin 8), fetches s c ∧ (s.eng.lp c.k).frac = false) ∧
    (∃ (s : State) (c : Lp) (k : Fin 4) (x : Fin 8) (y : Fin 8), fetches s c ∧ (s.eng.lp c.k).frac = true ∧ (s.eng.lp c.k).d[x].toInt * (s.eng.lp c.k).d[y].toInt ≠ 2 ^ 30) ∧
    (∃ (s : State) (c : Lp) (k : Fin 4) (x : Fin 8) (y : Fin 8), fetches s c ∧ (s.eng.lp c.k).frac = true ∧ (s.eng.lp c.k).d[x].toInt * (s.eng.lp c.k).d[y].toInt = 2 ^ 30) ∧
    (∃ (s : State) (c : Lp) (k : Fin 4) (x : Fin 8) (y : Fin 8), fetches s c ∧ (s.eng.lp c.k).frac = true ∧ (s.eng.lp c.k).clamp[k] = false ∧ (s.eng.lp c.k).d[x].toInt * (s.eng.lp c.k).d[y].toInt ≠ 2 ^ 30 ∧ -(2 ^ 39) ≤ (s.eng.lp c.k).acc k + 2 * ((s.eng.lp c.k).d[x].toInt * (s.eng.lp c.k).d[y].toInt) ∧ (s.eng.lp c.k).acc k + 2 * ((s.eng.lp c.k).d[x].toInt * (s.eng.lp c.k).d[y].toInt) < 2 ^ 39) ∧
    (∃ (s : State) (c : Lp) (k : Fin 4) (x : Fin 8) (y : Fin 8), fetches s c ∧ (s.eng.lp c.k).frac = true ∧ (s.eng.lp c.k).clamp[k] = false ∧ (s.eng.lp c.k).d[x].toInt * (s.eng.lp c.k).d[y].toInt ≠ 2 ^ 30 ∧ -(2 ^ 39) ≤ (s.eng.lp c.k).acc k - 2 * ((s.eng.lp c.k).d[x].toInt * (s.eng.lp c.k).d[y].toInt) ∧ (s.eng.lp c.k).acc k - 2 * ((s.eng.lp c.k).d[x].toInt * (s.eng.lp c.k).d[y].toInt) < 2 ^ 39) ∧
    (∃ (s : State) (c : Lp) (x : Fin 8), fetches s c ∧ (s.eng.lp c.k).frac = false) ∧
    (∃ (s : State) (c : Lp) (lx : MacLoad) (ly : MacLoad), fetches s c ∧ ((s.eng.lp c.k).p[xPtr lx.ea]).toNat < 0x4000) :=
  ⟨⟨on (lpEngine fun x => { x with frac := false }), lp0, 0, 0, 0, by decide +kernel⟩,
   ⟨on (lpEngine fun x => { x with d := x.d.set 0 0x8000 }), lp0, 0, 0, 1, by decide +kernel⟩,
   ⟨on (lpEngine fun x => { x with d := x.d.set 0 0x8000 }), lp0, 0, 0, 0, by decide +kernel⟩,
   ⟨on (lpEngine fun x => { x with d := x.d.set 0 0x8000 }), lp0, 0, 0, 1, by decide +kernel⟩,
   ⟨on (lpEngine fun x => { x with d := x.d.set 0 0x8000 }), lp0, 0, 0, 1, by decide +kernel⟩,
   ⟨on (lpEngine fun x => { x with frac := false }), lp0, 0, by decide +kernel⟩,
   ⟨on (lpEngine id), lp0, ⟨0, ⟨.plus, 0⟩⟩, ⟨4, ⟨.keep, 0⟩⟩, by decide +kernel⟩⟩

/-- States and operands that meet the hypotheses of MemoryAndMoves, clause by clause. -/
theorem witness_MemoryAndMoves :
    (∃ (s : State) (c : Lp) (d : Fin 8) (ea : Ea5), fetches s c ∧ ((s.eng.lp c.k).p[ea.p]).toNat < 0x4000) ∧
    (∃ (s : State) (c : Lp) (d : Fin 8) (ea : Ea5), fetches s c) ∧
    (∃ (s : State) (c : Lp) (d : Fin 8) (a : Fin 32768), fetches s c ∧ a.val < 0x4000) ∧
    (∃ (s : State) (c : Lp) (d : Fin 8) (ea : Ea5), fetches s c ∧ ((s.eng.lp c.k).p[ea.p]).toNat < 0x4000) ∧
    (∃ (s : State) (c : Lp) (d : Fin 8) (a : Fin 32768), fetches s c ∧ a.val < 0x4000) ∧
    (∃ (s : State) (c : Lp) (a : Fin 4) (ea : Ea5) (sh : Fin 32), fetches s c ∧ ((s.eng.lp c.k).p[ea.p]).toNat < 0x4000 ∧ sh.val < 16 ∧ -32768 ≤ ((s.eng.lp c.k).acc a * 2 ^ sh.val + 2 ^ 15) / 2 ^ 16 ∧ ((s.eng.lp c.k).acc a * 2 ^ sh.val + 2 ^ 15) / 2 ^ 16 ≤ 32767) ∧
    (∃ (s : State) (c : Lp) (a : Fin 4) (ea : Ea5), fetches s c ∧ ((s.eng.lp c.k).p[ea.p]).toNat < 0x4000 ∧ 32767 < (s.eng.lp c.k).acc a) ∧
    (∃ (s : State) (c : Lp) (k : Fin 4) (x : MacLoad) (y : MacLoad), fetches s c ∧ (s.eng.lp c.k).frac = false ∧ ((s.eng.lp c.k).p[xPtr x.ea]).toNat < 0x3FFF) ∧
    (∃ (s : State) (c : Lp) (d : Fin 8) (v : Half), fetches s c) ∧
    (∃ (s : State) (c : Lp) (p : Fin 8) (n : Fin 8), fetches s c) ∧
    (∃ (s : State) (c : Lp) (m : Fin 8) (d : Fin 8), fetches s c ∧ modeOf (s.eng.lp c.k).d[d] = 0) ∧
    (∃ (s : State) (c : Lp) (p : Fin 8), fetches s c ∧ modeOf (s.eng.lp c.k).m[p] = 0) ∧
    (∃ (s : State) (c : Lp) (p : Fin 8) (base : Nat) (off : Nat) (len : Nat), fetches s c ∧ modeOf (s.eng.lp c.k).m[p] = 1 ∧ circLen (s.eng.lp c.k).m[p] = len ∧ base % 2 ^ ceilLog2 len = 0 ∧ off < len ∧ ((s.eng.lp c.k).p[p]).toNat = base + off ∧ ((s.eng.lp c.k).n[p]).toInt = 1) ∧
    (∃ (s : State) (c : Lp) (d : Fin 8) (a : Fin 32768), fetches s c ∧ c.k.val < 32 ∧ 0x6100 ≤ a.val ∧ a.val < 0x6200) ∧
    (∃ (s : State) (c : Lp) (d : Fin 8), fetches s c ∧ c.k.val < 32) ∧
    (∃ (s : State) (c : Lp) (d : Fin 8), fetches s c ∧ c.k.val < 32) ∧
    (∃ (s : State) (c : Lp) (d : Fin 8), fetches s c ∧ c.k.val < 32) ∧
    (∃ (s : State) (c : Lp) (d : Fin 8) (a : Fin 32768) (j : Nat) (slot : Nat) (h : Nat), fetches s c ∧ c.k.val < 32 ∧ j < 16 ∧ slot < 72 ∧ h < 2 ∧ a.val = 0x4000 + 0x200 * j + 4 * slot + 2 * h) ∧
    (∃ (s : State) (c : Lp) (d : Fin 8) (a : Fin 32768) (j : Nat) (slot : Nat) (h : Nat) (v : Half), fetches s c ∧ c.k.val < 32 ∧ j < 16 ∧ slot < 72 ∧ h < 2 ∧ a.val = 0x4000 + 0x200 * j + 4 * slot + 2 * h + 1 ∧ (s.eng.lp c.k).half = some (a.val, v)) ∧
    (∃ (s : State) (c : Lp) (d : Fin 8) (a : Fin 32768), fetches s c ∧ c.k.val < 32 ∧ 0x6080 ≤ a.val ∧ a.val < 0x6100) ∧
    (∃ (s : State) (c : Lp) (d : Fin 8) (a : Fin 32768), fetches s c ∧ c.k.val < 32 ∧ 0x4000 ≤ a.val ∧ a.val < 0x6100) :=
  ⟨⟨on (lpEngine id), lp0, 0, ⟨.plus, 0⟩, by decide +kernel⟩,
   ⟨on (lpEngine id), lp0, 0, ⟨.plus, 0⟩, by decide +kernel⟩,
   ⟨on (lpEngine id), lp0, 0, 0x3FFF, by decide +kernel⟩,
   ⟨on (lpEngine id), lp0, 0, ⟨.plus, 0⟩, by decide +kernel⟩,
   ⟨on (lpEngine id), lp0, 0, 0x3FFF, by decide +kernel⟩,
   ⟨on (lpEngine id), lp0, 0, ⟨.plus, 0⟩, 15, by decide +kernel⟩,
   ⟨on (lpEngine fun x => { x with a := x.a.set 0 0x8000 }), lp0, 0, ⟨.plus, 0⟩, by decide +kernel⟩,
   ⟨on (lpEngine fun x => { x with frac := false }), lp0, 0, ⟨0, ⟨.plus, 0⟩⟩, ⟨4, ⟨.keep, 0⟩⟩, by decide +kernel⟩,
   ⟨on (lpEngine id), lp0, 0, 0, by decide +kernel⟩,
   ⟨on (lpEngine id), lp0, 0, 0, by decide +kernel⟩,
   ⟨on (lpEngine id), lp0, 0, 0, by decide +kernel⟩,
   ⟨on (lpEngine id), lp0, 0, by decide +kernel⟩,
   ⟨on (lpEngine fun x => { x with m := x.m.set 0 0x4003, n := x.n.set 0 1, p := x.p.set 0 6 }), lp0, 0, 4, 2, 3, by decide +kernel⟩,
   ⟨on (lpEngine id), lp0, 0, 0x61FF, by decide +kernel⟩,
   ⟨on (lpEngine id), lp0, 0, by decide +kernel⟩,
   ⟨on (lpEngine id), lp0, 0, by decide +kernel⟩,
   ⟨on (lpEngine id), lp0, 0, by decide +kernel⟩,
   ⟨on (lpEngine id), lp0, 0, 24350, 15, 71, 1, by decide +kernel⟩,
   ⟨on (lpEngine fun x => { x with half := some (24351, 5) }), lp0, 0, 24351, 15, 71, 1, 5, by decide +kernel⟩,
   ⟨on (lpEngine id), lp0, 0, 0x60FF, by decide +kernel⟩,
   ⟨on (lpEngine id), lp0, 0, 0x60FF, by decide +kernel⟩⟩

/-- States and operands that meet the hypotheses of ControlFlow, clause by clause. -/
theorem witness_ControlFlow :
    (∃ (s : State) (c : Lp) (t : Fin 8192), fetches s c ∧ (s.eng.lp c.k).loop = none) ∧
    (∃ (s : State) (c : Lp) (t : Fin 8192), fetches s c ∧ (s.eng.lp c.k).loop = none ∧ (s.eng.lp c.k).stack.length < 8) ∧
    (∃ (s : State) (c : Lp) (a : BitVec 13) (l : List (BitVec 13)), fetches s c ∧ (s.eng.lp c.k).loop = none ∧ (s.eng.lp c.k).stack = a :: l) ∧
    (∃ (s : State) (c : Lp) (t : Fin 8192), fetches s c ∧ (s.eng.lp c.k).loop = none) ∧
    (∃ (s : State) (c : Lp) (r : Fin 8) (t : Fin 8192), fetches s c ∧ (s.eng.lp c.k).loop = none) ∧
    (∃ (s : State) (c : Lp) (len : Fin 32) (n : Fin 4096), fetches s c ∧ (s.eng.lp c.k).loop = none ∧ (s.eng.lp c.k).pc.toNat + 1 + len.val ≤ 0x1FFF ∧ n.val ≠ 0) ∧
    (∃ (s : State) (c : Lp), fetches s c) ∧
    (∃ (s : State) (c : Lp) (mask : Byte), fetches s c) ∧
    (∃ (s : State) (c : Lp), fetches s c ∧ (s.eng.lp c.k).loop = none) ∧
    (∃ (s : State) (c : Lp) (b : LoopBody), fetches s c ∧ (s.eng.lp c.k).loop = some b ∧ (s.eng.lp c.k).pc.toNat = b.first + b.len - 1 ∧ 1 < b.left) ∧
    (∃ (s : State) (c : Lp) (b : LoopBody), fetches s c ∧ (s.eng.lp c.k).loop = some b ∧ (s.eng.lp c.k).pc.toNat = b.first + b.len - 1 ∧ b.left ≤ 1) :=
  ⟨⟨on (lpEngine id), lp0, 0, by decide +kernel⟩,
   ⟨on (lpEngine id), lp0, 0, by decide +kernel⟩,
   ⟨on (lpEngine fun x => { x with stack := [5] }), lp0, 5, [], by decide +kernel⟩,
   ⟨on (lpEngine id), lp0, 0, by decide +kernel⟩,
   ⟨on (lpEngine id), lp0, 0, 0, by decide +kernel⟩,
   ⟨on (lpEngine id), lp0, 31, 1, by decide +kernel⟩,
   ⟨on (lpEngine id), lp0, by decide +kernel⟩,
   ⟨on (lpEngine id), lp0, 0, by decide +kernel⟩,
   ⟨on (lpEngine id), lp0, by decide +kernel⟩,
   ⟨on (lpEngine fun x => { x with loop := some { first := 0, len := 1, left := 2 } }), lp0, { first := 0, len := 1, left := 2 }, by decide +kernel⟩,
   ⟨on (lpEngine fun x => { x with loop := some { first := 0, len := 1, left := 1 } }), lp0, { first := 0, len := 1, left := 1 }, by decide +kernel⟩⟩

/-- States and operands that meet the hypotheses of WaitsAndHalts, clause by clause. -/
theorem witness_WaitsAndHalts :
    (∃ (s : State) (c : Lp), fetches s c ∧ (s.eng.lp c.k).loop = none) ∧
    (∃ (s : State) (c : Lp), fetches s c ∧ (s.eng.lp c.k).loop = none ∧ (s.eng.lp c.k).evPend.getLsbD 0 = true) ∧
    (∃ (s : State) (c : Lp), s.eng.mode ≠ .reset ∧ s.eng.lpEn c.k = true ∧ (s.eng.lp c.k).halted = false ∧ (s.eng.lp c.k).startIn = none ∧ (s.eng.lp c.k).standard = false ∧ (s.eng.lp c.k).wait = some .ev1 ∧ (s.eng.lp c.k).evPend.getLsbD 1 = true ∧ c.ecc = .clean ∧ (s.eng.lp c.k).loop = none) ∧
    (∃ (s : State) (c : Lp), fetches s c) ∧
    (∃ (s : State) (c : Lp) (w : Word), fetches s c ∧ wellFormed (.lpIllOp c w) = true) ∧
    (∃ (s : State) (c : Lp) (t : Fin 8192), fetches s c ∧ (s.eng.lp c.k).loop.isSome = true) ∧
    (∃ (s : State) (c : Lp) (t : Fin 8192), fetches s c ∧ (s.eng.lp c.k).loop = none ∧ 8 ≤ (s.eng.lp c.k).stack.length) ∧
    (∃ (s : State) (c : Lp), fetches s c ∧ (s.eng.lp c.k).loop = none ∧ (s.eng.lp c.k).stack = []) ∧
    (∃ (s : State) (i : Instr) (c : Lp), lpRowOf i = some c ∧ s.eng.lpRuns c.k = true ∧ c.ecc = .uncorrectable) ∧
    (∃ (s : State) (k : Fin 33), s.eng.lpCounts k = true ∧ s.eng.rfld (Reg.lpWdog k.val) 0 8 ≠ 0 ∧ s.eng.rfld (Reg.lpWdog k.val) 0 8 * 1024 ≤ 2 * (s.eng.tick - (s.eng.lp k).wdogFrom)) :=
  ⟨⟨on (lpEngine id), lp0, by decide +kernel⟩,
   ⟨on (lpEngine fun x => { x with evPend := 1 }), lp0, by decide +kernel⟩,
   ⟨on (lpEngine fun x => { x with wait := some .ev1, evPend := 2 }), lp0, by decide +kernel⟩,
   ⟨on (lpEngine id), lp0, by decide +kernel⟩,
   ⟨on (lpEngine id), lp0, 0xFFFFFFFF, by decide +kernel⟩,
   ⟨on (lpEngine fun x => { x with loop := some { first := 0, len := 1, left := 1 } }), lp0, 0, by decide +kernel⟩,
   ⟨on (lpEngine fun x => { x with stack := [0, 1, 2, 3, 4, 5, 6, 7] }), lp0, 0, by decide +kernel⟩,
   ⟨on (lpEngine id), lp0, by decide +kernel⟩,
   ⟨on (lpEngine id), .halt { k := 0, ecc := .uncorrectable }, { k := 0, ecc := .uncorrectable }, by decide +kernel⟩,
   ⟨on (((lpEngine id).setReg (Reg.lpWdog 0) 1)), 0, by decide +kernel⟩⟩

/-- States and operands that meet the hypotheses of RunControl, clause by clause. -/
theorem witness_RunControl :
    (∃ (s : State) (b : Bus) (k : Fin 33), may s b ∧ s.eng.lpHostMode = true ∧ s.eng.lpRuns k = true) ∧
    (∃ (s : State) (b : Bus) (k : Fin 33), may s b ∧ s.eng.lpHostMode = true ∧ s.eng.lpEn k = false ∧ (s.eng.lp k).halted = true ∧ (s.eng.lp k).startIn = none) ∧
    (∃ (s : State) (b : Bus) (k : Fin 33), may s b ∧ s.eng.lpHostMode = false) ∧
    (∃ (s : State) (b : Bus) (c : Lp) (i : Instr) (f : LpEffect), may s b ∧ s.eng.lpHostMode = true ∧ (s.eng.lp c.k).halted = true ∧ (s.eng.lp c.k).cause = 1 ∧ (s.eng.lp c.k).startIn = none ∧ (s.eng.lp c.k).wait = none ∧ c.ecc = .clean ∧ lpDecode c (get0 (s.eng.lp c.k).pm (s.eng.lp c.k).pc.toNat) = some i ∧ lpEffect i = some f) ∧
    (∃ (s : State) (b : Bus) (k : Fin 33), may s b ∧ (s.eng.lp k).swapReq = false) ∧
    (∃ (s : State) (b : Bus) (k : Fin 33), may s b ∧ (s.eng.lp k).swapReq = true) ∧
    (∃ (s : State) (b : Bus) (v : Word), may s b) :=
  ⟨⟨on { lpEngine id with mode := .calibrate }, sup, 0, by decide +kernel⟩,
   ⟨on { base.onLp 0 (fun x => { x with halted := true }) with mode := .load }, sup, 0, by decide +kernel⟩,
   ⟨on base, sup, 0, by decide +kernel⟩,
   ⟨on { base.onLp 0 (fun x => { x with halted := true, cause := 1 }) with mode := .load }, sup, lp0, .nop lp0, nopEff, by decide +kernel, by decide +kernel, by decide +kernel, by decide +kernel, by decide +kernel, by decide +kernel, by decide +kernel, by decide +kernel, rfl⟩,
   ⟨on base, sup, 0, by decide +kernel⟩,
   ⟨on { base with lps := base.lps.set 0 { LpState.reset with swapReq := true } }, sup, 0, by decide +kernel⟩,
   ⟨on base, sup, 0, by decide +kernel⟩⟩

/-- States and operands that meet the hypotheses of CalibrationCommands, clause by clause. -/
theorem witness_CalibrationCommands :
    (∃ (s : State) (b : Bus), may s b ∧ (s.eng.cal.phase ≠ 1 ∨ s.eng.cal.windowOpen = false) ∧ s.eng.rbit Reg.calCtl 1 = false) ∧
    (∃ (s : State) (b : Bus), may s b ∧ (s.eng.cal.phase ≠ 1 ∨ s.eng.cal.windowOpen = false) ∧ s.eng.rbit Reg.calCtl 1 = true) ∧
    (∃ (s : State) (b : Bus), may s b ∧ calPhase s.eng = 1 ∧ s.eng.cal.windowOpen = true ∧ s.eng.rbit Reg.calCtl 1 = false) ∧
    (∃ (s : State) (b : Bus) (r : Byte), may s b ∧ (s.eng.calModes = true ∨ s.eng.mode = .kennel)) ∧
    (∃ (s : State) (b : Bus) (r : Byte), may s b ∧ s.eng.mode = .load) ∧
    (∃ (s : State) (r : Fin 8), s.eng.rfld Reg.calTrig 16 8 ≠ 0 ∧ (s.eng.calModes = true ∨ s.eng.mode = .kennel) ∧ s.eng.cal.estimatedAt.getD r.val 0 + s.eng.rfld Reg.calTrig 16 8 * 3600000000000 * nsUnit ≤ s.eng.elapsed) ∧
    (∃ (s : State) (b : Bus), may s b ∧ 1 ≤ s.eng.cal.phase ∧ s.eng.cal.phase ≤ 3) ∧
    (∃ (s : State) (b : Bus), may s b ∧ s.eng.mode ≠ .calibrate) ∧
    (∃ (s : State) (b : Bus), may s b ∧ s.eng.mode = .calibrate ∧ dark s.eng = false) ∧
    (∃ (s : State) (b : Bus), may s b ∧ s.eng.mode = .calibrate ∧ dark s.eng = true ∧ s.eng.cal.phase = 0) ∧
    (∃ (s : State) (b : Bus) (v : Word), may s b ∧ s.eng.rbit Reg.calPtr 31 = false ∧ calMask s.eng.variant (s.eng.rfld Reg.calPtr 28 3) (s.eng.rfld Reg.calPtr 0 18) ≠ 0) ∧
    (∃ (s : State) (b : Bus) (v : Word), may s b ∧ (s.eng.rbit Reg.calPtr 31 = true ∨ calMask s.eng.variant (s.eng.rfld Reg.calPtr 28 3) (s.eng.rfld Reg.calPtr 0 18) = 0)) ∧
    (∃ (s : State) (b : Bus), may s b ∧ s.eng.rfld Reg.calPtr 28 3 ≠ 3) :=
  ⟨⟨on base, sup, by decide +kernel⟩,
   ⟨on ((base.setReg Reg.calCtl 2)), sup, by decide +kernel⟩,
   ⟨on { base with cal.phase := 1, cal.windowOpen := true, lps := base.lps.set 0 { LpState.reset with standard := true, xm := [(Xm.roundDone, 1)] } }, sup, by decide +kernel⟩,
   ⟨on base, sup, 0, by decide +kernel⟩,
   ⟨on { base with mode := .load }, sup, 0, by decide +kernel⟩,
   ⟨on { base.putRfld Reg.calTrig 16 8 1 with elapsed := 3600000000000 * nsUnit }, 0, by decide +kernel⟩,
   ⟨on { base with cal.phase := 3 }, sup, by decide +kernel⟩,
   ⟨on base, sup, by decide +kernel⟩,
   ⟨on { base with mode := .calibrate, sns.results := [(0x70080000, 0x0FFF)], cal.live.words := [(2 * 2 ^ 18, 0xFFFF0000)] }, sup, by decide +kernel⟩,
   ⟨on { base with variant := .pq128, mode := .calibrate }, sup, by decide +kernel⟩,
   ⟨on base, sup, 0, by decide +kernel⟩,
   ⟨on ((base.putRbit Reg.calPtr 31 true)), sup, 0, by decide +kernel⟩,
   ⟨on base, sup, by decide +kernel⟩⟩

/-- States and operands that meet the hypotheses of Rounds, clause by clause. -/
theorem witness_Rounds :
    (∃ (s : State), s.eng.cal.phase = 0 ∧ s.eng.cal.fold = .none ∧ s.eng.cal.copying = false ∧ s.eng.rbit Reg.calCtl 0 = true ∧ s.eng.calModes = true ∧ s.eng.rfld Reg.calStat 8 8 ≠ 0) ∧
    (∃ (s : State), s.eng.calModes = true ∧ calPhase s.eng = 2 ∧ s.eng.cal.copying = false) ∧
    (∃ (s : State), s.eng.cal.phase = 4 ∧ s.eng.cal.fold = .none ∧ s.eng.cal.copying = false ∧ s.eng.rbit Reg.calCtl 1 = false ∧ s.eng.cal.fullFrom + 129 * 34000 ≤ s.eng.tick ∧ s.eng.cal.fullRound + 1 < 4 * s.eng.variant.stages) ∧
    (∃ (s : State), s.eng.cal.phase = 4 ∧ s.eng.cal.fold = .none ∧ s.eng.cal.copying = false ∧ s.eng.rbit Reg.calCtl 1 = false ∧ s.eng.cal.fullFrom + 129 * 34000 ≤ s.eng.tick ∧ s.eng.cal.fullRound + 1 = 4 * s.eng.variant.stages ∧ s.eng.drv.loader = .idle ∧ s.eng.stagedLocked = false ∧ bit (calWord s.eng.cal.live.words 5 0) 0 = false) :=
  ⟨⟨on (((base.putRbit Reg.calCtl 0 true).putRfld Reg.calStat 8 8 1)), by decide +kernel⟩,
   ⟨on { base with cal.phase := 2 }, by decide +kernel⟩,
   ⟨on { base with cal.phase := 4, cal.fullFrom := 5614000 }, by decide +kernel⟩,
   ⟨on { base with cal.phase := 4, cal.fullRound := 67 }, by decide +kernel⟩⟩

/-- States and operands that meet the hypotheses of SetSwap, clause by clause. -/
theorem witness_SetSwap :
    (∃ (s : State), s.eng.calModes = true ∧ s.eng.coincident = true ∧ whistleDue s.eng = false ∧ sweepDue s.eng = true ∧ (∀ k : Fin 33, (s.eng.lp k).standard = false) ∧ s.eng.rbit Reg.calCtl 1 = true ∧ s.eng.cal.copying = false ∧ s.eng.cal.fold = .none ∧ (calWord s.eng.cal.shadow.words 5 5).toNat = s.eng.rfld Reg.drvProbe 0 8 ∧ setOk s.eng s.eng.cal.shadow = true ∧ s.eng.halfWrites = []) ∧
    (∃ (s : State), s.eng.calModes = true ∧ s.eng.coincident = true ∧ whistleDue s.eng = false ∧ sweepDue s.eng = true ∧ (∀ k : Fin 33, (s.eng.lp k).standard = false) ∧ s.eng.rbit Reg.calCtl 1 = true ∧ s.eng.cal.copying = false ∧ s.eng.cal.fold = .none ∧ s.eng.cal.phase = 0 ∧ s.eng.cal.windowOpen = false ∧ (calWord s.eng.cal.shadow.words 5 5).toNat ≠ s.eng.rfld Reg.drvProbe 0 8) ∧
    (∃ (s : State), s.eng.mode ≠ .reset ∧ s.eng.cal.copying = true) ∧
    (∃ (s : State) (c : CalSet), s.eng.mode ≠ .reset ∧ s.eng.cal.storeSet = some c ∧ s.eng.rbit Reg.calCtl 3 = true ∧ s.eng.cal.lastStore = none ∧ s.eng.nvmHeld = false ∧ slotGen s.eng.nvm.cal.2.commit < slotGen s.eng.nvm.cal.1.commit) :=
  ⟨⟨on { (base.putRbit Reg.calCtl 1 true).setReg Reg.drvProbe 0 with variant := .pq128, cal.shadow.words := inputWords, sns.sweepRun := true, sns.sweepStart := 9966000, lps := Vector.replicate 33 { LpState.reset with standard := false } }, by decide +kernel⟩,
   ⟨on { (base.putRbit Reg.calCtl 1 true).setReg Reg.drvProbe 1 with sns.sweepRun := true, sns.sweepStart := 9966000 }, by decide +kernel⟩,
   ⟨on { base with cal.copying := true }, by decide +kernel⟩,
   ⟨on { (base.putRbit Reg.calCtl 3 true) with cal.storeSet := some CalSet.empty, nvm.cal := ({ set := CalSet.empty, commit := some { gen := 0, sec := 0, ns := 0 } }, { set := CalSet.empty, commit := none }) }, CalSet.empty, by decide +kernel⟩⟩

/-- States and operands that meet the hypotheses of Submissions, clause by clause. -/
theorem witness_Submissions :
    (∃ (s : State) (c : Instr) (b : Bus) (m : Bool) (cmd : Word) (q : SubmitWords), submits c = some (b, cmd, q) ∧ may s b ∧ s.eng.memberOf b = some m ∧ submitNumber s q ∧ q.requester.val ≤ 64 ∧ (s.eng.mode = .hold ∨ s.eng.mode = .run) ∧ q.dlNs.toNat ≤ 999999999 ∧ (queueOf s.eng q.requester).length < qlim s.eng q.requester ∧ s.eng.sch.queue.length < 2048 ∧ (fld cmd 0 4 ≠ 3 ∨ permuteBusy s.eng = false) ∧ (∀ d ∈ (submission s cmd q).deadline, s.eng.stamp 50 ≤ d * nsUnit)) ∧
    (∃ (s : State) (c : Instr) (b : Bus) (m : Bool) (cmd : Word) (q : SubmitWords), submits c = some (b, cmd, q) ∧ may s b ∧ s.eng.memberOf b = some m ∧ s.eng.sch.accepted = true ∧ submitSeq q ≤ (s.eng.reg Reg.schLastSeqHi).toNat * 2 ^ 32 + (s.eng.reg Reg.schLastSeqLo).toNat) ∧
    (∃ (s : State) (c : Instr) (b : Bus) (m : Bool) (cmd : Word) (q : SubmitWords), submits c = some (b, cmd, q) ∧ may s b ∧ s.eng.memberOf b = some m ∧ submitNumber s q ∧ q.requester.val ≤ 64 ∧ (s.eng.mode = .hold ∨ s.eng.mode = .run) ∧ q.dlNs.toNat ≤ 999999999 ∧ qlim s.eng q.requester ≤ (queueOf s.eng q.requester).length) ∧
    (∃ (s : State) (r : SchReq) (ns : Word), s.pending = [] ∧ s.eng.mode ≠ .reset ∧ s.eng.due = [.submit r ns false] ∧ s.eng.sch.fired = none ∧ s.eng.flt.chip = none ∧ s.eng.sch.outs.length < 64 ∧ qlim s.eng r.requester ≤ (queueOf s.eng r.requester).length) ∧
    (∃ (s : State) (r : SchReq) (ns : Word), s.pending = [] ∧ s.eng.mode ≠ .reset ∧ s.eng.due = [.submit r ns false] ∧ s.eng.sch.fired = none ∧ s.eng.flt.chip = none ∧ s.eng.sch.outs.length < 64 ∧ (queueOf s.eng r.requester).length < qlim s.eng r.requester ∧ s.eng.sch.queue.length < 2048 ∧ (r.op ≠ 3 ∨ permuteBusy s.eng = false)) ∧
    (∃ (s : State) (c : Instr) (b : Bus) (m : Bool) (cmd : Word) (q : SubmitWords), submits c = some (b, cmd, q) ∧ may s b ∧ s.eng.memberOf b = some m ∧ submitNumber s q ∧ s.eng.sch.outs.length < 64 ∧ (64 < q.requester.val ∨ s.eng.mode = .load ∨ s.eng.mode = .calibrate ∨ s.eng.mode = .kennel)) ∧
    (∃ (s : State) (c : Instr) (b : Bus) (m : Bool) (cmd : Word) (q : SubmitWords), submits c = some (b, cmd, q) ∧ may s b ∧ s.eng.memberOf b = some m ∧ submitNumber s q ∧ s.eng.sch.outs.length < 64 ∧ q.requester.val ≤ 64 ∧ (s.eng.mode = .hold ∨ s.eng.mode = .run) ∧ 999999999 < q.dlNs.toNat) ∧
    (∃ (s : State) (c : Instr) (b : Bus) (m : Bool) (cmd : Word) (q : SubmitWords) (d : Nat), submits c = some (b, cmd, q) ∧ may s b ∧ s.eng.memberOf b = some m ∧ submitNumber s q ∧ s.eng.sch.outs.length < 64 ∧ q.requester.val ≤ 64 ∧ (s.eng.mode = .hold ∨ s.eng.mode = .run) ∧ q.dlNs.toNat ≤ 999999999 ∧ (queueOf s.eng q.requester).length < qlim s.eng q.requester ∧ s.eng.sch.queue.length < 2048 ∧ fld cmd 0 4 ≠ 3 ∧ (submission s cmd q).deadline = some d ∧ d * nsUnit < s.eng.stamp 50) :=
  ⟨⟨on base, .submitAdd sup 1 2 3 (words 64 0 1), sup, false, routeWord 1 1 2 3, words 64 0 1, by decide +kernel⟩,
   ⟨on { base with sch.accepted := true }, .submitPin sup 1 2 (words 64 0 0), sup, false, routeWord 4 1 2 0, words 64 0 0, by decide +kernel⟩,
   ⟨on { base.putRfld Reg.schOprQ 0 6 1 with sch.queue := [req] }, .submitAdd sup 1 2 3 (words 64 0 1), sup, false, routeWord 1 1 2 3, words 64 0 1, by decide +kernel⟩,
   ⟨on { base.putRfld Reg.schOprQ 0 6 1 with due := [.submit req 0 false], sch.queue := [req] }, req, 0, by decide +kernel⟩,
   ⟨on { base with due := [.submit req 0 false] }, req, 0, by decide +kernel⟩,
   ⟨on base, .submitUnpin sup 1 (words 65 0 1), sup, false, routeWord 5 1 0 0, words 65 0 1, by decide +kernel⟩,
   ⟨on base, .submitRemove sup 1 2 { words 64 0 1 with dlNs := 1000000000 }, sup, false, routeWord 2 1 2 0, { words 64 0 1 with dlNs := 1000000000 }, by decide +kernel⟩,
   ⟨on { base with time := 1000000000 * nsUnit }, .submitAdd sup 1 2 3 (words 64 1 1), sup, false, routeWord 1 1 2 3, words 64 1 1, 1000000000, by decide +kernel⟩⟩

/-- States and operands that meet the hypotheses of SubmissionGuard, clause by clause. -/
theorem witness_SubmissionGuard :
    (∃ (s : State) (c : Instr) (b : Bus) (m : Bool) (cmd : Word) (q : SubmitWords), submits c = some (b, cmd, q) ∧ may s b ∧ s.eng.memberOf b = some m ∧ s.eng.sch.accepted = true ∧ submitSeq q ≤ (s.eng.reg Reg.schLastSeqHi).toNat * 2 ^ 32 + (s.eng.reg Reg.schLastSeqLo).toNat) ∧
    (∃ (s : State) (c : Instr) (b : Bus) (m : Bool) (cmd : Word) (q : SubmitWords), submits c = some (b, cmd, q) ∧ may s b ∧ s.eng.log.length + 12 ≤ 4096 ∧ s.eng.memberOf b = some m ∧ s.eng.sch.accepted = false) :=
  ⟨⟨on { base with sch.accepted := true }, .submitPin sup 1 2 (words 64 0 0), sup, false, routeWord 4 1 2 0, words 64 0 0, by decide +kernel⟩,
   ⟨on base, .submitAdd sup 1 2 3 (words 64 0 1), sup, false, routeWord 1 1 2 3, words 64 0 1, by decide +kernel⟩⟩

/-- States and operands that meet the hypotheses of IssueAndCredit, clause by clause. -/
theorem witness_IssueAndCredit :
    (∃ (s : State) (r : SchReq), s.eng.rbit Reg.schCtl 0 = true ∧ s.eng.sch.enAt ≠ some s.eng.tick ∧ s.eng.sch.dupAt ≠ some s.eng.tick ∧ (s.eng.mode = .hold ∨ s.eng.mode = .run) ∧ s.eng.rte.job = none ∧ s.eng.rte.held = none ∧ s.eng.sch.issued = none ∧ s.eng.sch.commit = none ∧ s.eng.sch.queue = [r] ∧ r.requester = 64 ∧ r.direct = false ∧ r.op = 4 ∧ routeDuplicate s.eng r.seq = false ∧ validate s.eng .pin r = none ∧ s.eng.sch.outs.length < 64) ∧
    (∃ (s : State) (r : SchReq) (op : RouteOp), s.eng.rbit Reg.schCtl 0 = true ∧ s.eng.sch.enAt ≠ some s.eng.tick ∧ s.eng.sch.dupAt ≠ some s.eng.tick ∧ (s.eng.mode = .hold ∨ s.eng.mode = .run) ∧ s.eng.rte.job = none ∧ s.eng.rte.held = none ∧ s.eng.sch.issued = none ∧ s.eng.sch.commit = none ∧ s.eng.sch.queue = [r] ∧ r.requester = 64 ∧ r.direct = false ∧ opOfCode r.op = some op ∧ (op = .add ∨ op = .remove ∨ op = .permute) ∧ routeDuplicate s.eng r.seq = false ∧ (earliestFit s.eng 64 (s.eng.rfld Reg.schLead (if r.op = 3 then 16 else 0) 16)).isSome = true ∧ validate s.eng op r = none) ∧
    (∃ (s : State) (r : SchReq), s.eng.rbit Reg.schCtl 0 = true ∧ s.eng.sch.enAt ≠ some s.eng.tick ∧ s.eng.sch.dupAt ≠ some s.eng.tick ∧ (s.eng.mode = .hold ∨ s.eng.mode = .run) ∧ s.eng.rte.job = none ∧ s.eng.rte.held = none ∧ s.eng.sch.issued = none ∧ s.eng.sch.commit = none ∧ s.eng.sch.queue = [r] ∧ r.requester = 64 ∧ r.direct = false ∧ r.op = 4 ∧ routeDuplicate s.eng r.seq = true ∧ s.eng.sch.outs.length < 64) ∧
    (∃ (s : State), (s.eng.sch.enAt = some s.eng.tick ∨ s.eng.sch.dupAt = some s.eng.tick ∨ s.eng.rbit Reg.schCtl 0 = false)) ∧
    (∃ (s : State) (b : Bus), may s b) ∧
    (∃ (s : State) (b : Bus), may s b ∧ s.eng.rbit Reg.schCtl 0 = true) ∧
    (∃ (s : State) (b : Bus), may s b ∧ s.eng.rbit Reg.schCtl 0 = false) ∧
    (∃ (s : State), s.pending = [] ∧ s.eng.mode ≠ .reset ∧ s.eng.due = [.schEn] ∧ s.eng.sch.fired = none ∧ s.eng.flt.chip = none) ∧
    (∃ (s : State) (b : Bus) (o : Word) (n : Nat) (ns : Word) (l : List (Word × Nat × Word)), may s b ∧ s.eng.sch.outs = (o, n, ns) :: l) ∧
    (∃ (s : State), s.eng.mode ≠ .reset ∧ (s.eng.tick - s.eng.divTick) % 250 = 0 ∧ s.eng.sch.lastRefill ≠ some s.eng.tick ∧ s.eng.sch.tbWrites = []) ∧
    (∃ (s : State), (s.eng.sch.lastRefill = some s.eng.tick ∨ (s.eng.tick - s.eng.divTick) % 250 ≠ 0)) ∧
    (∃ (s : State) (b : Bus) (q : Fin 64) (v : Word), may s b) ∧
    (∃ (s : State) (b : Bus) (q : Fin 64) (v : Word), may s b) :=
  ⟨⟨on { base.putRbit Reg.schCtl 0 true with rte.base := [(0, 0x80000000)], sch.queue := [req] }, req, by decide +kernel⟩,
   ⟨on { base.putRbit Reg.schCtl 0 true with sch.active := some wideGates, sch.queue := [{ req with cmd := 1 }] }, { req with cmd := 1 }, .add, by decide +kernel⟩,
   ⟨on { base.putRbit Reg.schCtl 0 true with rte.base := [(0, 0x80000000)], rte.accepted := true, sch.queue := [{ req with seq := 0 }] }, { req with seq := 0 }, by decide +kernel⟩,
   ⟨on { base with sch.dupAt := some 10000000 }, by decide +kernel⟩,
   ⟨on base, sup, by decide +kernel⟩,
   ⟨on base, sup, by decide +kernel⟩,
   ⟨on (base.putRbit Reg.schCtl 0 false), sup, by decide +kernel⟩,
   ⟨on { base with due := [.schEn] }, by decide +kernel⟩,
   ⟨on { base with sch.outs := [(1, 2, 3)] }, sup, 1, 2, 3, [], by decide +kernel⟩,
   ⟨on base, by decide +kernel⟩,
   ⟨on { base with sch.lastRefill := some 10000000 }, by decide +kernel⟩,
   ⟨on base, sup, 0, 0, by decide +kernel⟩,
   ⟨on base, sup, 0, 0, by decide +kernel⟩⟩

/-- States and operands that meet the hypotheses of GateLists, clause by clause. -/
theorem witness_GateLists :
    (∃ (s : State) (b : Bus) (d : Bool), may s b ∧ s.eng.sch.validating = none ∧ (d = true ∨ s.eng.sch.locked = none)) ∧
    (∃ (s : State) (b : Bus), may s b ∧ s.eng.sch.validating = none) ∧
    (∃ (s : State) (n : Nat), s.eng.mode ≠ .reset ∧ s.eng.sch.validating = some n ∧ listFault s.eng = none ∧ s.eng.stamp 250 ≤ pendStart s.eng) ∧
    (∃ (s : State) (n : Nat), s.eng.mode ≠ .reset ∧ s.eng.sch.validating = some n ∧ s.eng.reg Reg.schGlPendLen = 0) ∧
    (∃ (s : State) (L : GateList) (st : Nat) (v : Nat), s.eng.mode ≠ .reset ∧ s.eng.sch.active = none ∧ s.eng.sch.locked = some (L, st, v) ∧ max st v ≤ s.eng.time ∧ s.eng.sch.listAt ≠ some s.eng.tick) ∧
    (∃ (s : State) (L : GateList) (A : GateList) (st : Nat) (v : Nat) (k : Nat), s.eng.mode ≠ .reset ∧ s.eng.sch.active = some A ∧ s.eng.sch.locked = some (L, st, v) ∧ 0 < A.cycle ∧ max st v = A.base + k * (A.cycle * tickUnits) ∧ max st v ≤ s.eng.time ∧ s.eng.sch.listAt ≠ some s.eng.tick) ∧
    (∃ (s : State), s.eng.sch.listAt = some s.eng.tick) ∧
    (∃ (s : State) (L : GateList), s.eng.mode ≠ .reset ∧ s.eng.sch.default = some L ∧ s.eng.sch.active = none ∧ L.base ≤ s.eng.time ∧ lockedDue s.eng = false) ∧
    (∃ (s : State) (L : GateList), s.eng.mode ≠ .reset ∧ s.eng.sch.default = some L ∧ s.eng.sch.active = none ∧ L.base ≤ s.eng.time ∧ lockedDue s.eng = true) ∧
    (∃ (s : State) (b : Bus) (v : Word), may s b ∧ s.eng.sch.validating = none ∧ s.eng.sch.locked = none) :=
  ⟨⟨on base, sup, true, by decide +kernel⟩,
   ⟨on base, sup, by decide +kernel⟩,
   ⟨on ((({ base with sch.validating := some 0, sch.pend := [(0, 0x010000FA)] }.setReg Reg.schGlPendLen 1).setReg Reg.schGlPendCycle 250).setReg Reg.schGlPendStartSecLo 1), 0, by decide +kernel⟩,
   ⟨on { base with sch.validating := some 0 }, 0, by decide +kernel⟩,
   ⟨on { base with sch.locked := some (gates, 0, 0) }, gates, 0, 0, by decide +kernel⟩,
   ⟨on { base with time := 1000 * tickUnits, sch.active := some gates, sch.locked := some (gates, 1000 * tickUnits, 0) }, gates, gates, 1000 * tickUnits, 0, 1, by decide +kernel⟩,
   ⟨on { base with sch.listAt := some 10000000 }, by decide +kernel⟩,
   ⟨on { base with sch.default := some gates }, gates, by decide +kernel⟩,
   ⟨on { base with sch.default := some gates, sch.locked := some (gates, 0, 0) }, gates, by decide +kernel⟩,
   ⟨on base, sup, 0, by decide +kernel⟩⟩

/-- States and operands that meet the hypotheses of ArmingAndCancellation, clause by clause. -/
theorem witness_ArmingAndCancellation :
    (∃ (s : State) (c : Commit) (v : Nat) (d : Bool), s.eng.sch.commit = some c ∧ c.stage = .waiting v d ∧ v + 10 ≤ s.eng.tick ∧ s.eng.mode = .run ∧ fits s.eng c.req.requester 50 = true ∧ (∀ d ∈ c.req.deadline, s.eng.stamp 50 ≤ d * nsUnit) ∧ s.eng.sch.wPrev + 250 + s.eng.sch.pause ≤ s.eng.tick + 50 ∧ c.result.energy ≤ s.eng.pwr.ebkt ∧ (d = true ∨ c.result.energy ≤ ebktCap s.eng) ∧ c.req.requester < 2 ^ 31) ∧
    (∃ (s : State) (c : Commit) (v : Nat), s.eng.sch.commit = some c ∧ c.stage = .waiting v false ∧ v + 10 ≤ s.eng.tick ∧ ebktCap s.eng < c.result.energy ∧ s.eng.sch.outs.length < 64 ∧ s.eng.rte.held = none ∧ 64 ≤ c.req.requester) ∧
    (∃ (s : State) (c : Commit) (v : Nat) (d : Bool), s.eng.sch.commit = some c ∧ c.stage = .waiting v d ∧ v + 10 ≤ s.eng.tick ∧ (d = true ∨ c.result.energy ≤ ebktCap s.eng) ∧ mayArm s.eng c = false) ∧
    (∃ (s : State) (c : Commit) (v : Nat) (d : Bool), s.eng.sch.commit = some c ∧ c.stage = .waiting v d ∧ s.eng.tick < v + 10) ∧
    (∃ (s : State) (r : SchReq) (d : Nat), s.eng.mode ≠ .reset ∧ s.eng.sch.queue = [r] ∧ r.deadline = some d ∧ d * nsUnit ≤ s.eng.stamp 50 ∧ s.eng.sch.issued = none ∧ s.eng.sch.commit = none ∧ s.eng.sch.outs.length < 64) ∧
    (∃ (s : State) (b : Bus) (c : Commit) (n : Nat) (d : Bool), may s b ∧ s.eng.sch.issued = none ∧ s.eng.sch.commit = some c ∧ c.stage = .waiting n d ∧ s.eng.rte.held = none ∧ s.eng.rte.job = none ∧ c.req.requester = 64 ∧ s.eng.sch.outs.length < 64) ∧
    (∃ (s : State) (b : Bus) (c : Commit) (w : Nat), may s b ∧ s.eng.sch.issued = none ∧ s.eng.sch.commit = some c ∧ c.stage = .armed w ∧ w < s.eng.tick + 4) ∧
    (∃ (s : State) (b : Bus) (c : Commit) (w : Nat), may s b ∧ s.eng.sch.issued = none ∧ s.eng.sch.commit = some c ∧ c.stage = .armed w ∧ s.eng.tick + 4 ≤ w ∧ s.eng.rte.held = none ∧ s.eng.rte.job = none ∧ c.req.requester = 64 ∧ s.eng.sch.outs.length < 64) ∧
    (∃ (s : State) (b : Bus) (i : Issued) (h : RouteResult), may s b ∧ s.eng.sch.issued = some i ∧ i.done = true ∧ s.eng.sch.commit = none ∧ s.eng.rte.held = some h ∧ i.req.requester = 64 ∧ s.eng.sch.outs.length < 64) :=
  ⟨⟨on { base with mode := .run, sch.active := some wideGates, sch.commit := some (commit (.waiting 9999990 false)) }, commit (.waiting 9999990 false), 9999990, false, by decide +kernel⟩,
   ⟨on { base with sch.commit := some dear }, dear, 0, by decide +kernel⟩,
   ⟨on { base with sch.commit := some (commit (.waiting 0 false)) }, commit (.waiting 0 false), 0, false, by decide +kernel⟩,
   ⟨on { base with sch.commit := some (commit (.waiting 9999991 true)) }, commit (.waiting 9999991 true), 9999991, true, by decide +kernel⟩,
   ⟨on { base with sch.queue := [{ req with deadline := some 0 }] }, { req with deadline := some 0 }, 0, by decide +kernel⟩,
   ⟨on { base with sch.commit := some (commit (.waiting 0 false)) }, sup, commit (.waiting 0 false), 0, false, by decide +kernel⟩,
   ⟨on { base with sch.commit := some (commit (.armed 10000003)) }, sup, commit (.armed 10000003), 10000003, by decide +kernel⟩,
   ⟨on { base with sch.commit := some { commit (.armed 10000004) with req := { req with requester := 64 } } }, sup, { commit (.armed 10000004) with req := { req with requester := 64 } }, 10000004, by decide +kernel⟩,
   ⟨on { base with sch.issued := some { issue with req := { req with requester := 64 }, done := true }, rte.held := some result }, sup, { issue with req := { req with requester := 64 }, done := true }, result, by decide +kernel⟩⟩

/-- States and operands that meet the hypotheses of TimeControl, clause by clause. -/
theorem witness_TimeControl :
    (∃ (s : State) (b : Bus) (v : Word), may s b) ∧
    (∃ (s : State) (b : Bus) (v : Word), may s b ∧ s.eng.whistleArmed = false) ∧
    (∃ (s : State) (b : Bus) (v : Word), may s b ∧ s.eng.whistleArmed = true) ∧
    (∃ (s : State) (b : Bus) (v : Word), may s b ∧ s.eng.whistleArmed = false ∧ v.toNat ≤ 999999999) ∧
    (∃ (s : State) (b : Bus) (v : Word), may s b ∧ 999999999 < v.toNat) ∧
    (∃ (s : State) (ns : Nat) (l : Bool), s.eng.mode ≠ .reset ∧ s.eng.whistleArmed = false ∧ s.eng.tim.steps = [{ edge := s.eng.tick, abs := some ns, offset := 0, link := l }] ∧ ns * nsUnit < timeModulus) ∧
    (∃ (s : State) (b : Bus), may s b) ∧
    (∃ (s : State) (b : Bus) (v : Fin 4), may s b) ∧
    (∃ (s : State) (v : Fin 4), s.pending = [] ∧ s.eng.mode ≠ .reset ∧ s.eng.due = [.timSrc v] ∧ s.eng.sch.fired = none ∧ s.eng.pwr.published = [] ∧ s.eng.flt.chip = none ∧ v.val ≠ s.eng.rfld Reg.timCtl 0 2) ∧
    (∃ (s : State) (t1 : Int) (t2 : Int) (t3 : Int) (t4 : Int) (c1 : Int) (c2 : Int), s.eng.mode = .run ∧ s.eng.rfld Reg.timCtl 0 2 = 1 ∧ s.eng.activeMember.isSome = true ∧ ((t2 - t1 - c1) - (t4 - t3 - c2)).natAbs ≤ 2 * 10 * 65536) ∧
    (∃ (s : State) (t1 : Int) (t2 : Int) (t3 : Int) (t4 : Int) (c1 : Int) (c2 : Int), s.eng.mode = .hold ∧ s.eng.rfld Reg.timCtl 0 2 = 1 ∧ s.eng.activeMember.isSome = true ∧ 2 * 1000 * 65536 < ((t2 - t1 - c1) - (t4 - t3 - c2)).natAbs ∧ s.eng.whistleArmed = false) ∧
    (∃ (s : State) (at_ : Nat) (iv : Nat), s.eng.mode ≠ .reset ∧ s.eng.rfld Reg.timCtl 0 2 = 1 ∧ s.eng.tim.lastSync = some (at_, iv) ∧ at_ + 3 * iv ≤ s.eng.elapsed) ∧
    (∃ (s : State) (k : Fin 256), s.eng.mode ≠ .reset ∧ s.eng.rfld Reg.timCtl 0 2 = 2 ∧ s.eng.tim.lastPps = none ∧ s.eng.whistleArmed = false) ∧
    (∃ (s : State) (k : Fin 256) (p : Nat), s.eng.mode ≠ .reset ∧ s.eng.rfld Reg.timCtl 0 2 = 2 ∧ s.eng.tim.lastPps = some p ∧ s.eng.tim.linkStep = false ∧ p + 999999000 * nsUnit ≤ arrivalTime s.eng k ∧ arrivalTime s.eng k ≤ p + 1000001000 * nsUnit ∧ (phaseError (ppsStamp s.eng k)).natAbs < 256000) ∧
    (∃ (s : State) (p : Nat), s.eng.mode ≠ .reset ∧ s.eng.rfld Reg.timCtl 0 2 = 2 ∧ s.eng.tim.ppsSince = some p ∧ p + 1500000000 * nsUnit ≤ s.eng.elapsed) :=
  ⟨⟨on base, sup, 0, by decide +kernel⟩,
   ⟨on base, sup, 0, by decide +kernel⟩,
   ⟨on { base with tim.cmps := base.tim.cmps.set 0 { armed := some 9999999, disarm := none, past := false, hits := 0 } }, sup, 1000000000, by decide +kernel⟩,
   ⟨on base, sup, 999999999, by decide +kernel⟩,
   ⟨on base, sup, 1000000000, by decide +kernel⟩,
   ⟨on { base with tim.steps := [{ edge := 10000000, abs := some 7, offset := 0, link := false }] }, 7, false, by decide +kernel⟩,
   ⟨on base, sup, by decide +kernel⟩,
   ⟨on base, sup, 0, by decide +kernel⟩,
   ⟨on { base with due := [.timSrc 2] }, 2, by decide +kernel⟩,
   ⟨on { base.putRfld Reg.timCtl 0 2 1 with mode := .run }, 0, 2 * 10 * 65536, 0, 0, 0, 0, by decide +kernel⟩,
   ⟨on (base.putRfld Reg.timCtl 0 2 1), 0, 2 * 1000 * 65536 + 1, 0, 0, 0, 0, by decide +kernel⟩,
   ⟨on { base.putRfld Reg.timCtl 0 2 1 with tim.lastSync := some (0, 0) }, 0, 0, by decide +kernel⟩,
   ⟨on (base.putRfld Reg.timCtl 0 2 2), 0, by decide +kernel⟩,
   ⟨on { base.putRfld Reg.timCtl 0 2 2 with elapsed := 999999000 * nsUnit, tim.lastPps := some 0 }, 0, 0, by decide +kernel⟩,
   ⟨on { base.putRfld Reg.timCtl 0 2 2 with elapsed := 1500000000 * nsUnit, tim.ppsSince := some 0 }, 0, by decide +kernel⟩⟩

/-- States and operands that meet the hypotheses of Comparators, clause by clause. -/
theorem witness_Comparators :
    (∃ (s : State) (b : Bus) (c : Fin 64) (p : Bool), may s b ∧ c ≠ 0 ∧ (s.eng.cmp c).armed = none ∧ (p = true → s.eng.reg (Reg.timCmpPeriod c) ≠ 0)) ∧
    (∃ (s : State) (b : Bus) (c : Fin 64), may s b ∧ c ≠ 0 ∧ s.eng.reg (Reg.timCmpPeriod c) = 0) ∧
    (∃ (s : State) (b : Bus) (c : Fin 64) (p : Bool) (n : Nat), may s b ∧ c ≠ 0 ∧ (s.eng.cmp c).armed = some n ∧ (s.eng.cmp c).disarm = none) ∧
    (∃ (s : State) (c : Fin 64) (n : Nat) (missed : List (Fin 34)), s.eng.mode ≠ .reset ∧ c ≠ 0 ∧ (s.eng.cmp c).armed = some n ∧ n ≤ s.eng.tick ∧ (s.eng.cmp c).disarm = none ∧ (s.eng.cmp c).past = false ∧ cmpTarget s.eng c ≤ s.eng.time ∧ s.eng.rbit (Reg.timCmpCtl c) 1 = false) ∧
    (∃ (s : State) (c : Fin 64) (n : Nat) (missed : List (Fin 34)), s.eng.mode ≠ .reset ∧ c ≠ 0 ∧ (s.eng.cmp c).armed = some n ∧ n ≤ s.eng.tick ∧ (s.eng.cmp c).disarm = none ∧ cmpTarget s.eng c ≤ s.eng.time ∧ s.eng.rbit (Reg.timCmpCtl c) 1 = true ∧ s.eng.reg (Reg.timCmpCount c) = 0 ∧ (cmpTarget s.eng c / nsUnit + 4 * (s.eng.reg (Reg.timCmpPeriod c)).toNat) / 1000000000 < 2 ^ 64) ∧
    (∃ (s : State) (b : Bus) (p : Bool) (v : Word), may s b) ∧
    (∃ (s : State) (b : Bus) (c : Fin 64) (v : Word), may s b ∧ c ≠ 0 ∧ (s.eng.cmp c).armed = none) ∧
    (∃ (s : State) (b : Bus) (k : Fin 4) (pol : Bool) (per : Bool), may s b ∧ secureBus b = true ∧ s.eng.rbit (Reg.timToutCtl k) 0 = false ∧ 16 ≤ (s.eng.reg (Reg.timToutPeriod k)).toNat ∧ 8 ≤ (s.eng.reg (Reg.timToutWidth k)).toNat ∧ (s.eng.reg (Reg.timToutWidth k)).toNat + 8 ≤ (s.eng.reg (Reg.timToutPeriod k)).toNat ∧ s.eng.time < toutStart s.eng k * nsUnit) ∧
    (∃ (s : State) (b : Bus) (k : Fin 4) (pol : Bool) (per : Bool), may s b ∧ secureBus b = true ∧ s.eng.rbit (Reg.timToutCtl k) 0 = false ∧ ((s.eng.reg (Reg.timToutPeriod k)).toNat < 16 ∨ (s.eng.reg (Reg.timToutWidth k)).toNat < 8 ∨ (s.eng.reg (Reg.timToutPeriod k)).toNat < (s.eng.reg (Reg.timToutWidth k)).toNat + 8)) ∧
    (∃ (s : State) (b : Bus) (k : Fin 4) (v : Word), may s b ∧ secureBus b = true) ∧
    (∃ (s : State) (b : Bus) (k : Fin 4) (v : Word) (p : Bool) (q : Bool), may s b ∧ secureBus b = false) ∧
    (∃ (s : State) (k : Fin 4), s.eng.mode ≠ .reset ∧ (s.eng.tim.touts[k]).running = true ∧ (s.eng.tim.touts[k]).pulse = false ∧ toutDue s.eng k (s.eng.tim.touts[k]).next = true) ∧
    (∃ (s : State) (k : Fin 4), s.eng.mode ≠ .reset ∧ (s.eng.tim.touts[k]).running = true ∧ (s.eng.tim.touts[k]).pulse = true ∧ toutDue s.eng k ((s.eng.tim.touts[k]).next + (s.eng.reg (Reg.timToutWidth k)).toNat) = true ∧ s.eng.rbit (Reg.timToutCtl k) 1 = false) :=
  ⟨⟨on base, sup, 63, false, by decide +kernel⟩,
   ⟨on base, sup, 63, by decide +kernel⟩,
   ⟨on { base with tim.cmps := base.tim.cmps.set 63 { armed := some 10000000, disarm := none, past := false, hits := 0 } }, sup, 63, false, 10000000, by decide +kernel⟩,
   ⟨on { base with tim.cmps := base.tim.cmps.set 63 { armed := some 10000000, disarm := none, past := false, hits := 0 } }, 63, 10000000, [], by decide +kernel⟩,
   ⟨on { base.putRbit (Reg.timCmpCtl 63) 1 true with tim.cmps := base.tim.cmps.set 63 { armed := some 10000000, disarm := none, past := false, hits := 0 } }, 63, 10000000, [], by decide +kernel⟩,
   ⟨on base, sup, false, 0, by decide +kernel⟩,
   ⟨on base, sup, 63, 1000000000, by decide +kernel⟩,
   ⟨on (((base.setReg (Reg.timToutPeriod 3) 16).setReg (Reg.timToutWidth 3) 8).setReg (Reg.timToutSecLo 3) 1), sup, 3, false, false, by decide +kernel⟩,
   ⟨on (base.setReg (Reg.timToutWidth 3) 7), sup, 3, false, false, by decide +kernel⟩,
   ⟨on base, sup, 0, 0, by decide +kernel⟩,
   ⟨on base, window, 0, 0, false, false, by decide +kernel⟩,
   ⟨on { base with tim.touts := base.tim.touts.set 3 { running := true, pulse := false, next := 0, made := 0 } }, 3, by decide +kernel⟩,
   ⟨on { base with time := 8 * nsUnit, tim.touts := base.tim.touts.set 3 { running := true, pulse := true, next := 0, made := 0 } }, 3, by decide +kernel⟩⟩

/-- States and operands that meet the hypotheses of SecureOutputs, clause by clause. -/
theorem witness_SecureOutputs :
    (∃ (s : State) (b : Bus) (a : Nat) (v : Word), may s b ∧ (b.secure = false ∨ b.master = .flp) ∧ (∃ k : Fin 4, a ∈ [Reg.timToutCtl k, Reg.timToutNs k, Reg.timToutSecLo k, Reg.timToutSecHi k, Reg.timToutPeriod k, Reg.timToutWidth k, Reg.timToutCount k, Reg.timAsymTout k])) ∧
    (∃ (s : State) (b : Bus) (k : Fin 4) (p : Bool) (q : Bool) (v : Word), may s b ∧ (b.secure = false ∨ b.master = .flp)) ∧
    (∃ (s : State) (b : Bus) (k : Fin 4) (v : Word), may s b ∧ b.secure = true ∧ b.master ≠ .flp) :=
  ⟨⟨on base, window, Reg.timAsymTout 3, 0, by decide +kernel⟩,
   ⟨on base, window, 0, false, false, 0, by decide +kernel⟩,
   ⟨on base, sup, 0, 0, by decide +kernel⟩⟩

/-- States and operands that meet the hypotheses of LedgerFlow, clause by clause. -/
theorem witness_LedgerFlow :
    (∃ (s : State) (h : Held), s.eng.mode ≠ .reset ∧ (s.eng.led.minute + 1) * minuteUnits ≤ s.eng.time ∧ s.eng.led.held = [h]) ∧
    (∃ (s : State) (r : LedRec) (l : List LedRec), s.eng.mode ≠ .reset ∧ s.eng.led.push = r :: l ∧ s.eng.led.pushFrom ≤ s.eng.tick ∧ s.eng.led.fifo.length < 4096) ∧
    (∃ (s : State) (r : LedRec) (l : List LedRec) (q : Fin 64), s.eng.mode ≠ .reset ∧ s.eng.led.push = r :: l ∧ s.eng.led.pushFrom ≤ s.eng.tick ∧ 4096 ≤ s.eng.led.fifo.length ∧ r.tenant = q.val ∧ s.eng.led.acc[q] = none) ∧
    (∃ (s : State) (b : Bus) (r : LedRec) (l : List LedRec), may s b ∧ s.eng.led.fifo = r :: l) ∧
    (∃ (s : State) (b : Bus) (q : Fin 64) (a : Acc), may s b ∧ s.eng.led.acc[q] = some a) ∧
    (∃ (s : State) (r : LedRec), s.eng.mode ≠ .reset ∧ s.eng.activeMember.isSome = true ∧ packReady s.eng ∧ s.eng.led.fifo = [r] ∧ s.eng.fw.ring.length < 65536 ∧ (∀ q : Fin 64, s.eng.led.acc[q] = none)) ∧
    (∃ (s : State) (h : Held), s.eng.mode ≠ .reset ∧ s.eng.led.held = [h] ∧ h.limit < s.eng.elapsed ∧ h.limit ≤ s.eng.elapsed - s.eng.increment) :=
  ⟨⟨on { base with time := minuteUnits, led.held := [{ tenant := 1, input := 2, output := 3, since := 0, carry := 0, blinks := 0, start := true, step := false }] }, { tenant := 1, input := 2, output := 3, since := 0, carry := 0, blinks := 0, start := true, step := false }, by decide +kernel⟩,
   ⟨on { base with led.push := [{ tenant := 63, input := 2, output := 3, minute := 0, ns := 5, blinks := 0, start := true, ended := false, step := false }] }, { tenant := 63, input := 2, output := 3, minute := 0, ns := 5, blinks := 0, start := true, ended := false, step := false }, [], by decide +kernel⟩,
   ⟨on { base with led.push := [{ tenant := 63, input := 2, output := 3, minute := 0, ns := 5, blinks := 0, start := true, ended := false, step := false }], led.fifo := List.replicate 4096 { tenant := 63, input := 2, output := 3, minute := 0, ns := 5, blinks := 0, start := true, ended := false, step := false } }, { tenant := 63, input := 2, output := 3, minute := 0, ns := 5, blinks := 0, start := true, ended := false, step := false }, [], 63, by decide +kernel⟩,
   ⟨on { base with led.fifo := [{ tenant := 63, input := 2, output := 3, minute := 0, ns := 5, blinks := 0, start := true, ended := false, step := false }] }, sup, { tenant := 63, input := 2, output := 3, minute := 0, ns := 5, blinks := 0, start := true, ended := false, step := false }, [], by decide +kernel⟩,
   ⟨on { base with led.acc := base.led.acc.set 63 (some { ns := 1, blinks := 2, first := 3, last := 4 }) }, sup, 63, { ns := 1, blinks := 2, first := 3, last := 4 }, by decide +kernel⟩,
   ⟨on { base with led.fifo := [{ tenant := 63, input := 2, output := 3, minute := 0, ns := 5, blinks := 0, start := true, ended := false, step := false }] }, { tenant := 63, input := 2, output := 3, minute := 0, ns := 5, blinks := 0, start := true, ended := false, step := false }, by decide +kernel⟩,
   ⟨on { base with led.held := [open0], elapsed := open0.limit + base.increment }, open0, by decide +kernel⟩⟩

/-- States and operands that meet the hypotheses of Events, clause by clause. -/
theorem witness_Events :
    (∃ (s : State) (e : Emitted) (n : Nat) (c : Nat), s.eng.mode ≠ .reset ∧ s.eng.evt.emitted = [e] ∧ sampleEdge e ≤ s.eng.tick ∧ e.hop ≤ 4 ∧ channelOf s.eng e.producer = some n ∧ chConsumer (chWord s.eng n) = 0x70 + c ∧ c < 8 ∧ s.eng.rbit Reg.evtIrqPend c = false ∧ (0x70 + c, s.eng.tick) ∉ s.eng.evt.cleared) ∧
    (∃ (s : State) (e : Emitted) (n : Nat) (c : Nat), s.eng.mode ≠ .reset ∧ s.eng.evt.emitted = [e] ∧ sampleEdge e ≤ s.eng.tick ∧ e.hop ≤ 4 ∧ channelOf s.eng e.producer = some n ∧ chConsumer (chWord s.eng n) = 0x70 + c ∧ c < 8 ∧ (s.eng.rbit Reg.evtIrqPend c = true ∨ (0x70 + c, s.eng.tick) ∈ s.eng.evt.cleared)) ∧
    (∃ (s : State) (x : Emitted) (y : Emitted) (n : Nat) (m : Nat) (c : Nat), s.eng.mode ≠ .reset ∧ s.eng.evt.emitted = [x, y] ∧ sampleEdge x = sampleEdge y ∧ sampleEdge x ≤ s.eng.tick ∧ x.hop ≤ 4 ∧ y.hop ≤ 4 ∧ channelOf s.eng x.producer = some n ∧ channelOf s.eng y.producer = some m ∧ n ≠ m ∧ chConsumer (chWord s.eng n) = 0x70 + c ∧ chConsumer (chWord s.eng m) = 0x70 + c ∧ c < 8 ∧ s.eng.rbit Reg.evtIrqPend c = false ∧ (0x70 + c, s.eng.tick) ∉ s.eng.evt.cleared ∧ winsOver s.eng n m = true) ∧
    (∃ (s : State) (b : Bus) (v : Word) (c : Nat), may s b ∧ c < 8 ∧ bit v c = true ∧ s.eng.rbit Reg.evtIrqPend c = true) ∧
    (∃ (s : State) (e : Emitted) (n : Nat), s.eng.mode ≠ .reset ∧ s.eng.evt.emitted = [e] ∧ sampleEdge e ≤ s.eng.tick ∧ 4 < e.hop ∧ channelOf s.eng e.producer = some n ∧ s.eng.rbit Reg.evtLoopSrc 31 = false ∧ e.producer < 256) ∧
    (∃ (s : State) (b : Bus) (v : Word), may s b ∧ (s.eng.mode ≠ .load ∨ s.eng.evt.ready = true) ∧ cfgRefusal s.eng (fld v 24 7) (fld v 0 6) (s.eng.reg Reg.evtCfgData &&& 0xFF80FFFF#32) = none) ∧
    (∃ (s : State) (b : Bus) (v : Word), may s b ∧ s.eng.mode = .load ∧ s.eng.evt.ready = false) ∧
    (∃ (s : State) (b : Bus) (v : Word), may s b ∧ (s.eng.mode ≠ .load ∨ s.eng.evt.ready = true) ∧ fld v 24 7 ≠ 0 ∧ fld v 24 7 ≠ chOwner (chComing s.eng (fld v 0 6))) ∧
    (∃ (s : State) (n : Nat) (w : Word) (e : Nat), s.eng.mode ≠ .reset ∧ s.eng.evt.cfg = [(n, w, e)] ∧ e ≤ s.eng.tick) ∧
    (∃ (s : State) (b : Bus) (v : Byte), may s b) :=
  ⟨⟨on { base.setReg (Reg.evtChCfg 63) 0x80007701 with evt.emitted := [{ producer := 1, hop := 4, edge := 0 }] }, { producer := 1, hop := 4, edge := 0 }, 63, 7, by decide +kernel⟩,
   ⟨on { base.setReg (Reg.evtChCfg 63) 0x80007701 with evt.emitted := [{ producer := 1, hop := 4, edge := 0 }], evt.cleared := [(0x77, 10000000)] }, { producer := 1, hop := 4, edge := 0 }, 63, 7, by decide +kernel⟩,
   ⟨on { (base.setReg (Reg.evtChCfg 5) 0x80007701).setReg (Reg.evtChCfg 63) 0x80007710 with evt.emitted := [{ producer := 1, hop := 4, edge := 0 }, { producer := 0x10, hop := 4, edge := 0 }] }, { producer := 1, hop := 4, edge := 0 }, { producer := 0x10, hop := 4, edge := 0 }, 5, 63, 7, by decide +kernel⟩,
   ⟨on (base.putRbit Reg.evtIrqPend 7 true), sup, 0xFF, 7, by decide +kernel⟩,
   ⟨on { base.setReg (Reg.evtChCfg 63) 0x80007701 with evt.emitted := [{ producer := 1, hop := 5, edge := 0 }] }, { producer := 1, hop := 5, edge := 0 }, 63, by decide +kernel⟩,
   ⟨on (base.setReg Reg.evtCfgData 0xC0007701), sup, 63, by decide +kernel⟩,
   ⟨on { base with mode := .load }, sup, 0, by decide +kernel⟩,
   ⟨on base, sup, 1 <<< 24, by decide +kernel⟩,
   ⟨on { base with evt.cfg := [(63, 1, 10000000)] }, 63, 1, 10000000, by decide +kernel⟩,
   ⟨on base, sup, 0, by decide +kernel⟩⟩

/-- States and operands that meet the hypotheses of PowerInputs, clause by clause. -/
theorem witness_PowerInputs :
    (∃ (s : State) (rs : Vector (Half × Half) 8), s.eng.mode ≠ .reset ∧ max (s.eng.pwr.lastRail.getD 0) s.eng.divTick + 2500 ≤ s.eng.tick ∧ s.eng.pwr.measuring = []) ∧
    (∃ (s : State) (r : Fin 8) (uv : Nat), s.eng.mode ≠ .reset ∧ 100 * uv < uvPercent s.eng r * railNominal r ∧ (r.val ≠ 5 ∧ r.val ≠ 6 ∨ s.eng.pwr.blankEnd = none)) ∧
    (∃ (s : State) (r : Fin 8) (uv : Nat), uvPercent s.eng r * railNominal r ≤ 100 * uv) ∧
    (∃ (s : State) (r : Fin 8) (uv : Nat) (n : Nat), s.eng.pwr.blankEnd = some n ∧ s.eng.tick < n ∧ (r.val = 5 ∨ r.val = 6)) ∧
    (∃ (s : State) (n : Nat) (hp : Nat) (hn : Nat), s.eng.mode ≠ .reset ∧ s.eng.pwr.blankEnd = some n ∧ n ≤ s.eng.tick ∧ underVoltage s.eng 6 hn = false) ∧
    (∃ (s : State) (b : Bus) (v : Word), may s b) ∧
    (∃ (s : State) (b : Bus) (v : Word), may s b) ∧
    (∃ (s : State) (b : Bus) (v : Word), may s b) ∧
    (∃ (s : State) (b : Bus) (v : Word), may s b) :=
  ⟨⟨on base, Vector.replicate 8 (0, 0), by decide +kernel⟩,
   ⟨on base, 0, 0, by decide +kernel⟩,
   ⟨on { base with pwr.blankEnd := some 10000001 }, 6, 6300000, by decide +kernel⟩,
   ⟨on { base with pwr.blankEnd := some 10000001 }, 6, 0, 10000001, by decide +kernel⟩,
   ⟨on { base with pwr.blankEnd := some 10000000 }, 10000000, 0, 6300000, by decide +kernel⟩,
   ⟨on base, sup, 0, by decide +kernel⟩,
   ⟨on base, sup, 0, by decide +kernel⟩,
   ⟨on base, sup, 0, by decide +kernel⟩,
   ⟨on base, sup, 0, by decide +kernel⟩⟩

/-- States and operands that meet the hypotheses of Governor, clause by clause. -/
theorem witness_Governor :
    (∃ (s : State), s.eng.mode ≠ .reset ∧ max (s.eng.pwr.lastUpdate.getD 0) s.eng.divTick + 25000 ≤ s.eng.tick) ∧
    (∃ (s : State), s.eng.mode ≠ .reset ∧ max (s.eng.pwr.lastUpdate.getD 0) s.eng.divTick + 25000 ≤ s.eng.tick ∧ s.eng.pwr.valid = true) ∧
    (∃ (s : State), s.eng.mode ≠ .reset ∧ s.eng.tick < max (s.eng.pwr.lastUpdate.getD 0) s.eng.divTick + 25000) ∧
    (∃ (s : State) (ws : List Word), s.eng.mode ≠ .reset ∧ s.eng.pwr.sdRecord = some ws ∧ s.eng.pwr.sdAt + 100 ≤ s.eng.tick ∧ s.eng.nvm.op = none ∧ s.eng.nvmHeld = false) ∧
    (∃ (s : State), s.eng.mode ≠ .reset ∧ s.eng.pwr.shutdown = true ∧ s.eng.pwr.sdWritten = true ∧ s.eng.drv.removed = false ∧ s.eng.pwr.recovering = false) ∧
    (∃ (s : State) (b : Bus) (v : Word), may s b ∧ s.eng.pwr.cooled = true ∧ s.eng.drv.removed = true ∧ s.eng.pwr.recovering = false) ∧
    (∃ (s : State) (b : Bus) (v : Word), may s b ∧ (s.eng.pwr.cooled = false ∨ s.eng.drv.removed = false)) :=
  ⟨⟨on base, by decide +kernel⟩,
   ⟨on { base with pwr.valid := true }, by decide +kernel⟩,
   ⟨on { base with tick := 24999 }, by decide +kernel⟩,
   ⟨on { base with pwr.sdRecord := some [] }, [], by decide +kernel⟩,
   ⟨on { base with pwr.shutdown := true, pwr.sdWritten := true }, by decide +kernel⟩,
   ⟨on { base with pwr.cooled := true, drv.removed := true }, sup, 0, by decide +kernel⟩,
   ⟨on base, sup, 0, by decide +kernel⟩⟩

/-- States and operands that meet the hypotheses of PackCycle, clause by clause. -/
theorem witness_PackCycle :
    (∃ (s : State) (ceA : Nat) (ceB : Nat) (x : Nat), s.eng.mode ≠ .reset ∧ s.eng.pak.boundary + 25000 ≤ s.eng.tick ∧ s.eng.standbyMember = none ∧ (∀ m, s.eng.role m ≠ .syncing) ∧ s.eng.pak.held = [] ∧ s.eng.fw.closing = [] ∧ s.eng.pak.stamps = [x] ∧ s.eng.log.length ≤ 4096) ∧
    (∃ (s : State) (ceA : Nat) (ceB : Nat) (a : Bool), s.eng.mode ≠ .reset ∧ s.eng.pak.boundary + 25000 ≤ s.eng.tick ∧ s.eng.activeMember = some a ∧ s.eng.role (!a) = .syncing ∧ firmwareLoaded s.eng = true ∧ s.eng.pak.held = [] ∧ s.eng.fw.closing = []) ∧
    (∃ (s : State) (ceA : Nat) (ceB : Nat) (c : Nat) (b : Bool) (d : Delta), s.eng.mode ≠ .reset ∧ s.eng.pak.boundary + 25000 ≤ s.eng.tick ∧ s.eng.standbyMember = some b ∧ s.eng.pak.cycle = c + 1 ∧ s.eng.pak.posted = [d] ∧ d.cycle = c ∧ s.eng.pak.applied = none ∧ s.eng.pak.overlap = false ∧ s.eng.pak.takeover = none ∧ s.eng.pak.held = [] ∧ s.eng.fw.closing = []) ∧
    (∃ (s : State) (b : Bool), s.eng.activeMember = some b ∧ (∀ d ∈ s.eng.pak.posted, d.cycle ≠ s.eng.pak.cycle)) ∧
    (∃ (s : State) (d : Delta), s.eng.activeMember.isSome = true ∧ d ∈ s.eng.pak.posted ∧ d.cycle = s.eng.pak.cycle) ∧
    (∃ (s : State) (b : Bool) (d : Delta), s.eng.standbyMember = some b ∧ nextDelta s.eng = some d ∧ trailerAgrees d (memWrites zeroWord (mirrored (s.eng.member b).sram) d.changes) = true) ∧
    (∃ (s : State) (b : Bool) (d : Delta), s.eng.standbyMember = some b ∧ nextDelta s.eng = some d ∧ trailerAgrees d (memWrites zeroWord (mirrored (s.eng.member b).sram) d.changes) = false ∧ s.eng.pak.overlap = false) ∧
    (∃ (s : State) (a : Bool) (m : Mem), s.eng.mode ≠ .reset ∧ s.eng.activeMember = some a ∧ s.eng.role (!a) = .syncing ∧ s.eng.pak.pass = some m ∧ (∀ d ∈ s.eng.pak.posted, d.cycle ≠ s.eng.pak.cycle) ∧ (changedPages (wordChanges m (formDelta s.eng a).2)).length ≤ 10) ∧
    (∃ (s : State) (c : Instr) (m : Bool) (src : Fin 128) (cause : Nat), releaseRow c = some (m, src, cause) ∧ s.eng.mode ≠ .reset ∧ s.eng.role m = .active) ∧
    (∃ (s : State) (c : Instr) (m : Bool) (src : Fin 128) (cause : Nat), releaseRow c = some (m, src, cause) ∧ s.eng.mode ≠ .reset ∧ s.eng.role m ≠ .active ∧ s.eng.role m ≠ .fenced ∧ s.eng.pak.overlap = false) ∧
    (∃ (s : State) (c : Instr) (m : Bool) (src : Fin 128) (cause : Nat), releaseRow c = some (m, src, cause) ∧ s.eng.mode ≠ .reset ∧ s.eng.role m = .fenced) ∧
    (∃ (s : State) (m : Bool), s.eng.mode ≠ .reset ∧ s.eng.role m = .active) ∧
    (∃ (s : State) (m : Bool), s.eng.mode ≠ .reset ∧ s.eng.activeMember = some m ∧ 2 ≤ s.eng.pak.cycle ∧ s.eng.pak.activeFrom + 2 ≤ s.eng.pak.cycle ∧ (∀ d ∈ s.eng.pak.posted, d.cycle + 1 ≠ s.eng.pak.cycle ∧ d.cycle + 2 ≠ s.eng.pak.cycle)) ∧
    (∃ (s : State) (d : Delta), d ∈ s.eng.pak.posted ∧ d.cycle + 1 = s.eng.pak.cycle) ∧
    (∃ (s : State) (b : Bool), s.eng.mode ≠ .reset ∧ s.eng.standbyMember = some b ∧ s.eng.pak.overlap = false ∧ s.eng.pak.takeover = none) ∧
    (∃ (s : State) (m : Bool) (n : Nat) (cause : Nat), s.eng.role m = .fenced ∧ (s.eng.member m).released = some (n, cause) ∧ n + 250000 ≤ s.eng.tick) ∧
    (∃ (s : State) (m : Bool) (n : Nat) (cause : Nat), (s.eng.member m).released = some (n, cause) ∧ s.eng.tick < n + 250000) ∧
    (∃ (s : State) (n : Nat), s.eng.mode ≠ .reset ∧ s.eng.pak.noStandbySince = some n ∧ s.eng.pak.noStandbyReported = false ∧ n + 250000000 ≤ s.eng.tick) ∧
    (∃ (s : State) (n : Nat), s.eng.pak.noStandbySince = some n ∧ s.eng.tick < n + 250000000) :=
  ⟨⟨on { base with pak.stamps := [5] }, 0, 0, 5, by decide +kernel⟩,
   ⟨on { base with pak.b.role := .syncing }, 0, 0, false, by decide +kernel⟩,
   ⟨on { base with pak.b.role := .standby, pak.cycle := 1, pak.posted := [delta 0 []] }, 0, 0, 0, true, delta 0 [], by decide +kernel⟩,
   ⟨on base, false, by decide +kernel⟩,
   ⟨on { base with pak.posted := [delta 9 []] }, delta 9 [], by decide +kernel⟩,
   ⟨on { base with pak.b.role := .standby, pak.posted := [delta 0 []] }, true, delta 0 [], by decide +kernel⟩,
   ⟨on { base with pak.b.role := .standby, pak.posted := [delta 0 [(0, pageCrc [] 0 + 1)]] }, true, delta 0 [(0, pageCrc [] 0 + 1)], by decide +kernel, rfl, trailer_wrong _ _ _, by decide +kernel⟩,
   ⟨on { base with pak.b.role := .syncing, pak.pass := some [] }, false, [], by decide +kernel⟩,
   ⟨on base, .pakLockstep false, false, 8, 1, by decide +kernel⟩,
   ⟨on { base with pak.b.role := .standby }, .pakCfsig true, true, 10, 3, by decide +kernel⟩,
   ⟨on { base with pak.b.role := .fenced }, .pakLockstep true, true, 8, 1, by decide +kernel⟩,
   ⟨on base, false, by decide +kernel⟩,
   ⟨on base, false, by decide +kernel⟩,
   ⟨on { base with pak.posted := [delta 8 []] }, delta 8 [], by decide +kernel⟩,
   ⟨on { base with pak.b.role := .standby }, true, by decide +kernel⟩,
   ⟨on { base with pak.b.role := .fenced, pak.b.released := some (9750000, 1) }, true, 9750000, 1, by decide +kernel⟩,
   ⟨on { base with pak.b.role := .fenced, pak.b.released := some (9750001, 1) }, true, 9750001, 1, by decide +kernel⟩,
   ⟨on { base with tick := 250000000, pak.noStandbySince := some 0 }, 0, by decide +kernel⟩,
   ⟨on { base with tick := 249999999, pak.noStandbySince := some 0 }, 0, by decide +kernel⟩⟩

/-- States and operands that meet the hypotheses of PackClaims, clause by clause. -/
theorem witness_PackClaims :
    (∃ (s : State), s.eng.mode ≠ .reset ∧ s.eng.pak.booted = false ∧ s.eng.pak.a.role = .off ∧ s.eng.pak.a.tested = none ∧ s.eng.pak.b.tested = none) ∧
    (∃ (s : State), s.eng.mode ≠ .reset ∧ s.eng.pak.booted = false ∧ s.eng.pak.b.role = .off ∧ s.eng.pak.b.tested = none ∧ s.eng.pak.a.tested = some false) ∧
    (∃ (s : State), s.eng.mode ≠ .reset ∧ s.eng.pak.booted = false ∧ s.eng.pak.b.role = .off ∧ s.eng.pak.b.tested = none ∧ s.eng.pak.a.tested = none) ∧
    (∃ (s : State) (b : Bool), s.eng.mode ≠ .reset ∧ s.eng.pak.booted = true ∧ s.eng.role b = .off ∧ (s.eng.member b).tested = none ∧ s.eng.rbit Reg.pakCtl 2 = true ∧ s.eng.activeMember = some (!b)) ∧
    (∃ (s : State) (b : Bool), s.eng.mode ≠ .reset ∧ s.eng.pak.booted = true ∧ s.eng.role b = .off ∧ (s.eng.member b).tested = none ∧ s.eng.rbit Reg.pakCtl 2 = true ∧ s.eng.activeMember = none) ∧
    (∃ (s : State) (b : Bool), s.eng.mode ≠ .reset ∧ s.eng.pak.booted = true ∧ s.eng.role b = .off ∧ (s.eng.member b).tested = none) ∧
    (∃ (s : State) (r : Bool) (b : Bool) (cause : Nat) (j : Nat) (k : Nat), s.eng.mode ≠ .reset ∧ s.eng.pak.takeover = some (r, cause, k) ∧ k < s.eng.pak.cycle ∧ s.eng.standbyMember = some b ∧ s.eng.pak.overlap = false ∧ s.eng.rbit Reg.pakStat 1 = false ∧ cause < 256 ∧ s.eng.pak.followHeld = [] ∧ s.eng.pak.gapCycles = [] ∧ s.eng.pak.applied = some j ∧ (∀ d ∈ s.eng.pak.posted, d.cycle ≤ j ∨ k ≤ d.cycle)) ∧
    (∃ (s : State) (r : Bool) (cause : Nat) (k : Nat), s.eng.mode ≠ .reset ∧ s.eng.pak.takeover = some (r, cause, k) ∧ k < s.eng.pak.cycle ∧ s.eng.standbyMember = none ∧ s.eng.pak.followHeld = []) ∧
    (∃ (s : State) (b : Bool) (c : Nat), s.eng.mode ≠ .reset ∧ s.eng.activeMember = none ∧ s.eng.pak.takeover = none ∧ s.eng.pak.claims = [(b, c)] ∧ c < s.eng.pak.cycle) ∧
    (∃ (s : State) (b : Bus), may s b) ∧
    (∃ (s : State) (b : Bus) (v : Word), may s b ∧ s.eng.pak.baseLoaded = false) ∧
    (∃ (s : State) (b : Bus) (v : Word), may s b ∧ s.eng.pak.baseLoaded = true) ∧
    (∃ (s : State) (b : Bus), may s b ∧ s.eng.pak.overlap = false ∧ swapBlocked s.eng = false) ∧
    (∃ (s : State) (b : Bus), may s b ∧ s.eng.pak.overlap = false ∧ swapBlocked s.eng = true) ∧
    (∃ (s : State), s.eng.mode ≠ .reset ∧ s.eng.rbit Reg.pakCtl 0 = true ∧ s.eng.pak.swapDue = none ∧ s.eng.pak.overlap = false ∧ s.eng.pak.booted = true ∧ s.eng.pak.lastSwitch + max 60 (s.eng.reg Reg.pakSwapPeriod).toNat * 1000000000 * nsUnit ≤ s.eng.elapsed ∧ swapBlocked s.eng = false) ∧
    (∃ (s : State), s.eng.mode ≠ .reset ∧ s.eng.rbit Reg.pakCtl 0 = true ∧ s.eng.pak.swapDue = none ∧ s.eng.pak.overlap = false ∧ s.eng.pak.booted = true ∧ s.eng.pak.lastSwitch + max 60 (s.eng.reg Reg.pakSwapPeriod).toNat * 1000000000 * nsUnit ≤ s.eng.elapsed ∧ swapBlocked s.eng = true) ∧
    (∃ (s : State), s.eng.rbit Reg.pakCtl 0 = false) ∧
    (∃ (s : State) (cause : Nat), s.eng.mode ≠ .reset ∧ s.eng.pak.swapDue = some cause ∧ s.eng.pak.overlap = false ∧ swapBlocked s.eng = false ∧ s.eng.tick = s.eng.pak.boundary) ∧
    (∃ (s : State), (s.eng.tick ≠ s.eng.pak.boundary ∨ swapBlocked s.eng = true)) ∧
    (∃ (s : State) (a : Bool) (b : Bool) (cause : Nat), s.eng.mode ≠ .reset ∧ s.eng.activeMember = some a ∧ s.eng.standbyMember = some b ∧ s.eng.pak.overlap = true ∧ s.eng.pak.overlapFrom < s.eng.pak.cycle ∧ s.eng.pak.swapDue = some cause ∧ cause < 256 ∧ s.eng.pak.followHeld = [] ∧ trailerAgrees (outgoingTrailer a s.eng) (mirrored (s.eng.member b).sram) = true) ∧
    (∃ (s : State) (a : Bool) (b : Bool) (cause : Nat), s.eng.mode ≠ .reset ∧ s.eng.activeMember = some a ∧ s.eng.standbyMember = some b ∧ s.eng.pak.overlap = true ∧ s.eng.pak.overlapFrom < s.eng.pak.cycle ∧ s.eng.pak.swapDue = some cause ∧ s.eng.pak.followHeld = [] ∧ trailerAgrees (outgoingTrailer a s.eng) (mirrored (s.eng.member b).sram) = false) :=
  ⟨⟨on { base with pak.a := Member.reset, pak.b := Member.reset }, by decide +kernel⟩,
   ⟨on { base with pak.a := { Member.reset with tested := some false }, pak.b := Member.reset }, by decide +kernel⟩,
   ⟨on { base with pak.booted := false, pak.a := Member.reset, pak.b := Member.reset }, by decide +kernel⟩,
   ⟨on { base.putRbit Reg.pakCtl 2 true with pak.booted := true }, true, by decide +kernel⟩,
   ⟨on { base.putRbit Reg.pakCtl 2 true with pak.booted := true, pak.a := Member.reset, pak.b := Member.reset }, true, by decide +kernel⟩,
   ⟨on { base with pak.booted := true }, true, by decide +kernel⟩,
   ⟨on { base with pak.a.role := .fenced, pak.b.role := .standby, pak.takeover := some (false, 255, 8), pak.applied := some 7 }, false, true, 255, 7, 8, by decide +kernel⟩,
   ⟨on { base with pak.a.role := .fenced, pak.takeover := some (false, 1, 8) }, false, 1, 8, by decide +kernel⟩,
   ⟨on { base with pak.a := Member.reset, pak.b := Member.reset, pak.claims := [(true, 8)] }, true, 8, by decide +kernel⟩,
   ⟨on base, sup, by decide +kernel⟩,
   ⟨on base, sup, 0, by decide +kernel⟩,
   ⟨on { base with pak.baseLoaded := true }, sup, 0, by decide +kernel⟩,
   ⟨on { base with pak.b.role := .standby }, sup, by decide +kernel⟩,
   ⟨on base, sup, by decide +kernel⟩,
   ⟨on { base.putRbit Reg.pakCtl 0 true with pak.b.role := .standby, pak.booted := true, elapsed := 86400000000000 * nsUnit }, by decide +kernel⟩,
   ⟨on { base.putRbit Reg.pakCtl 0 true with pak.booted := true, elapsed := 86400000000000 * nsUnit }, by decide +kernel⟩,
   ⟨on (base.putRbit Reg.pakCtl 0 false), by decide +kernel⟩,
   ⟨on { base with pak.b.role := .standby, pak.swapDue := some 6, pak.boundary := 10000000 }, 6, by decide +kernel⟩,
   ⟨on base, by decide +kernel⟩,
   ⟨on { base with pak.b.role := .standby, pak.overlap := true, pak.overlapFrom := 8, pak.swapDue := some 6, pak.posted := [delta 8 []] }, false, true, 6, by decide +kernel⟩,
   ⟨on { base with pak.b.role := .standby, pak.overlap := true, pak.overlapFrom := 8, pak.swapDue := some 6, pak.posted := [delta 8 [(0, pageCrc [] 0 + 1)]] }, false, true, 6, by decide +kernel, by decide +kernel, by decide +kernel, by decide +kernel, by decide +kernel, by decide +kernel, by decide +kernel, trailer_wrong _ _ _⟩⟩

/-- States and operands that meet the hypotheses of NonActiveAccess, clause by clause. -/
theorem witness_NonActiveAccess :
    (∃ (s : State) (c : Instr) (x : BusCmd) (m : Bool), wellFormed c = true ∧ busOf c = some x ∧ s.eng.mode ≠ .reset ∧ x.bus.master = (if m then .memberB else .memberA) ∧ s.eng.role m ≠ .active ∧ (s.eng.pak.overlap = false ∨ s.eng.role m ≠ .standby) ∧ s.eng.turn ≤ turnOf x.bus ∧ x.accesses ≠ [] ∧ (∀ a ∈ x.accesses, outsidePak a = true)) ∧
    (∃ (s : State) (b : Bus) (a : Word) (m : Bool), s.eng.mode ≠ .reset ∧ b.master = (if m then .memberB else .memberA) ∧ s.eng.role m ≠ .active ∧ (s.eng.pak.overlap = false ∨ s.eng.role m ≠ .standby) ∧ s.eng.turn ≤ turnOf b ∧ inRom a.toNat = false ∧ inSram a.toNat = false ∧ inPak a.toNat = false) ∧
    (∃ (s : State) (b : Bus) (w : Width) (a : Word) (v : Word) (m : Bool), s.eng.mode ≠ .reset ∧ b.master = (if m then .memberB else .memberA) ∧ s.eng.role m ≠ .active ∧ (s.eng.pak.overlap = false ∨ s.eng.role m ≠ .standby) ∧ s.eng.turn ≤ turnOf b ∧ inRom a.toNat = false ∧ inSram a.toNat = false ∧ inPak a.toNat = false ∧ w = .word ∧ a.toNat % 4 = 0 ∧ (inBlocks a.toNat || inLps a.toNat) = true) ∧
    (∃ (s : State) (b : Bus) (w : Width) (a : Word) (v : Word) (m : Bool), s.eng.mode ≠ .reset ∧ b.master = (if m then .memberB else .memberA) ∧ s.eng.role m ≠ .active ∧ (s.eng.pak.overlap = false ∨ s.eng.role m ≠ .standby) ∧ s.eng.turn ≤ turnOf b ∧ inRom a.toNat = false ∧ inSram a.toNat = false ∧ inPak a.toNat = false ∧ ¬ (w = .word ∧ a.toNat % 4 = 0 ∧ (inBlocks a.toNat || inLps a.toNat) = true)) ∧
    (∃ (s : State) (b : Bus) (i : Fin 5) (v : Word) (m : Bool) (rest : List LogEntry), s.eng.mode ≠ .reset ∧ b.master = (if m then .memberB else .memberA) ∧ s.eng.role m = .standby ∧ s.eng.pak.overlap = true ∧ s.eng.pak.followHeld = [] ∧ s.eng.turn ≤ turnOf b ∧ ((s.eng.logOf s.eng.pak.overlapFrom).filter (· != .firmware)).drop s.eng.pak.followed = .write .word (Reg.schReq i) v :: rest) :=
  ⟨⟨on base, .timSet supB 5, { bus := supB, accesses := [.write .word Reg.timSetNs 5], effect := timSet supB 5 }, true, rfl, rfl, by decide +kernel, by decide +kernel, by decide +kernel, by decide +kernel, by decide +kernel, (by simp), by simp [outsidePak]; decide⟩,
   ⟨on base, supB, Reg.sysId, true, by decide +kernel⟩,
   ⟨on base, supB, .word, Reg.sysId, 0, true, by decide +kernel⟩,
   ⟨on base, supB, .word, 0xFFFFFFFF, 0, true, by decide +kernel⟩,
   ⟨on { base with pak.b.role := .standby, pak.overlap := true, pak.overlapFrom := 9, pak.logs := [(9, [.write .word (Reg.schReq 4) 0])] }, supB, 4, 0, true, [], by decide +kernel⟩⟩

/-- States and operands that meet the hypotheses of FlpChecks, clause by clause. -/
theorem witness_FlpChecks :
    (∃ (s : State) (c : Instr) (n : Fin 65) (type : Nat) (op : Bool) (m : HostMsg), flpRow c = some (n, type, op, m) ∧ wellFormed c = true ∧ (s.eng.session n).tls = false ∧ packReady s.eng ∧ s.eng.turn = 0) ∧
    (∃ (s : State) (c : Instr) (n : Fin 65) (type : Nat) (op : Bool) (m : HostMsg), flpRow c = some (n, type, op, m) ∧ wellFormed c = true ∧ flpHeard s n ∧ m.version ≠ 1) ∧
    (∃ (s : State) (c : Instr) (n : Fin 65) (type : Nat) (op : Bool) (m : HostMsg), flpRow c = some (n, type, op, m) ∧ wellFormed c = true ∧ flpHeard s n ∧ m.version = 1 ∧ m.length.toNat = m.payload.length ∧ m.payload.length ≤ 65536 ∧ m.session.toNat = n.val ∧ m.sender = 0xFF ∧ m.seq.toNat ≤ (s.eng.session n).lastSeq) ∧
    (∃ (s : State) (c : Instr) (n : Fin 65) (type : Nat) (m : HostMsg), flpRow c = some (n, type, true, m) ∧ wellFormed c = true ∧ flpTaken s n m ∧ n ≠ 0) ∧
    (∃ (s : State) (n : Fin 65) (type : Byte) (m : HostMsg), (type = 0 ∨ 0x11 < type.toNat) ∧ flpTaken s n m) :=
  ⟨⟨on (base), .regRead 0 (msg 0 []), 0, 0x10, true, msg 0 [], by decide +kernel⟩,
   ⟨on (open_ 0), .connect 0 { msg 0 [] with version := 2 }, 0, 1, false, { msg 0 [] with version := 2 }, by decide +kernel⟩,
   ⟨on (open_ 0), .regRead 0 { msg 0 [] with seq := 0 }, 0, 0x10, true, { msg 0 [] with seq := 0 }, by decide +kernel⟩,
   ⟨on (open_ 64), .modeReq 64 (msg 64 []), 64, 0xB, msg 64 [], by decide +kernel⟩,
   ⟨on (open_ 0), 0, 0x12, msg 0 [], by decide +kernel⟩⟩

/-- States and operands that meet the hypotheses of FlpRequests, clause by clause. -/
theorem witness_FlpRequests :
    (∃ (s : State) (c : Instr) (n : Fin 65) (type : Nat) (m : HostMsg) (cmd : Word) (ns : Nat) (sec : Word), flpSubmits c = some (n, type, m, cmd, ns, sec) ∧ flpAllowed s.eng c ∧ flpTaken s n m) ∧
    (∃ (s : State) (n : Fin 65) (m : HostMsg) (i : Nat), flpAllowed s.eng (.flpPermute n m) ∧ flpTaken s n m ∧ i < s.eng.variant.ports) ∧
    (∃ (s : State) (c : Instr) (n : Fin 65) (type : Nat) (m : HostMsg) (cmd : Word) (ns : Nat) (sec : Word), flpSubmits c = some (n, type, m, cmd, ns, sec) ∧ flpAllowed s.eng c ∧ flpTaken s n m ∧ type ≠ 3) ∧
    (∃ (s : State) (n : Fin 65) (m : HostMsg), flpTaken s n m ∧ n ≠ 0 ∧ m.payload.length = 16 ∧ leAt m.payload 4 1 = 0 ∧ leAt m.payload 5 3 = 0 ∧ leAt m.payload 8 4 ≤ 999999999 ∧ leAt m.payload 0 2 < s.eng.variant.ports ∧ leAt m.payload 2 2 < s.eng.variant.ports ∧ (ownsPort s.eng (n.val - 1) false (leAt m.payload 0 2) = false ∨ ownsPort s.eng (n.val - 1) true (leAt m.payload 2 2) = false)) :=
  ⟨⟨on { open_ 0 with fw.ownIn := (open_ 0).fw.ownIn.set 511 (some 63), fw.ownOut := (open_ 0).fw.ownOut.set 511 (some 63) }, .connect 0 (msg 0 (leBytes 2 511 ++ leBytes 2 511 ++ [63, 0, 0, 0] ++ leBytes 8 0)), 0, 1, msg 0 (leBytes 2 511 ++ leBytes 2 511 ++ [63, 0, 0, 0] ++ leBytes 8 0), routeWord 1 511 511 63, 0, 0, by decide +kernel, by unfold flpAllowed; decide +kernel, by decide +kernel⟩,
   ⟨on { open_ 0 with variant := .pq128 }, 0, msg 0 (List.replicate 528 0), 127, by unfold flpAllowed; decide +kernel, by decide +kernel⟩,
   ⟨on (open_ 0), .flpPin 0 (msg 0 (leBytes 8 0)), 0, 4, msg 0 (leBytes 8 0), routeWord 4 0 0 0, 0, 0, by decide +kernel, by unfold flpAllowed; decide +kernel, by decide +kernel, by decide +kernel⟩,
   ⟨on (open_ 64), 64, msg 64 (List.replicate 16 0), by decide +kernel⟩⟩

/-- States and operands that meet the hypotheses of FlpQueries, clause by clause. -/
theorem witness_FlpQueries :
    (∃ (s : State) (n : Fin 65) (m : HostMsg), flpTaken s n m ∧ m.payload.length = 8 ∧ leAt m.payload 0 1 = 0 ∧ leAt m.payload 1 1 = 0 ∧ leAt m.payload 6 2 = 0 ∧ leAt m.payload 4 2 ≤ 512 ∧ leAt m.payload 2 2 + leAt m.payload 4 2 ≤ s.eng.variant.ports) ∧
    (∃ (s : State) (n : Fin 65) (m : HostMsg), flpTaken s n m ∧ m.payload.length = 8 ∧ leAt m.payload 0 1 = 1 ∧ leAt m.payload 1 1 = 0 ∧ leAt m.payload 2 2 = 0 ∧ leAt m.payload 4 2 = 0 ∧ leAt m.payload 6 2 = 0 ∧ s.eng.sch.outs = []) ∧
    (∃ (s : State) (n : Fin 65) (m : HostMsg) (w : Word) (ns : Word) (e : Submitted), flpTaken s n m ∧ m.payload.length = 8 ∧ leAt m.payload 0 1 = 1 ∧ leAt m.payload 1 1 = 0 ∧ leAt m.payload 2 2 = 0 ∧ leAt m.payload 4 2 = 0 ∧ leAt m.payload 6 2 = 0 ∧ s.eng.fw.submitted = [e] ∧ e.session = n.val ∧ s.eng.sch.outs = [(w, e.engineSeq, ns)]) ∧
    (∃ (s : State) (m : HostMsg) (l : Nat) (slot : Nat), flpTaken s 0 m ∧ m.payload.length = 8 ∧ leAt m.payload 4 2 = 1 ∧ leAt m.payload 6 2 = 0 ∧ leAt m.payload 0 4 < s.eng.variant.elements ∧ laneSlotOf s.eng (leAt m.payload 0 4) = some (l, slot)) ∧
    (∃ (s : State) (n : Fin 65) (m : HostMsg), flpTaken s n m ∧ m.payload.length = 8 ∧ leAt m.payload 6 2 = 0 ∧ 1 ≤ leAt m.payload 4 2 ∧ leAt m.payload 4 2 ≤ 1024 ∧ s.eng.fw.ring ≠ [] ∧ s.eng.fw.ring.length ≤ 65536 ∧ leAt m.payload 0 4 = (s.eng.fw.ringNext + 2 ^ 32 - s.eng.fw.ring.length) % 2 ^ 32) ∧
    (∃ (s : State) (m : HostMsg), flpTaken s 0 m ∧ m.payload.length = 4 ∧ leAt m.payload 0 1 = 0 ∧ leAt m.payload 1 3 = 0) ∧
    (∃ (s : State) (m : HostMsg), flpTaken s 0 m ∧ m.payload.length = 4 ∧ leAt m.payload 0 1 = 1 ∧ leAt m.payload 1 3 = 0) ∧
    (∃ (s : State) (m : HostMsg), flpTaken s 0 m ∧ m.payload.length = 8 ∧ leAt m.payload 4 2 = 1 ∧ leAt m.payload 6 2 = 0 ∧ leAt m.payload 0 4 % 4 = 0 ∧ windowReads (leAt m.payload 0 4) = true) :=
  ⟨⟨on (open_ 0), 0, msg 0 (leBytes 4 0 ++ leBytes 4 512), by decide +kernel⟩,
   ⟨on (open_ 0), 0, msg 0 (leBytes 8 1), by decide +kernel⟩,
   ⟨on { open_ 0 with sch.outs := [(1, 9, 3)], fw.submitted := [{ engineSeq := 9, session := 0, hostSeq := 1, cells := 0, blinks := 0 }] }, 0, msg 0 (leBytes 8 1), 1, 3, { engineSeq := 9, session := 0, hostSeq := 1, cells := 0, blinks := 0 }, by decide +kernel⟩,
   ⟨on { open_ 0 with nvm.image := some image }, msg 0 (leBytes 4 0 ++ leBytes 4 1), 0, 0, by decide +kernel⟩,
   ⟨on { open_ 0 with fw.ring := [[1, 2, 3, 4, 5, 0, 0, 0]], fw.ringNext := 0 }, 0, msg 0 (leBytes 4 0xFFFFFFFF ++ leBytes 4 1024), by decide +kernel⟩,
   ⟨on (open_ 0), msg 0 [0, 0, 0, 0], by decide +kernel⟩,
   ⟨on (open_ 0), msg 0 [1, 0, 0, 0], by decide +kernel⟩,
   ⟨on (open_ 0), msg 0 (leBytes 4 Reg.sysId ++ leBytes 4 1), by decide +kernel⟩⟩

/-- States and operands that meet the hypotheses of FlpControl, clause by clause. -/
theorem witness_FlpControl :
    (∃ (s : State) (n : Fin 65) (m : HostMsg), flpTaken s n m ∧ m.payload.length = 8 ∧ leAt m.payload 0 4 < 64 ∧ 1 ≤ leAt m.payload 4 2 ∧ leAt m.payload 4 2 ≤ 60000 ∧ leAt m.payload 6 2 = 0 ∧ (n = 0 ∨ leAt m.payload 0 4 &&& 34 = 0)) ∧
    (∃ (s : State) (n : Fin 65) (m : HostMsg), flpTaken s n m ∧ n ≠ 0 ∧ m.payload.length = 8 ∧ leAt m.payload 0 4 < 64 ∧ 1 ≤ leAt m.payload 4 2 ∧ leAt m.payload 4 2 ≤ 60000 ∧ leAt m.payload 6 2 = 0 ∧ leAt m.payload 0 4 &&& 34 ≠ 0) ∧
    (∃ (s : State) (m : HostMsg) (r : List Word) (l : List (List Word)), flpTaken s 0 m ∧ m.payload.length = 8 ∧ leAt m.payload 4 4 = 0 ∧ s.eng.fw.ring = r :: l ∧ l.length < 65536 ∧ leAt m.payload 0 4 = (s.eng.fw.ringNext + 2 ^ 32 - (l.length + 1)) % 2 ^ 32) ∧
    (∃ (s : State) (m : HostMsg) (md : Mode), flpTaken s 0 m ∧ m.payload.length = 4 ∧ leAt m.payload 0 1 ≤ 5 ∧ leAt m.payload 1 3 = 0 ∧ modeOfCode (leAt m.payload 0 1) = some md ∧ s.eng.sys.pendMode = none ∧ md ≠ .load ∧ md ≠ judgedMode s.eng ∧ modeRefusal s.eng md = none) ∧
    (∃ (s : State) (m : HostMsg), flpTaken s 0 m ∧ m.payload.length = 4 ∧ leAt m.payload 0 1 ≤ 5 ∧ leAt m.payload 1 3 = 0 ∧ s.eng.sys.pendMode.isSome = true) ∧
    (∃ (s : State) (m : HostMsg), flpTaken s 0 m ∧ m.payload.length = 4 ∧ leAt m.payload 0 1 = 1 ∧ leAt m.payload 2 2 = 0) ∧
    (∃ (s : State) (m : HostMsg), flpTaken s 0 m ∧ m.payload.length = 4 ∧ leAt m.payload 0 1 = 2 ∧ leAt m.payload 2 2 = 0 ∧ s.eng.mode = .calibrate ∧ dark s.eng = true ∧ s.eng.cal.phase = 0) ∧
    (∃ (s : State) (m : HostMsg), flpTaken s 0 m ∧ m.payload.length = 4 ∧ leAt m.payload 0 1 = 2 ∧ leAt m.payload 2 2 = 0 ∧ s.eng.mode ≠ .calibrate) ∧
    (∃ (s : State) (m : HostMsg), flpTaken s 0 m ∧ 24 ≤ m.payload.length ∧ m.payload.length = 24 + 16 * leAt m.payload 16 4 ∧ leAt m.payload 0 4 ≤ 999999999 ∧ leAt m.payload 20 4 = 0 ∧ (List.range (leAt m.payload 16 4)).any (reservedEntry m.payload) = false ∧ s.eng.sch.locked = none ∧ s.eng.sch.validating = none) ∧
    (∃ (s : State) (m : HostMsg), flpTaken s 0 m ∧ m.payload.length = 8 ∧ leAt m.payload 0 4 % 4 = 0 ∧ windowWrites (leAt m.payload 0 4) = true ∧ (s.eng.mode = .hold ∨ s.eng.mode = .calibrate ∨ s.eng.mode = .kennel ∨ s.eng.mode = .run ∧ s.eng.rbit Reg.mgtCtl 0 = true)) ∧
    (∃ (s : State) (m : HostMsg), flpTaken s 0 m ∧ m.payload.length = 8 ∧ leAt m.payload 0 4 % 4 = 0 ∧ windowWrites (leAt m.payload 0 4) = true ∧ s.eng.mode = .run ∧ s.eng.rbit Reg.mgtCtl 0 = false) :=
  ⟨⟨on (open_ 0), 0, msg 0 (leBytes 4 63 ++ leBytes 4 60000), by decide +kernel⟩,
   ⟨on (open_ 64), 64, msg 64 (leBytes 4 2 ++ leBytes 4 1), by decide +kernel⟩,
   ⟨on { open_ 0 with fw.ring := [[1, 2, 3, 4, 5, 0, 0, 0]], fw.ringNext := 0 }, msg 0 (leBytes 8 0xFFFFFFFF), [1, 2, 3, 4, 5, 0, 0, 0], [], by decide +kernel⟩,
   ⟨on (open_ 0), msg 0 [4, 0, 0, 0], .run, by decide +kernel⟩,
   ⟨on { open_ 0 with sys.pendMode := some .run }, msg 0 [5, 0, 0, 0], by decide +kernel⟩,
   ⟨on (open_ 0), msg 0 [1, 255, 0, 0], by decide +kernel⟩,
   ⟨on { open_ 0 with variant := .pq128, mode := .calibrate }, msg 0 [2, 0, 0, 0], by decide +kernel⟩,
   ⟨on (open_ 0), msg 0 [2, 0, 0, 0], by decide +kernel⟩,
   ⟨on (open_ 0), msg 0 (List.replicate 24 0), by decide +kernel⟩,
   ⟨on (open_ 0), msg 0 (leBytes 4 Reg.schGuard ++ leBytes 4 5), by decide +kernel⟩,
   ⟨on { open_ 0 with mode := .run }, msg 0 (leBytes 4 Reg.schGuard ++ leBytes 4 5), by decide +kernel⟩⟩

/-- States and operands that meet the hypotheses of FlpStores, clause by clause. -/
theorem witness_FlpStores :
    (∃ (s : State) (m : HostMsg), flpTaken s 0 m ∧ storeModes s.eng = true ∧ 16 + 4096 ≤ m.payload.length ∧ m.payload.length ≤ 16 + 61440 ∧ (m.payload.length - 16) % 4096 = 0 ∧ leAt m.payload 0 4 = 0 ∧ leAt m.payload 8 4 = 0 ∧ leAt m.payload 12 4 = 0 ∧ leAt m.payload 4 4 % 4096 = 0 ∧ leAt m.payload 4 4 ≤ 1023 * 4096 ∧ m.payload.length - 16 < leAt m.payload 4 4) ∧
    (∃ (s : State) (m : HostMsg) (k : Fin 65), flpTaken s 0 m ∧ storeModes s.eng = true ∧ m.payload.length = 68 ∧ leAt m.payload 0 1 = 0 ∧ leAt m.payload 1 1 = k.val ∧ leAt m.payload 2 2 = 0) ∧
    (∃ (s : State) (m : HostMsg), flpTaken s 0 m ∧ storeModes s.eng = true ∧ m.payload.length = 68 ∧ leAt m.payload 0 1 = 0 ∧ leAt m.payload 1 1 = 255 ∧ leAt m.payload 2 2 = 0 ∧ (wordsOf (m.payload.drop 4)).any (· != 0) = false) ∧
    (∃ (s : State) (m : HostMsg) (k : Fin 65), flpTaken s 0 m ∧ storeModes s.eng = true ∧ m.payload.length = 4 ∧ leAt m.payload 0 1 = 1 ∧ leAt m.payload 1 1 = k.val ∧ k ≠ 0 ∧ leAt m.payload 2 2 = 0) ∧
    (∃ (s : State) (k : Fin 65) (ceA : Nat) (ceB : Nat), s.eng.mode ≠ .reset ∧ s.eng.pak.boundary + 25000 ≤ s.eng.tick ∧ s.eng.pak.held = [] ∧ s.eng.fw.closing = [k] ∧ (s.eng.session k).tls = true) ∧
    (∃ (s : State) (m : HostMsg) (k : Fin 65), flpTaken s 0 m ∧ storeModes s.eng = true ∧ m.payload.length = 132 ∧ leAt m.payload 0 1 = 2 ∧ leAt m.payload 1 1 = k.val ∧ k ≠ 0 ∧ leAt m.payload 2 2 = 0 ∧ (∀ i ∈ portMap m.payload 4 ++ portMap m.payload 68, i < s.eng.variant.ports) ∧ (portMap m.payload 4).any (ownedByOther s.eng (k.val - 1) false) = false ∧ (portMap m.payload 68).any (ownedByOther s.eng (k.val - 1) true) = false ∧ ((portsOwned s.eng k.val false).any fun p => !(portMap m.payload 4).contains p && portUsed s.eng (k.val - 1) false p) = false ∧ ((portsOwned s.eng k.val true).any fun p => !(portMap m.payload 68).contains p && portUsed s.eng (k.val - 1) true p) = false) ∧
    (∃ (s : State) (m : HostMsg) (k : Fin 65), flpTaken s 0 m ∧ storeModes s.eng = false ∧ m.payload.length = 68 ∧ leAt m.payload 0 1 = 0 ∧ leAt m.payload 1 1 = k.val ∧ leAt m.payload 2 2 = 0) :=
  ⟨⟨on (open_ 0), msg 0 (tilePart (zeros ++ [crc32c zeros])), tile_taken _, by decide +kernel, by simp [tile_length], by simp [tile_length], by simp [tile_length], by decide +kernel, by decide +kernel, by decide +kernel, by decide +kernel, by decide +kernel, by rw [tile_length]; decide +kernel⟩,
   ⟨on (open_ 0), msg 0 ([0, 64] ++ List.replicate 66 0), 64, by decide +kernel⟩,
   ⟨on (open_ 0), msg 0 ([0, 255] ++ List.replicate 66 0), by decide +kernel⟩,
   ⟨on (open_ 0), msg 0 [1, 64, 0, 0], 64, by decide +kernel⟩,
   ⟨on { open_ 64 with fw.closing := [64] }, 64, 0, 0, by decide +kernel⟩,
   ⟨on (open_ 0), msg 0 ownNothing, 64, by decide +kernel, by decide +kernel, by decide +kernel, by decide +kernel, by decide +kernel, by decide +kernel, by decide +kernel, by simp [msg, own_inputs, own_outputs], by simp [msg, own_inputs], by simp [msg, own_outputs], by simp [on, owned_now], by simp [on, owned_now]⟩,
   ⟨on { open_ 0 with mode := .run }, msg 0 ([0, 64] ++ List.replicate 66 0), 64, by decide +kernel⟩⟩

/-- States and operands that meet the hypotheses of Sessions, clause by clause. -/
theorem witness_Sessions :
    (∃ (s : State), sessionsOpen s.eng = true ∧ s.eng.mgt.handshakes < 8) ∧
    (∃ (s : State), sessionsOpen s.eng = true ∧ 8 ≤ s.eng.mgt.handshakes) ∧
    (∃ (s : State) (h : Hello) (n : Fin 65), sessionsOpen s.eng = true ∧ helloSupported h = true ∧ engineKey s.eng = true ∧ sessionOfKey s.eng h.key = some n ∧ 0 < s.eng.mgt.handshakes) ∧
    (∃ (s : State) (h : Hello), sessionsOpen s.eng = true ∧ 0 < s.eng.mgt.handshakes ∧ (helloSupported h = false ∨ engineKey s.eng = false)) ∧
    (∃ (s : State) (h : Hello), sessionsOpen s.eng = true ∧ 0 < s.eng.mgt.handshakes ∧ helloSupported h = true ∧ engineKey s.eng = true ∧ sessionOfKey s.eng h.key = none) ∧
    (∃ (s : State) (h : Hello), sessionsOpen s.eng = true ∧ 0 < s.eng.mgt.handshakes) ∧
    (∃ (s : State) (n : Fin 65), mgtRuns s.eng = true ∧ (s.eng.session n).tls = true ∧ s.eng.rfld Reg.mgtCtl 8 8 ≠ 0 ∧ (s.eng.session n).idleFrom + s.eng.rfld Reg.mgtCtl 8 8 * 250000000 ≤ s.eng.tick) ∧
    (∃ (s : State) (n : Fin 65), s.eng.rfld Reg.mgtCtl 8 8 = 0) ∧
    (∃ (s : State) (n : Fin 65), mgtRuns s.eng = true ∧ (s.eng.session n).tls = true) ∧
    (∃ (s : State) (h : Hello) (n : Fin 65), sessionsOpen s.eng = true ∧ helloSupported h = true ∧ engineKey s.eng = true ∧ sessionOfKey s.eng h.key = some n) ∧
    (∃ (s : State) (h : Hello), sessionsOpen s.eng = true ∧ helloSupported h = true ∧ engineKey s.eng = true ∧ sessionOfKey s.eng h.key = none) ∧
    (∃ (s : State) (sender : Bool) (n : Fin 65) (type : Byte) (flags : Byte) (seq : BitVec 64) (p : List Byte), may s (memberBus sender) ∧ mgtRuns s.eng = true ∧ (∀ l ∈ s.eng.mgt.txLast, l < seq.toNat)) ∧
    (∃ (s : State) (sender : Bool) (n : Fin 65) (type : Byte) (flags : Byte) (seq : BitVec 64) (p : List Byte) (l : Nat), may s (memberBus sender) ∧ mgtRuns s.eng = true ∧ s.eng.mgt.txLast = some l ∧ seq.toNat ≤ l) ∧
    (∃ (s : State) (sender : Bool) (n : Fin 65) (type : Byte) (flags : Byte) (seq : BitVec 64) (p : List Byte), s.eng.mode ≠ .reset ∧ s.eng.turn ≤ turnOf (memberBus sender) ∧ s.eng.role sender ≠ .active ∧ s.eng.pak.overlap = false) :=
  ⟨⟨on { open_ 0 with mgt.handshakes := 7 }, by decide +kernel⟩,
   ⟨on { open_ 0 with mgt.handshakes := 8 }, by decide +kernel⟩,
   ⟨on (keyed 0 [1]), hello, 64, by decide +kernel⟩,
   ⟨on (open_ 64), hello, by decide +kernel⟩,
   ⟨on (keyed 0 []), hello, by decide +kernel⟩,
   ⟨on { open_ 0 with mgt.handshakes := 8 }, hello, by decide +kernel⟩,
   ⟨on { (open_ 64).putRfld Reg.mgtCtl 8 8 1 with tick := 250000000 }, 64, by decide +kernel⟩,
   ⟨on (base.putRfld Reg.mgtCtl 8 8 0), 64, by decide +kernel⟩,
   ⟨on (open_ 64), 64, by decide +kernel⟩,
   ⟨on (keyed 0 [1]), hello, 64, by decide +kernel⟩,
   ⟨on (keyed 0 []), hello, by decide +kernel⟩,
   ⟨on (open_ 64), false, 64, 0x80, 1, 7, [], by decide +kernel⟩,
   ⟨on { open_ 0 with mgt.txLast := some 7 }, false, 64, 0x80, 1, 7, [], 7, by decide +kernel⟩,
   ⟨on { open_ 0 with mgt.txLast := some 7 }, true, 64, 0x80, 1, 7, [], by decide +kernel⟩⟩

/-- States and operands that meet the hypotheses of Notifications, clause by clause. -/
theorem witness_Notifications :
    (∃ (s : State) (w : Word) (ns : Word) (e : Submitted) (n : Fin 65), sessionsOpen s.eng = true ∧ firmwareRuns s ∧ s.eng.sch.outs = [(w, e.engineSeq, ns)] ∧ s.eng.fw.submitted = [e] ∧ e.session = n.val ∧ (s.eng.session n).tls = true ∧ (∀ k, (s.eng.session k).notes = []) ∧ s.eng.fw.calAsks = [] ∧ (∀ l ∈ s.eng.mgt.txLast, l < s.eng.pak.seq)) ∧
    (∃ (s : State) (a : CalAsk) (o : Nat) (sec : Nat) (ns : Nat), sessionsOpen s.eng = true ∧ firmwareRuns s ∧ s.eng.sch.outs = [] ∧ s.eng.fw.calAsks = [a] ∧ a.ended = some (o, sec, ns) ∧ (s.eng.session 0).tls = true ∧ (∀ k, (s.eng.session k).notes = []) ∧ (∀ l ∈ s.eng.mgt.txLast, l < s.eng.pak.seq)) ∧
    (∃ (s : State) (u : Fin 64) (c : Nat) (sec : Nat) (ns : Nat), sessionsOpen s.eng = true ∧ firmwareRuns s ∧ pendingNote s.eng = some u.val ∧ s.eng.evt.notes = [(u.val, c, sec, ns)] ∧ (s.eng.session ⟨u.val + 1, by omega⟩).tls = true ∧ (s.eng.session ⟨u.val + 1, by omega⟩).streams.testBit 0 = true ∧ (∀ k, (s.eng.session k).notes = []) ∧ (∀ l ∈ s.eng.mgt.txLast, l < s.eng.pak.seq)) ∧
    (∃ (s : State) (n : Fin 65) (p : List Byte), sessionsOpen s.eng = true ∧ firmwareRuns s ∧ (s.eng.session n).tls = true ∧ (∀ k, k ≠ n → (s.eng.session k).notes = []) ∧ (∀ l ∈ s.eng.mgt.txLast, l < s.eng.pak.seq) ∧ (s.eng.session n).notes = [{ type := 0x42, payload := p }]) ∧
    (∃ (s : State) (n : Fin 65) (p : List Byte), sessionsOpen s.eng = true ∧ firmwareRuns s ∧ (s.eng.session n).tls = true ∧ (∀ k, k ≠ n → (s.eng.session k).notes = []) ∧ (∀ l ∈ s.eng.mgt.txLast, l < s.eng.pak.seq) ∧ (s.eng.session n).notes = [{ type := 0x44, payload := p }]) ∧
    (∃ (s : State) (n : Fin 65), sessionsOpen s.eng = true ∧ firmwareRuns s ∧ s.eng.fw.ledgerDue = true ∧ (s.eng.session n).tls = true ∧ (s.eng.session n).streams.testBit 2 = true ∧ (∀ k, k ≠ n → (s.eng.session k).streams.testBit 2 = false) ∧ (∀ k, (s.eng.session k).notes = []) ∧ (∀ l ∈ s.eng.mgt.txLast, l < s.eng.pak.seq)) ∧
    (∃ (s : State) (n : Fin 65), sessionsOpen s.eng = true ∧ firmwareRuns s ∧ (s.eng.session n).tls = true ∧ (s.eng.session n).dtls = true ∧ (s.eng.session n).telemetryAt + (s.eng.session n).period * 250000 ≤ s.eng.tick ∧ (∀ l ∈ s.eng.mgt.txLast, l < s.eng.pak.seq) ∧ (s.eng.session n).streams.testBit 4 = false ∧ (s.eng.session n).streams.testBit 5 = true) ∧
    (∃ (s : State) (n : Fin 65) (ports : List Nat), sessionsOpen s.eng = true ∧ firmwareRuns s ∧ (s.eng.session n).tls = true ∧ (s.eng.session n).dtls = true ∧ (s.eng.session n).telemetryAt + (s.eng.session n).period * 250000 ≤ s.eng.tick ∧ (∀ l ∈ s.eng.mgt.txLast, l < s.eng.pak.seq) ∧ ports = ((List.range s.eng.variant.ports).filter fun p => n == 0 || ownsPort s.eng (n.val - 1) false p || ownsPort s.eng (n.val - 1) true p) ∧ 1 ≤ ports.length ∧ s.eng.pak.seq + ports.length < 2 ^ 64 ∧ (s.eng.session n).streams.testBit 4 = true ∧ (s.eng.session n).streams.testBit 5 = false) :=
  ⟨⟨on { open_ 64 with sch.outs := [(1, 9, 3)], fw.submitted := [{ engineSeq := 9, session := 64, hostSeq := 1, cells := 0, blinks := 0 }] }, 1, 3, { engineSeq := 9, session := 64, hostSeq := 1, cells := 0, blinks := 0 }, 64, by decide +kernel⟩,
   ⟨on { open_ 0 with fw.calAsks := [{ full := true, hostSeq := 5, begun := true, ended := some (0, 0, 3) }] }, { full := true, hostSeq := 5, begun := true, ended := some (0, 0, 3) }, 0, 0, 3, by decide +kernel⟩,
   ⟨on { (open_ 64).putRbit Reg.evtNotePendHi 31 true with evt.notes := [(63, 1, 2, 3)], fw.sessions := FwState.reset.sessions.set 64 { Session.reset with tls := true, streams := 1 } }, 63, 1, 2, 3, by decide +kernel⟩,
   ⟨on { open_ 64 with fw.sessions := FwState.reset.sessions.set 64 { Session.reset with tls := true, notes := [{ type := 0x42, payload := [] }] } }, 64, [], by decide +kernel⟩,
   ⟨on { open_ 64 with fw.sessions := FwState.reset.sessions.set 64 { Session.reset with tls := true, notes := [{ type := 0x44, payload := [] }] } }, 64, [], by decide +kernel⟩,
   ⟨on { open_ 64 with fw.sessions := FwState.reset.sessions.set 64 { Session.reset with tls := true, streams := 4 }, fw.ledgerDue := true }, 64, by decide +kernel⟩,
   ⟨on { open_ 64 with fw.sessions := FwState.reset.sessions.set 64 { Session.reset with tls := true, dtls := true, streams := 32, period := 40 } }, 64, by decide +kernel⟩,
   ⟨on { open_ 64 with variant := .pq128, fw.sessions := FwState.reset.sessions.set 64 { Session.reset with tls := true, dtls := true, streams := 16, period := 40 }, fw.ownIn := FwState.reset.ownIn.set 127 (some 63) }, 64, [127], by decide +kernel⟩⟩

/-- States and operands that meet the hypotheses of ManagementPort, clause by clause. -/
theorem witness_ManagementPort :
    (∃ (s : State), linkAllowed s.eng = true) ∧
    (∃ (s : State), s.eng.mode = .load ∧ s.eng.reg Reg.mgtIp = 0) ∧
    (∃ (s : State), mgtRuns s.eng = true ∧ s.eng.mgt.link = true) ∧
    (∃ (s : State) (n : Nat), mgtRuns s.eng = true ∧ s.eng.mgt.downSince = some n ∧ n + 250000000 ≤ s.eng.tick) ∧
    (∃ (s : State) (n : Nat), s.eng.mgt.downSince = some n ∧ s.eng.tick < n + 250000000) ∧
    (∃ (s : State) (b : Bus) (v : Word), may s b ∧ mgtRuns s.eng = true ∧ bit v 0 ≠ s.eng.rbit Reg.mgtPhyCtl 0 ∧ s.eng.mgt.link = true) ∧
    (∃ (s : State) (b : Bus) (v : Word), may s b ∧ mgtRuns s.eng = true ∧ (bit v 0 = s.eng.rbit Reg.mgtPhyCtl 0 ∨ s.eng.mgt.link = false)) ∧
    (∃ (s : State) (b : Bus) (v : Word), may s b ∧ s.eng.mgt.mdio = none) ∧
    (∃ (s : State) (b : Bus) (v : Word), may s b ∧ s.eng.mgt.mdio.isSome = true) ∧
    (∃ (s : State) (d : Half), s.eng.mgt.mdio.isSome = true ∧ s.eng.rbit Reg.mgtMdio 30 = false) ∧
    (∃ (s : State) (d : Half), s.eng.mgt.mdio.isSome = true ∧ s.eng.rbit Reg.mgtMdio 30 = true) ∧
    (∃ (s : State) (ip : Word) (d : List Byte), mgtUp s.eng = true ∧ ip = s.eng.reg Reg.mgtIp) ∧
    (∃ (s : State) (ip : Word) (d : List Byte), ip ≠ s.eng.reg Reg.mgtIp) ∧
    (∃ (s : State) (p : Half), mgtUp s.eng = true ∧ p.toNat ≠ 7437) ∧
    (∃ (s : State) (p : Half), mgtUp s.eng = true ∧ p.toNat ≠ 7438 ∧ p.toNat ≠ 319 ∧ p.toNat ≠ 320 ∧ s.eng.rfld Reg.mgtCnt 16 16 < 65535) ∧
    (∃ (s : State) (k : FrameFault) (n : Nat), mgtUp s.eng = true ∧ (k = .badFcs ∨ k = .oversize n ∧ 1522 < n) ∧ s.eng.rfld Reg.mgtCnt 16 16 < 65535) ∧
    (∃ (s : State) (frame : List Byte) (source : Word) (k : Fin 256) (best : Bool), mgtUp s.eng = true ∧ frameBytes (8 + frame.length) ≤ 1522 ∧ isPeerDelay frame = false ∧ (s.eng.rbit Reg.timPtpCfg 8 = false ∨ source = s.eng.reg Reg.timPtpMaster)) ∧
    (∃ (s : State) (frame : List Byte) (source : Word) (k : Fin 256) (best : Bool), frameBytes (8 + frame.length) ≤ 1522 ∧ (isPeerDelay frame = true ∨ s.eng.rbit Reg.timPtpCfg 8 = true ∧ source ≠ s.eng.reg Reg.timPtpMaster)) ∧
    (∃ (s : State) (q : Half) (k : Fin 256), mgtUp s.eng = true) ∧
    (∃ (s : State) (b : Bus), may s b) :=
  ⟨⟨on (open_ 0), by decide +kernel⟩,
   ⟨on { base with mode := .load }, by decide +kernel⟩,
   ⟨on (open_ 0), by decide +kernel⟩,
   ⟨on { open_ 0 with tick := 250000000, mgt.downSince := some 0 }, 0, by decide +kernel⟩,
   ⟨on { open_ 0 with tick := 249999999, mgt.downSince := some 0 }, 0, by decide +kernel⟩,
   ⟨on (open_ 0), sup, 1, by decide +kernel⟩,
   ⟨on (open_ 0), sup, 0, by decide +kernel⟩,
   ⟨on (open_ 0), sup, 0, by decide +kernel⟩,
   ⟨on { base with mgt.mdio := some 0 }, sup, 0, by decide +kernel⟩,
   ⟨on { base with mgt.mdio := some 0 }, 0, by decide +kernel⟩,
   ⟨on { base.putRbit Reg.mgtMdio 30 true with mgt.mdio := some 0 }, 0, by decide +kernel⟩,
   ⟨on (open_ 0), 0x0A000001, [], by decide +kernel⟩,
   ⟨on (open_ 0), 1, [], by decide +kernel⟩,
   ⟨on (open_ 0), 7438, by decide +kernel⟩,
   ⟨on (open_ 0), 7437, by decide +kernel⟩,
   ⟨on (open_ 0), .oversize 1523, 1523, by decide +kernel⟩,
   ⟨on (open_ 0), [], 0, 255, false, by decide +kernel⟩,
   ⟨on (open_ 0), [2], 0, 0, false, by decide +kernel⟩,
   ⟨on (open_ 0), 0, 255, by decide +kernel⟩,
   ⟨on (open_ 0), sup, by decide +kernel⟩⟩

/-- States and operands that meet the hypotheses of RegisterAccess, clause by clause. -/
theorem witness_RegisterAccess :
    (∃ (s : State) (b : Bus) (r : ResultReg), may s b) ∧
    (∃ (s : State) (b : Bus) (a : Nat), may s b ∧ a ∈ plainPairs) ∧
    (∃ (s : State) (b : Bus) (a : Nat), may s b ∧ a ∈ plainPairs) ∧
    (∃ (s : State) (b : Bus) (a : Word), may s b ∧ decoded a.toNat = true ∧ a.toNat % 4 = 0) ∧
    (∃ (s : State) (b : Bus) (v : Word), may s b) ∧
    (∃ (s : State) (b : Bus) (v : Word), may s b) ∧
    (∃ (s : State) (b : Bus) (p : Nat × Word) (v : Word), may s b ∧ p ∈ storedRegs) ∧
    (∃ (s : State) (b : Bus) (p : Nat × Word) (v : Word), may s b ∧ p ∈ clearedRegs) ∧
    (∃ (s : State) (b : Bus) (v : Word), may s b) ∧
    (∃ (s : State) (b : Bus) (v : Word) (m : Bool), s.eng.mode ≠ .reset ∧ b.master = (if m then .memberB else .memberA) ∧ s.eng.turn ≤ turnOf b ∧ s.eng.role m ≠ .active ∧ s.eng.pak.overlap = false) ∧
    (∃ (s : State) (b : Bus) (w : Width) (a : Word) (v : Word), may s b ∧ inRom a.toNat = false ∧ inSram a.toNat = false ∧ (decoded a.toNat = false ∨ w ≠ .word ∨ a.toNat % 4 ≠ 0)) ∧
    (∃ (s : State) (m : Bool) (sec : Bool) (a : Word) (v : Word), s.eng.mode ≠ .reset ∧ s.eng.turn ≤ (if m then 1 else 0) ∧ inSram a.toNat = true ∧ a.toNat % 4 = 0) ∧
    (∃ (s : State) (b : Bus) (v : Word), s.eng.mode ≠ .reset ∧ s.eng.reaches b = true ∧ s.eng.turn ≤ turnOf b ∧ s.eng.pak.replay = none ∧ 4096 ≤ s.eng.log.length) ∧
    (∃ (s : State) (b : Bus) (v : Word) (l : List LogEntry), s.eng.mode ≠ .reset ∧ s.eng.reaches b = true ∧ b.master ≠ .flp ∧ s.eng.turn ≤ turnOf b ∧ s.eng.pak.replay = some (.write .word Reg.schGuard v :: l)) :=
  ⟨⟨on base, sup, .scent 7, by decide +kernel⟩,
   ⟨on base, sup, Reg.nvmScrubSecLo, by decide +kernel⟩,
   ⟨on base, sup, Reg.nvmScrubSecLo, by decide +kernel⟩,
   ⟨on base, sup, 0x40000000, by decide +kernel⟩,
   ⟨on base, sup, 0, by decide +kernel⟩,
   ⟨on base, sup, 0, by decide +kernel⟩,
   ⟨on base, sup, (Reg.snsCtl, 0xF03), 0, by decide +kernel⟩,
   ⟨on base, sup, (Reg.snsStat, 0x3C), 0, by decide +kernel⟩,
   ⟨on base, sup, 0, by decide +kernel⟩,
   ⟨on base, supB, 0, true, by decide +kernel⟩,
   ⟨on base, sup, .byte, 0x40000000, 0, by decide +kernel⟩,
   ⟨on base, false, true, 0x107FFFFC, 0, by decide +kernel⟩,
   ⟨on { base with pak.logs := [(9, List.replicate 4096 .firmware)] }, sup, 0, by decide +kernel⟩,
   ⟨on { base with pak.replay := some [.write .word Reg.schGuard 0] }, sup, 0, [], by decide +kernel⟩⟩

/-- States and operands that meet the hypotheses of FaultReporting, clause by clause. -/
theorem witness_FaultReporting :
    (∃ (s : State) (r : Report), reportsOne s r ∧ actionOf s.eng r.source.val ≤ 1 ∧ capturing s.eng = false ∧ s.eng.rbit Reg.fltCapStat 31 = false) ∧
    (∃ (s : State) (r : Report), reportsOne s r ∧ actionOf s.eng r.source.val ≤ 1 ∧ capturing s.eng = true ∧ s.eng.rbit Reg.fltCapStat 31 = false) ∧
    (∃ (s : State) (r : Report), reportsOne s r ∧ actionOf s.eng r.source.val ≤ 1 ∧ s.eng.rbit Reg.fltCapStat 31 = true ∧ s.eng.rfld Reg.fltCapStat 16 8 < 255) ∧
    (∃ (s : State) (r : Report), reportsOne s r ∧ (actionOf s.eng r.source.val = 2 ∨ actionOf s.eng r.source.val = 3)) ∧
    (∃ (s : State) (r : Report), reportsOne s r ∧ actionOf s.eng r.source.val = 4) ∧
    (∃ (s : State) (r : Report), s.eng.mode ≠ .reset ∧ s.eng.due = [.react r] ∧ s.eng.flt.chip = none ∧ actionOf s.eng r.source.val = 2 ∧ s.eng.rbit Reg.fltStat 1 = false ∧ s.eng.activeMember.isSome = true) ∧
    (∃ (s : State) (r : Report), s.eng.mode ≠ .reset ∧ s.eng.due = [.react r] ∧ s.eng.flt.chip = none ∧ actionOf s.eng r.source.val = 3 ∧ r.source.val = 105 ∧ s.eng.rbit Reg.fltCtl 1 = false ∧ s.eng.flt.resets = [] ∧ s.eng.flt.shadows = []) ∧
    (∃ (s : State) (r : Report) (t₁ : Nat) (t₂ : Nat) (t₃ : Nat), s.eng.mode ≠ .reset ∧ s.eng.due = [.react r] ∧ s.eng.flt.chip = none ∧ actionOf s.eng r.source.val = 3 ∧ historyOf s.eng (blockOf r) = [t₁, t₂, t₃] ∧ t₃ ≤ t₂ ∧ t₂ ≤ t₁ ∧ t₁ ≤ s.eng.tick ∧ s.eng.rbit Reg.fltCtl 1 = true ∧ s.eng.tick + 1 < t₃ + 250000000) ∧
    (∃ (s : State) (r : Report) (t₁ : Nat) (t₂ : Nat) (t₃ : Nat), s.eng.mode ≠ .reset ∧ s.eng.due = [.react r] ∧ s.eng.flt.chip = none ∧ actionOf s.eng r.source.val = 3 ∧ historyOf s.eng (blockOf r) = [t₁, t₂, t₃] ∧ t₃ ≤ t₂ ∧ t₂ ≤ t₁ ∧ t₁ ≤ s.eng.tick ∧ (s.eng.rbit Reg.fltCtl 1 = false ∨ t₃ + 250000000 ≤ s.eng.tick + 1)) ∧
    (∃ (s : State) (i : Fin 128), s.eng.mode ≠ .reset ∧ s.eng.due = [.chip i] ∧ s.eng.flt.chip = none) ∧
    (∃ (s : State) (c : ChipReset), s.eng.mode ≠ .reset ∧ s.eng.due = [] ∧ s.eng.flt.chip = some c ∧ c.asked + 1024 ≤ s.eng.tick + 1) ∧
    (∃ (s : State) (i : Fin 128) (j : Fin 128) (a : Word) (b : Word), s.eng.mode ≠ .reset ∧ i.val < j.val ∧ s.eng.flt.sampled + 1 < s.eng.tick ∧ (∀ n ∈ [i, j], sourceDefined n.val = true ∧ wireBroken s.eng n.val = false) ∧ s.eng.flt.shadows = [] ∧ s.eng.flt.conseqHeld = [] ∧ capturing s.eng = true ∧ s.eng.rbit Reg.fltCapStat 31 = false ∧ s.eng.flt.waiting = [{ source := j, locus := b, master := 0, access := 0, index := 0 }, { source := i, locus := a, master := 0, access := 0, index := 0 }]) ∧
    (∃ (s : State) (found : List Report) (held : List Report), s.eng.mode ≠ .reset ∧ s.eng.flt.sampled = s.eng.tick ∧ (∀ r ∈ found, r.source ≠ 50 ∧ r.source ≠ 66)) ∧
    (∃ (s : State) (r : Report), s.eng.mode ≠ .reset ∧ s.eng.flt.waiting = [r] ∧ wireBroken s.eng r.source.val = true ∧ s.eng.flt.sampled ≠ s.eng.tick) ∧
    (∃ (s : State) (r : Report), s.eng.mode ≠ .reset ∧ s.eng.flt.waiting = [r] ∧ sourceDefined r.source.val = true ∧ wireBroken s.eng r.source.val = false ∧ consequential s.eng r = true ∧ s.eng.rfld Reg.fltConseqCnt 0 16 < 65535 ∧ s.eng.flt.sampled + 1 < s.eng.tick ∧ s.eng.flt.conseqHeld = []) :=
  ⟨⟨on { (base.setReg (Reg.fltReact 1) 1) with flt.waiting := [report 1] }, report 1, by decide +kernel⟩,
   ⟨on { (base.setReg (Reg.fltReact 1) 1) with flt.waiting := [report 1], mode := .kennel }, report 1, by decide +kernel⟩,
   ⟨on { ((base.setReg (Reg.fltReact 1) 1).putRfld Reg.fltCapStat 16 8 254).putRbit Reg.fltCapStat 31 true with flt.waiting := [report 1] }, report 1, by decide +kernel⟩,
   ⟨on { (base.setReg (Reg.fltReact 1) 2) with flt.waiting := [report 1] }, report 1, by decide +kernel⟩,
   ⟨on { (base.setReg (Reg.fltReact 1) 4) with flt.waiting := [report 1] }, report 1, by decide +kernel⟩,
   ⟨on { (base.setReg (Reg.fltReact 1) 2) with due := [.react (report 1)] }, report 1, by decide +kernel⟩,
   ⟨on { ((base.setReg (Reg.fltReact 105) 3).putRbit Reg.fltCtl 1 false) with due := [.react (report 105)] }, report 105, by decide +kernel⟩,
   ⟨on { ((base.setReg (Reg.fltReact 105) 3).putRbit Reg.fltCtl 1 true) with due := [.react (report 105)], flt.history := [(.nvm, [9999999, 9999998, 9999997])] }, report 105, 9999999, 9999998, 9999997, by decide +kernel⟩,
   ⟨on { ((base.setReg (Reg.fltReact 105) 3).putRbit Reg.fltCtl 1 false) with due := [.react (report 105)], flt.history := [(.nvm, [9999999, 9999998, 9999997])] }, report 105, 9999999, 9999998, 9999997, by decide +kernel⟩,
   ⟨on { base with due := [.chip 125] }, 125, by decide +kernel⟩,
   ⟨on { base with tick := 10000023, flt.chip := some { source := 1, asked := 9999000, recorded := none } }, { source := 1, asked := 9999000, recorded := none }, by decide +kernel⟩,
   ⟨on { base.putRbit Reg.fltCtl 0 true with flt.waiting := [report 105, report 1] }, 1, 105, 0, 0, by decide +kernel⟩,
   ⟨on { base with flt.sampled := 10000000 }, [report 1], [], by decide +kernel⟩,
   ⟨on { (base.putRbit (Reg.fltWireMap 0) 1 true) with flt.waiting := [report 1] }, report 1, by decide +kernel⟩,
   ⟨on { base with flt.waiting := [report 58], flt.shadows := [(.lp 0, 10000001)] }, report 58, by decide +kernel⟩⟩

/-- States and operands that meet the hypotheses of FaultControl, clause by clause. -/
theorem witness_FaultControl :
    (∃ (s : State) (n : Nat), s.eng.flt.captureEnd = some n ∧ n ≤ s.eng.tick) ∧
    (∃ (s : State) (n : Nat), s.eng.flt.captureEnd = some n ∧ s.eng.tick < n) ∧
    (∃ (s : State) (l : LogRecord), s.eng.mode ≠ .reset ∧ s.eng.nvm.op = none ∧ shutdownWaits s.eng = false ∧ s.eng.flt.chip = none ∧ s.eng.flt.log = [l] ∧ s.eng.flt.resets = []) ∧
    (∃ (s : State) (c : ChipReset), s.eng.mode ≠ .reset ∧ s.eng.nvm.op = none ∧ shutdownWaits s.eng = false ∧ s.eng.flt.chip = some c ∧ c.recorded = none) ∧
    (∃ (s : State) (c : ChipReset) (n : Nat), s.eng.flt.chip = some c ∧ c.recorded = some n ∧ n < s.eng.tick) ∧
    (∃ (s : State) (c : ChipReset), s.eng.flt.chip = some c ∧ c.recorded = none) ∧
    (∃ (s : State) (i : Fin 128), s.eng.mode ≠ .reset ∧ hasPair i.val = true ∧ (∀ w < 4, s.eng.reg (Reg.fltWireMap w) = 0)) ∧
    (∃ (s : State) (b : Bus) (i : Fin 128), may s b ∧ (s.eng.mode = .load ∨ s.eng.mode = .calibrate ∨ s.eng.mode = .kennel ∨ s.eng.rbit Reg.fltCtl 0 = true) ∧ sourceDefined i.val = true) ∧
    (∃ (s : State) (i : Fin 128), s.eng.mode ≠ .reset ∧ s.eng.due = [.inject i] ∧ s.eng.flt.chip = none) ∧
    (∃ (s : State) (b : Bus) (i : Fin 128), may s b ∧ (s.eng.mode = .hold ∨ s.eng.mode = .run) ∧ s.eng.rbit Reg.fltCtl 0 = false) ∧
    (∃ (s : State) (b : Bus) (v : Fin 4), may s b) ∧
    (∃ (s : State), s.eng.mode ≠ .reset ∧ s.eng.due = [.nmi] ∧ s.eng.flt.chip = none ∧ s.eng.rbit Reg.fltStat 1 = false ∧ s.eng.activeMember.isSome = true) ∧
    (∃ (s : State) (b : Bus) (v : Fin 4), may s b) ∧
    (∃ (s : State) (b : Bus) (i : Fin 128) (v : Word), may s b ∧ secureBus b = true ∧ fld v 0 3 < 5 ∧ (fld v 0 3 = 3 → blockPermitted i.val = true) ∧ sourceDefined i.val = true) ∧
    (∃ (s : State) (b : Bus) (i : Fin 128) (v : Word), may s b ∧ secureBus b = true ∧ fld v 0 3 < 5 ∧ (fld v 0 3 = 3 → blockPermitted i.val = true) ∧ sourceDefined i.val = false) ∧
    (∃ (s : State) (b : Bus) (i : Fin 128) (v : Word), may s b ∧ (secureBus b = false ∨ 5 ≤ fld v 0 3 ∨ (fld v 0 3 = 3 ∧ blockPermitted i.val = false))) ∧
    (∃ (s : State) (b : Bus), may s b) ∧
    (∃ (s : State) (i : Fin 128), s.eng.mode ≠ .reset ∧ hasPair i.val = true ∧ wireBroken s.eng i.val = false) ∧
    (∃ (s : State) (r : Report), s.eng.mode ≠ .reset ∧ s.eng.flt.waiting = [r] ∧ wireBroken s.eng r.source.val = true ∧ s.eng.flt.sampled ≠ s.eng.tick) :=
  ⟨⟨on { base with flt.captureEnd := some 10000000 }, 10000000, by decide +kernel⟩,
   ⟨on { base with flt.captureEnd := some 10000001 }, 10000001, by decide +kernel⟩,
   ⟨on { base with flt.log := [{ sec := 1, ns := 2, stat := 3, info := 4, addr := 5 }] }, { sec := 1, ns := 2, stat := 3, info := 4, addr := 5 }, by decide +kernel⟩,
   ⟨on { base with flt.chip := some { source := 1, asked := 9999000, recorded := none } }, { source := 1, asked := 9999000, recorded := none }, by decide +kernel⟩,
   ⟨on { base with flt.chip := some { source := 1, asked := 9999000, recorded := (some 9999999) } }, { source := 1, asked := 9999000, recorded := (some 9999999) }, 9999999, by decide +kernel⟩,
   ⟨on { base with flt.chip := some { source := 1, asked := 9999000, recorded := none } }, { source := 1, asked := 9999000, recorded := none }, by decide +kernel⟩,
   ⟨on base, 115, by decide +kernel⟩,
   ⟨on { base with mode := .kennel }, sup, 127, by decide +kernel⟩,
   ⟨on { base with due := [.inject 125] }, 125, by decide +kernel⟩,
   ⟨on base, sup, 125, by decide +kernel⟩,
   ⟨on base, sup, 0, by decide +kernel⟩,
   ⟨on { base with due := [.nmi] }, by decide +kernel⟩,
   ⟨on base, sup, 0, by decide +kernel⟩,
   ⟨on base, sup, 115, 3, by decide +kernel⟩,
   ⟨on base, sup, 119, 2, by decide +kernel⟩,
   ⟨on base, sup, 125, 5, by decide +kernel⟩,
   ⟨on base, sup, by decide +kernel⟩,
   ⟨on base, 115, by decide +kernel⟩,
   ⟨on { (base.putRbit (Reg.fltWireMap 0) 1 true) with flt.waiting := [report 1] }, report 1, by decide +kernel⟩⟩

/-- States and operands that meet the hypotheses of StoreRecords, clause by clause. -/
theorem witness_StoreRecords :
    (∃ (s : State) (b : Bus), may s b ∧ nvmBusy s.eng = false) ∧
    (∃ (s : State) (b : Bus), may s b ∧ nvmBusy s.eng = false ∧ areaOf (s.eng.rfld Reg.nvmRecAddr 6 18) ∉ [Area.keys, Area.prod, Area.reserved]) ∧
    (∃ (s : State) (b : Bus), may s b ∧ nvmBusy s.eng = true) ∧
    (∃ (s : State) (b : Bus), may s b ∧ nvmBusy s.eng = false ∧ areaOf (s.eng.rfld Reg.nvmRecAddr 6 18) ∈ [Area.keys, Area.prod, Area.reserved]) ∧
    (∃ (s : State) (o : NvmOp), s.eng.mode ≠ .reset ∧ s.eng.nvmHeld = false ∧ s.eng.nvm.op = some o ∧ o.write = false ∧ areaOf o.record = .single) ∧
    (∃ (s : State) (o : NvmOp), s.eng.mode ≠ .reset ∧ s.eng.nvmHeld = false ∧ s.eng.nvm.op = some o ∧ o.write = false ∧ s.eng.rfld Reg.nvmCnt 16 16 < 65535) ∧
    (∃ (s : State) (o : NvmOp), s.eng.mode ≠ .reset ∧ s.eng.nvmHeld = false ∧ s.eng.nvm.op = some o ∧ o.write = true ∧ areaOf o.record = .single ∧ o.data.length = 16) ∧
    (∃ (s : State) (o : NvmOp), s.eng.mode ≠ .reset ∧ s.eng.nvmHeld = false ∧ s.eng.nvm.op = some o ∧ o.write = true ∧ areaOf o.record = .single ∧ o.data.length = 16) ∧
    (∃ (s : State) (o : NvmOp), s.eng.mode ≠ .reset ∧ s.eng.nvmHeld = false ∧ s.eng.nvm.op = some o ∧ o.write = true ∧ areaOf o.record = .slot 2) ∧
    (∃ (s : State) (o : NvmOp) (n : Nat), s.eng.mode ≠ .reset ∧ s.eng.nvmHeld = false ∧ s.eng.nvm.op = some o ∧ o.record = n + 1 ∧ n < 65535 ∧ 16 * n + 16 ≤ s.eng.nvm.img.1.tiles.length ∧ o.write = false) ∧
    (∃ (s : State) (o : NvmOp) (n : Nat), s.eng.mode ≠ .reset ∧ s.eng.nvmHeld = false ∧ s.eng.nvm.op = some o ∧ o.record = n + 1 ∧ n < 65535 ∧ 16 * n + 16 ≤ s.eng.nvm.img.1.tiles.length ∧ o.write = true) ∧
    (∃ (s : State) (o : NvmOp) (c : CommitRec), s.eng.mode ≠ .reset ∧ s.eng.nvmHeld = false ∧ s.eng.nvm.op = some o ∧ o.write = false ∧ s.eng.nvm.img.1.commit = some c ∧ o.record = s.eng.nvm.img.1.tiles.length / 16 + 1 ∧ o.record < 65536) ∧
    (∃ (s : State) (o : NvmOp), s.eng.mode ≠ .reset ∧ s.eng.nvm.op = some o ∧ o.late = false ∧ o.start + 250000 ≤ s.eng.tick) ∧
    (∃ (s : State) (t : Fin 1024), s.eng.mode ≠ .reset ∧ s.eng.nvm.image.isSome = true ∧ s.eng.nvm.imgScrubTick + 2500000000 ≤ s.eng.tick ∧ (slotOf s.eng.nvm.img s.eng.nvm.imageSlot).tiles = [] ∧ s.eng.rfld Reg.nvmCnt 0 16 < 65535) ∧
    (∃ (s : State) (k : Nat) (ws : List Word), s.eng.mode ≠ .reset ∧ s.eng.nvm.image.isSome = true ∧ s.eng.nvm.imgScrubTick + 2500000000 ≤ s.eng.tick ∧ (slotOf s.eng.nvm.img s.eng.nvm.imageSlot).tiles = ws ∧ ((List.range (ws.length / 1024)).filter fun t => !tileOk ws t) = [k]) ∧
    (∃ (s : State) (l : List (Nat × Word)) (h : List (Fin 1024)), s.eng.tick < s.eng.nvm.imgScrubTick + 2500000000) ∧
    (∃ (s : State) (b : Bus), may s b ∧ s.eng.nvm.scrub = none) ∧
    (∃ (s : State) (b : Bus), may s b ∧ s.eng.nvm.scrub.isSome = true) ∧
    (∃ (s : State) (n : Nat), s.eng.mode ≠ .reset ∧ s.eng.nvm.scrub = some n ∧ n < 196608 ∧ nvmWaits s.eng = false ∧ s.eng.nvm.scrubTick + 2500 ≤ s.eng.tick) ∧
    (∃ (s : State) (n : Nat), s.eng.mode ≠ .reset ∧ s.eng.nvm.scrub = some n ∧ 196608 ≤ n) ∧
    (∃ (s : State), s.eng.mode ≠ .reset ∧ s.eng.activeMember.isSome = true ∧ s.eng.nvm.scrub = none ∧ (s.eng.reg Reg.nvmScrubSecHi).toNat * 2 ^ 32 + (s.eng.reg Reg.nvmScrubSecLo).toNat + 2592000 ≤ s.eng.nowSec) ∧
    (∃ (s : State) (b : Bus) (slot : Fin 66) (w : Fin 16), may s b ∧ secureBus b = true) ∧
    (∃ (s : State) (b : Bus) (slot : Fin 66) (w : Fin 16), may s b ∧ secureBus b = false) :=
  ⟨⟨on base, sup, by decide +kernel⟩,
   ⟨on (base.setReg Reg.nvmRecAddr 0xBA0000), sup, by decide +kernel⟩,
   ⟨on { base with nvm.op := some { by_ := sup, write := true, record := 0, data := [], start := 0, late := false } }, sup, by decide +kernel⟩,
   ⟨on (base.setReg Reg.nvmRecAddr 0xFFFFC0), sup, by decide +kernel⟩,
   ⟨on { base with nvm.op := some { by_ := sup, write := false, record := 190464, data := [], start := 0, late := false } }, { by_ := sup, write := false, record := 190464, data := [], start := 0, late := false }, by decide +kernel⟩,
   ⟨on { base with nvm.op := some { by_ := sup, write := false, record := 0, data := [], start := 0, late := false } }, { by_ := sup, write := false, record := 0, data := [], start := 0, late := false }, by decide +kernel⟩,
   ⟨on { base with nvm.op := some { by_ := sup, write := true, record := 190464, data := List.replicate 16 1, start := 0, late := false } }, { by_ := sup, write := true, record := 190464, data := List.replicate 16 1, start := 0, late := false }, by decide +kernel⟩,
   ⟨on { base with nvm.op := some { by_ := sup, write := true, record := 190464, data := List.replicate 16 1, start := 0, late := false } }, { by_ := sup, write := true, record := 190464, data := List.replicate 16 1, start := 0, late := false }, by decide +kernel⟩,
   ⟨on { base with nvm.op := some { by_ := sup, write := true, record := 131072, data := [], start := 0, late := false } }, { by_ := sup, write := true, record := 131072, data := [], start := 0, late := false }, by decide +kernel⟩,
   ⟨on { base with nvm.op := some { by_ := sup, write := false, record := 1, data := [], start := 0, late := false }, nvm.img := ({ tiles := List.replicate 16 3, commit := none }, NvmState.reset.img.2) }, { by_ := sup, write := false, record := 1, data := [], start := 0, late := false }, 0, by decide +kernel⟩,
   ⟨on { base with nvm.op := some { by_ := sup, write := true, record := 1, data := List.replicate 16 3, start := 0, late := false }, nvm.img := ({ tiles := List.replicate 16 3, commit := some { gen := 5, sec := 0, ns := 0 } }, NvmState.reset.img.2) }, { by_ := sup, write := true, record := 1, data := List.replicate 16 3, start := 0, late := false }, 0, by decide +kernel⟩,
   ⟨on { base with nvm.op := some { by_ := sup, write := false, record := 2, data := [], start := 0, late := false }, nvm.img := ({ tiles := List.replicate 16 3, commit := some { gen := 5, sec := 0, ns := 0 } }, NvmState.reset.img.2) }, { by_ := sup, write := false, record := 2, data := [], start := 0, late := false }, { gen := 5, sec := 0, ns := 0 }, by decide +kernel⟩,
   ⟨on { base with nvm.op := some { by_ := sup, write := true, record := 0, data := [], start := 0, late := false } }, { by_ := sup, write := true, record := 0, data := [], start := 0, late := false }, by decide +kernel⟩,
   ⟨on { base with tick := 2500000000, nvm.image := some image }, 1023, by decide +kernel⟩,
   ⟨on { base with tick := 2500000000, nvm.image := some image, nvm.img := ({ tiles := (zeros ++ [crc32c zeros + 1]), commit := none }, NvmState.reset.img.2) }, 0, (zeros ++ [crc32c zeros + 1]), by decide +kernel, rfl, by decide +kernel, rfl, one_bad⟩,
   ⟨on base, [], [], by decide +kernel⟩,
   ⟨on base, sup, by decide +kernel⟩,
   ⟨on { base with nvm.scrub := some 5 }, sup, by decide +kernel⟩,
   ⟨on { base with nvm.scrub := some 196607 }, 196607, by decide +kernel⟩,
   ⟨on { base with nvm.scrub := some 196608 }, 196608, by decide +kernel⟩,
   ⟨on { base with time := 2592000000000000 * nsUnit }, by decide +kernel⟩,
   ⟨on base, sup, 65, 15, by decide +kernel⟩,
   ⟨on base, window, 65, 15, by decide +kernel⟩⟩

/-- States and operands that meet the hypotheses of BootStore, clause by clause. -/
theorem witness_BootStore :
    (∃ (s : State), s.eng.mode = .load ∧ s.eng.sys.recovery = false ∧ s.eng.activeMember.isSome = true ∧ s.eng.nvm.selected = false ∧ s.eng.nvm.img.1.commit = none ∧ s.eng.nvm.img.2.commit = none ∧ s.eng.nvm.ckpt.1.commit = none ∧ s.eng.nvm.ckpt.2.commit = none) ∧
    (∃ (s : State) (c : CommitRec), s.eng.mode = .load ∧ s.eng.sys.recovery = false ∧ s.eng.activeMember.isSome = true ∧ s.eng.nvm.selected = false ∧ s.eng.nvm.img.1.commit = some c ∧ s.eng.nvm.img.2.commit = none) ∧
    (∃ (s : State), s.eng.mode = .load ∧ s.eng.nvm.selected = true ∧ s.eng.sys.recovery = false ∧ s.eng.nvm.shadow = none ∧ s.eng.nvm.image = none) ∧
    (∃ (s : State), s.eng.mode = .load ∧ s.eng.activeMember.isSome = true ∧ s.eng.nvm.selected = true ∧ s.eng.nvmHeld = false ∧ genOf s.eng.nvm.ken.1.commit < 0xFFFFFFFE ∧ genOf s.eng.nvm.ken.2.commit < 0xFFFFFFFE) ∧
    (∃ (s : State) (minute : Nat) (ts : List Nat), s.eng.mode ≠ .reset ∧ s.eng.activeMember.isSome = true ∧ s.eng.nvmHeld = false ∧ s.eng.fw.ckptDue = some (minute, ts) ∧ s.eng.nvm.ckpt.1.commit = none ∧ s.eng.nvm.ckpt.2.commit = none) :=
  ⟨⟨on { base with mode := .load }, by decide +kernel⟩,
   ⟨on { base with mode := .load, nvm.img := ({ tiles := [], commit := some { gen := 5, sec := 0, ns := 0 } }, NvmState.reset.img.2) }, { gen := 5, sec := 0, ns := 0 }, by decide +kernel⟩,
   ⟨on { base with mode := .load, nvm.selected := true }, by decide +kernel⟩,
   ⟨on { base with mode := .load, nvm.selected := true }, by decide +kernel⟩,
   ⟨on { base with fw.ckptDue := some (5, []) }, 5, [], by decide +kernel⟩⟩

/-- States and operands that meet the hypotheses of ModeRequests, clause by clause. -/
theorem witness_ModeRequests :
    (∃ (s : State) (c : Instr) (b : Bus) (m : Mode), modeRow c = some (b, m) ∧ may s b ∧ s.eng.sys.trip = none ∧ s.eng.sys.pendMode = none ∧ m ≠ .load ∧ m ≠ s.eng.mode ∧ acceptsMode s.eng s.eng.mode m = some none) ∧
    (∃ (s : State) (c : Instr) (b : Bus) (m : Mode) (r : Fin 16), modeRow c = some (b, m) ∧ may s b ∧ s.eng.sys.trip = none ∧ s.eng.sys.pendMode = none ∧ m ≠ .load ∧ m ≠ s.eng.mode ∧ acceptsMode s.eng s.eng.mode m = some (some r)) ∧
    (∃ (s : State) (c : Instr) (b : Bus) (m : Mode), modeRow c = some (b, m) ∧ may s b ∧ s.eng.sys.trip = none ∧ s.eng.sys.pendMode = none ∧ (m = .load ∨ (m ≠ s.eng.mode ∧ acceptsMode s.eng s.eng.mode m = none))) ∧
    (∃ (s : State) (c : Instr) (b : Bus) (m : Mode), modeRow c = some (b, m) ∧ may s b ∧ s.eng.sys.pendMode.isSome = true) ∧
    (∃ (s : State) (c : Instr) (b : Bus), modeRow c = some (b, s.eng.mode) ∧ may s b ∧ s.eng.sys.trip = none ∧ s.eng.sys.pendMode = none ∧ s.eng.mode ≠ .load) :=
  ⟨⟨on base, .sysModeReqRun sup, sup, .run, by decide +kernel⟩,
   ⟨on { base with rte.cur := [(511, 0x80000000)] }, .sysModeReqCalibrate sup, sup, .calibrate, 3, by decide +kernel⟩,
   ⟨on base, .sysModeReqLoad sup, sup, .load, by decide +kernel⟩,
   ⟨on { base with sys.pendMode := some .calibrate }, .sysModeReqRun sup, sup, .run, by decide +kernel⟩,
   ⟨on base, .sysModeReqHold sup, sup, by decide +kernel⟩⟩

/-- States and operands that meet the hypotheses of ModeEntries, clause by clause. -/
theorem witness_ModeEntries :
    (∃ (s : State), loadDone s.eng = true ∧ (s.eng.sys.bootsel = 0 ∨ s.eng.sys.bootsel = 1)) ∧
    (∃ (s : State), loadDone s.eng = true ∧ s.eng.sys.bootsel = 2 ∧ s.eng.drv.clampHeld = false) ∧
    (∃ (s : State), loadDone s.eng = false) ∧
    (∃ (s : State), s.eng.sys.trip = none ∧ s.eng.sys.pendFrom ≤ s.eng.tick ∧ s.eng.mode = .hold ∧ s.eng.sys.pendMode = some .run ∧ s.eng.sch.commit = none) ∧
    (∃ (s : State), s.eng.sys.trip = none ∧ s.eng.sys.pendFrom ≤ s.eng.tick ∧ s.eng.mode = .run ∧ s.eng.sys.pendMode = some .hold) ∧
    (∃ (s : State), s.eng.sys.trip = none ∧ s.eng.sys.pendFrom ≤ s.eng.tick ∧ s.eng.mode = .hold ∧ s.eng.sys.pendMode = some .calibrate ∧ atSweepBoundary s.eng = true ∧ commitArmed s.eng = false) ∧
    (∃ (s : State), s.eng.sys.trip = none ∧ s.eng.mode = .hold ∧ s.eng.sys.pendMode = some .calibrate ∧ atSweepBoundary s.eng = false) ∧
    (∃ (s : State) (u : Nat), s.eng.mode ≠ .reset ∧ s.eng.sys.trip = some u ∧ u + 1 ≤ s.eng.tick ∧ s.eng.drv.clampHeld = false) ∧
    (∃ (s : State), s.eng.sys.trip = none ∧ s.eng.sys.pendMode = none) ∧
    (∃ (s : State), s.eng.mode ≠ .reset ∧ s.eng.sys.trip = none ∧ s.eng.sys.pendFrom ≤ s.eng.tick ∧ s.eng.sys.pendMode = some .reset ∧ s.eng.nvm.op = none) ∧
    (∃ (s : State), s.eng.nvm.op = none) :=
  ⟨⟨on (loadedEngine), by decide +kernel⟩,
   ⟨on { loadedEngine with sys.bootsel := 2 }, by decide +kernel⟩,
   ⟨on base, by decide +kernel⟩,
   ⟨on { base with sys.pendMode := some .run, sys.pendFrom := 10000000 }, by decide +kernel⟩,
   ⟨on { base with mode := .run, sys.pendMode := some .hold, sys.pendFrom := 10000000 }, by decide +kernel⟩,
   ⟨on { base with sys.pendMode := some .calibrate, sns.sweepRun := true, sns.sweepStart := 10000000 }, by decide +kernel⟩,
   ⟨on { base with sys.pendMode := some .calibrate }, by decide +kernel⟩,
   ⟨on { base with sys.trip := some 9999999 }, 9999999, by decide +kernel⟩,
   ⟨on base, by decide +kernel⟩,
   ⟨on { base with sys.pendMode := some .reset }, by decide +kernel⟩,
   ⟨on base, by decide +kernel⟩⟩

/-- States and operands that meet the hypotheses of PackagePorts, clause by clause. -/
theorem witness_PackagePorts :
    (∃ (s : State) (n : Nat), s.eng.sys.railLowAt = some n ∧ s.eng.tick < n + 25000) ∧
    (∃ (s : State), (∀ n, s.eng.sys.railLowAt = some n → n + 25000 ≤ s.eng.tick)) ∧
    (∃ (s : State) (l : List Bool), s.eng.sys.phase = .porHeld) ∧
    (∃ (s : State) (l : List Bool), s.eng.sys.phase ≠ .porHeld) ∧
    (∃ (s : State), s.eng.mode ≠ .reset) ∧
    (∃ (s : State), s.eng.mode = .reset) ∧
    (∃ (s : State) (d : List Byte), s.eng.mode ≠ .reset ∧ s.eng.sys.recovery = true ∧ s.eng.activeMember.isSome = true ∧ s.eng.sys.recov.next = 0 ∧ d.length = 128) ∧
    (∃ (s : State) (o : Word) (d : List Byte) (ws : List Word), s.eng.mode ≠ .reset ∧ s.eng.sys.recovery = true ∧ s.eng.activeMember.isSome = true ∧ o ≠ 0 ∧ o.toNat = s.eng.sys.recov.next ∧ (o.toNat + 128) % 4096 = 0 ∧ d.length = 128 ∧ ws = (slotOf s.eng.nvm.img (recSlot s.eng)).tiles ++ (s.eng.sys.recov.data ++ wordsOf d) ∧ tileOk ws (ws.length / 1024 - 1) = true) ∧
    (∃ (s : State) (o : Word) (d : List Byte) (ws : List Word), s.eng.mode ≠ .reset ∧ s.eng.sys.recovery = true ∧ s.eng.activeMember.isSome = true ∧ o ≠ 0 ∧ o.toNat = s.eng.sys.recov.next ∧ (o.toNat + 128) % 4096 = 0 ∧ d.length = 128 ∧ ws = (slotOf s.eng.nvm.img (recSlot s.eng)).tiles ++ (s.eng.sys.recov.data ++ wordsOf d) ∧ tileOk ws (ws.length / 1024 - 1) = false) ∧
    (∃ (s : State) (o : Word) (d : List Byte), s.eng.mode ≠ .reset ∧ s.eng.sys.recovery = true ∧ s.eng.activeMember.isSome = true ∧ o ≠ 0 ∧ o.toNat = s.eng.sys.recov.next ∧ (o.toNat + 128) % 4096 ≠ 0 ∧ d.length = 128) ∧
    (∃ (s : State) (o : Word) (d : List Byte), s.eng.mode ≠ .reset ∧ s.eng.sys.recovery = true ∧ s.eng.activeMember.isSome = true ∧ o.toNat ≠ s.eng.sys.recov.next ∧ d.length = 128) ∧
    (∃ (s : State) (d : List Byte) (o : Word), (s.eng.sys.recovery = false ∨ s.eng.activeMember = none) ∧ d.length = 128) ∧
    (∃ (s : State), s.eng.mode = .load ∧ s.eng.sys.recovery = true ∧ s.eng.activeMember.isSome = true ∧ s.eng.sys.recov.next ≠ 0 ∧ s.eng.sys.pendMode = none ∧ s.eng.sys.trip = none ∧ ledgerWaits s.eng = false) ∧
    (∃ (s : State), s.eng.mode ≠ .reset ∧ s.eng.sys.recovery = true ∧ s.eng.activeMember.isSome = true) ∧
    (∃ (v : Variant) (o : Bool) (p : Nat), p < v.ports) ∧
    (∃ (v : Variant) (f : Nat) (k : Nat) (o : Bool) (p : Nat), fibrePort v f k = some (o, p)) :=
  ⟨⟨on { base with sys.railLowAt := some 9999999 }, 9999999, by decide +kernel⟩,
   ⟨on base, (fun n h => nomatch h)⟩,
   ⟨on (Engine.reset), [], by decide +kernel⟩,
   ⟨on base, [], by decide +kernel⟩,
   ⟨on base, by decide +kernel⟩,
   ⟨on (Engine.reset), by decide +kernel⟩,
   ⟨on { base with sys.recovery := true }, List.replicate 128 0, by decide +kernel⟩,
   ⟨on { base with sys.recovery := true, sys.recov := { status := 0, next := 3968, data := List.replicate 992 0 } }, 3968, lastBlock (crc32c zeros), zeros ++ [crc32c zeros], by decide +kernel, rfl, by decide +kernel, by decide +kernel, rfl, by decide +kernel, lastBlock_length _, rec_words _ _, good_last⟩,
   ⟨on { base with sys.recovery := true, sys.recov := { status := 0, next := 3968, data := List.replicate 992 0 } }, 3968, lastBlock (crc32c zeros + 1), zeros ++ [crc32c zeros + 1], by decide +kernel, rfl, by decide +kernel, by decide +kernel, rfl, by decide +kernel, lastBlock_length _, rec_words _ _, bad_last⟩,
   ⟨on { base with sys.recovery := true, sys.recov.next := 128 }, 128, List.replicate 128 0, by decide +kernel⟩,
   ⟨on { base with sys.recovery := true }, 128, List.replicate 128 0, by decide +kernel⟩,
   ⟨on base, List.replicate 128 0, 0, by decide +kernel⟩,
   ⟨on { base with mode := .load, sys.recovery := true, sys.recov.next := 128 }, by decide +kernel⟩,
   ⟨on { base with sys.recovery := true }, by decide +kernel⟩,
   ⟨.pq512, false, 0, by decide +kernel⟩,
   ⟨.pq512, 0, 0, false, 0, by decide +kernel⟩⟩

/-- States and operands that meet the hypotheses of StepRunsCommand, clause by clause. -/
theorem witness_StepRunsCommand :
    (∃ (c : Instr) (s : State) (x : BusCmd), wellFormed c = true ∧ busOf c = some x ∧ turnOf x.bus < s.eng.turn) ∧
    (∃ (c : Instr) (s : State), wellFormed c = true ∧ (flpOf c).isSome = true ∧ 0 < s.eng.turn) ∧
    (∃ (e : Engine), e.mode ≠ .reset ∧ quietEdge e ∧ e.due = []) ∧
    (∃ (e : Engine), e.mode = .reset) ∧
    (∃ (e : Engine) (m : Nat) (v : Word), e.mode ≠ .reset ∧ quietEdge e ∧ e.due = [.pt m v]) ∧
    (∃ (e : Engine) (n : Nat), e.mode ≠ .reset ∧ quietEdge { e with drv.lock := .free } ∧ e.due = [] ∧ e.drv.lock = .untilTick n ∧ n ≤ e.tick + 1 ∧ e.drv.waiting = []) ∧
    (∃ (e : Engine), e.mode ≠ .reset ∧ quietEdge { e with pwr.published := [] } ∧ e.due = [] ∧ e.pwr.published.length = 12) ∧
    (∃ (e : Engine), e.mode ≠ .reset ∧ quietEdge { e with pak.boundary := e.tick + 1 } ∧ e.due = [] ∧ e.tick + 1 = e.pak.boundary + 25000 * (e.pak.stamps.length + 1)) ∧
    (∃ (c : Instr) (s : State), wellFormed c = true) ∧
    (∃ (c : Instr) (s : State), wellFormed c = false) ∧
    (∃ (s : State) (t : State), queueWellFormed s ∧ step s = .next t) :=
  ⟨⟨.timSet sup 5, on { base with turn := 2 }, { bus := sup, accesses := [.write .word Reg.timSetNs 5], effect := timSet sup 5 }, rfl, rfl, by decide +kernel⟩,
   ⟨.connect 0 (msg 0 []), on { base with turn := 1 }, by decide +kernel⟩,
   ⟨base, by decide +kernel, ⟨rfl, rfl, rfl, (fun n h => nomatch h), by decide +kernel⟩, rfl⟩,
   ⟨Engine.reset, rfl⟩,
   ⟨{ base with due := [.pt 5 6] }, 5, 6, by decide +kernel, ⟨rfl, rfl, rfl, (fun n h => nomatch h), by decide +kernel⟩, rfl⟩,
   ⟨{ base with drv.lock := .untilTick 10000001 }, 10000001, by decide +kernel, ⟨rfl, rfl, rfl, (fun n h => nomatch h), by decide +kernel⟩, rfl, rfl, by decide +kernel, rfl⟩,
   ⟨{ base with pwr.published := List.replicate 12 1 }, by decide +kernel, ⟨rfl, rfl, rfl, (fun n h => nomatch h), by decide +kernel⟩, rfl, rfl⟩,
   ⟨{ base with tick := 24999 }, by decide +kernel, ⟨rfl, rfl, rfl, (fun n h => nomatch h), by decide +kernel⟩, rfl, by decide +kernel⟩,
   ⟨.recData 0 (List.replicate 128 0), on base, by decide +kernel⟩,
   ⟨.recData 0 (List.replicate 127 0), on base, by decide +kernel⟩,
   ⟨{ pending := [.nop lp0], eng := base }, _, by decide +kernel, rfl⟩⟩

/-- States and operands that meet the hypotheses of ModeChangesOnlyByTransitions, clause by clause. -/
theorem witness_ModeChangesOnlyByTransitions :
    (∃ (c : Instr) (s : State) (t : State), exec c s = .next t ∧ t.eng.mode ≠ s.eng.mode) ∧
    (∃ (s : State) (t : State), s.pending = []) :=
  ⟨⟨.pllLock, on { Engine.reset with sys.phase := .released }, { pending := [], eng := { pllLock { Engine.reset with sys.phase := .released } with turn := 2 } }, rfl, by decide +kernel⟩,
   ⟨on base, on base, by decide +kernel⟩⟩

/-- States and operands that meet the hypotheses of ClampsStayClosedInReset. -/
theorem witness_ClampsStayClosedInReset :
    ∃ s t : State, clampedInReset s ∧ step s = .next t ∧ t.eng.mode = .reset :=
  ⟨on Engine.reset, _, by decide +kernel, rfl, by decide +kernel⟩

/-- States and operands that meet the hypotheses of CellsChangeOnlyOnStrobe. -/
theorem witness_CellsChangeOnlyOnStrobe :
    ∃ s t : State, step s = .next t ∧ t.eng.drv.cellActive ≠ s.eng.drv.cellActive ∧ t.eng.mode ≠ .reset :=
  ⟨{ pending := [.whistle []], eng := { base with sch.commit := some (commit (.armed 10000000)), drv.cellStaged := [(5, 7)], drv.dirty := [0] } }, _, rfl, by decide +kernel⟩

end Sys2Proof.Tests
end

/-! The duplicate discard of submissions (R217): what a submission's six writes come to at the scheduler, and what a first number and a
repeated one do there. -/

namespace Sys2Proof.Machine

open Sys2Proof

/-! ### Numbers and words -/

/-- A 64-bit number read back from its two words: the low one. -/
theorem word_of_pair (hi lo : Word) : word (hi.toNat * 2 ^ 32 + lo.toNat) = lo := by
  apply BitVec.eq_of_toNat_eq
  have := lo.isLt
  simp only [word, BitVec.toNat_ofNat]
  omega

/-- A 64-bit number read back from its two words: the high one. -/
theorem word_of_pair_div (hi lo : Word) : word ((hi.toNat * 2 ^ 32 + lo.toNat) / 2 ^ 32) = hi := by
  apply BitVec.eq_of_toNat_eq
  have := lo.isLt
  have := hi.isLt
  simp only [word, BitVec.toNat_ofNat]
  omega

/-- A number that fits into a field from bit 0 on is read back from the word it spells. -/
theorem fld_word_of_lt {v n : Nat} (hn : n ≤ 32) (hv : v < 2 ^ n) : fld (word v) 0 n = v := by
  have h32 : v < 2 ^ 32 := Nat.lt_of_lt_of_le hv (Nat.pow_le_pow_right (by decide) hn)
  simp only [fld, word, BitVec.toNat_ofNat, Nat.shiftRight_zero, Nat.mod_eq_of_lt h32, Nat.mod_eq_of_lt hv]

/-- A bit written leaves every other bit, those beyond the word too. -/
theorem bit_putBit_apart (w : Word) {i j : Nat} (b : Bool) (h : j ≠ i) : bit (putBit w i b) j = bit w j := by
  by_cases hj : j < 32
  · rw [bit_putBit w i j b hj, if_neg h.symm]
  · simp only [bit, BitVec.getLsbD_of_ge _ j (Nat.le_of_not_lt hj)]

theorem Engine.rbit_putRbit_apart (s : Engine) (a : Nat) {i j : Nat} (b : Bool) (h : j ≠ i) :
    (s.putRbit a i b).rbit a j = s.rbit a j := by
  simp only [Engine.rbit, Engine.reg_putRbit, if_true, bit_putBit_apart _ b h]

/-! ### The access log and the guarded ports -/

/-- Entries of the present cycle come after those that its log holds. -/
@[simp] theorem Engine.log_enterLog (s : Engine) (es : List LogEntry) : (s.enterLog es).log = s.log ++ es := by
  simp [Engine.log, Engine.logOf, Engine.enterLog]

/-- The log of the present cycle is read from the Pack alone. -/
theorem Engine.log_eq_of_pak {s t : Engine} (h : t.pak = s.pak) : t.log = s.log := by
  simp only [Engine.log, Engine.logOf, h]

/-- Which member a master is depends on the Pack alone. -/
theorem Engine.memberOf_eq_of_pak {s t : Engine} (h : t.pak = s.pak) (b : Bus) : t.memberOf b = s.memberOf b := by
  simp only [Engine.memberOf, Engine.activeMember, h]

/-- Whether a master reaches the registers depends on the Pack alone. -/
theorem Engine.reaches_eq_of_pak {s t : Engine} (h : t.pak = s.pak) (b : Bus) : t.reaches b = s.reaches b := by
  unfold Engine.reaches Engine.role
  rw [Engine.memberOf_eq_of_pak h, h]

/-- A master that reaches the registers has its effect at a sequence-guarded port, as the member it is. -/
theorem Engine.accessGuarded_eq {s : Engine} {b : Bus} {m : Bool} (hm : s.mode ≠ .reset) (hr : s.reaches b = true)
    (hb : s.memberOf b = some m) (f : Bool → Engine → Engine) : s.accessGuarded b f = f m s := by
  simp only [Engine.accessGuarded, hb]
  split
  · rfl
  · exact Engine.access_eq hm hr (f m)

/-! ### Where an accepted submission goes (R218, R236) -/

/-- What becomes of a request whose number is accepted: it joins the queue, it is refused with a report (which a full report queue drops),
or it waits for the removals of its TICK. Nothing but the scheduler, SCH_STAT and what waits for the next edge changes. -/
structure Placed (r : SchReq) (s t : Engine) : Prop where
  frame : t = { s with regs := t.regs, sch := t.sch, due := t.due }
  accepted : t.sch.accepted = s.sch.accepted
  reg : ∀ a, a ≠ Reg.schStat → t.reg a = s.reg a
  place : t.sch.queue = s.sch.queue ++ [r] ∨
    (t.sch.queue = s.sch.queue ∧ (t.sch.outs ≠ s.sch.outs ∨ 64 ≤ s.sch.outs.length)) ∨
    (t.sch.queue = s.sch.queue ∧ ∃ ns late, t.due = s.due ++ [.submit r ns late])

theorem Placed.mode {r : SchReq} {s t : Engine} (h : Placed r s t) : t.mode = s.mode := by rw [h.frame]
theorem Placed.pak {r : SchReq} {s t : Engine} (h : Placed r s t) : t.pak = s.pak := by rw [h.frame]

/-- The two engines agree but for the word of SCH_STAT. -/
def AgreeButStat (s t : Engine) : Prop := t = { s with regs := t.regs } ∧ ∀ a, a ≠ Reg.schStat → t.reg a = s.reg a

theorem AgreeButStat.refl (s : Engine) : AgreeButStat s s := ⟨rfl, fun _ _ => rfl⟩

theorem AgreeButStat.sch {s t : Engine} (h : AgreeButStat s t) : t.sch = s.sch := by rw [h.1]

theorem AgreeButStat.putRbit {s t : Engine} (h : AgreeButStat s t) (i : Nat) (b : Bool) :
    AgreeButStat s (t.putRbit Reg.schStat i b) := by
  obtain ⟨hframe, hreg⟩ := h
  refine ⟨?_, fun a ha => by rw [Engine.reg_putRbit, if_neg ha, hreg a ha]⟩
  rw [hframe]; rfl

theorem AgreeButStat.putRbit_if {s t : Engine} (h : AgreeButStat s t) (p : Prop) [Decidable p] (i : Nat) (b : Bool) :
    AgreeButStat s (if p then t.putRbit Reg.schStat i b else t) := by
  split
  · exact h.putRbit i b
  · exact h

/-- The bits of SCH_STAT that an outcome sets, DL_MISS and QFULL. -/
def outcomeFlags (outcome : Nat) (s : Engine) : Engine :=
  let s := if outcome = 4 then s.putRbit Reg.schStat 10 true else s
  if outcome = 3 then s.putRbit Reg.schStat 11 true else s

theorem agreeButStat_outcomeFlags (outcome : Nat) (s : Engine) : AgreeButStat s (outcomeFlags outcome s) :=
  ((AgreeButStat.refl s).putRbit_if _ 10 true).putRbit_if _ 11 true

/-- A report is an entry of the report queue, or, where that is full, the bit that says so. -/
theorem reportAt_eq (ns : Word) (s : Engine) (outcome detail : Nat) (r : SchReq) :
    ∃ w, reportAt ns s outcome detail r =
      if (outcomeFlags outcome s).sch.outs.length < 64
      then { outcomeFlags outcome s with sch.outs := (outcomeFlags outcome s).sch.outs ++ [(w, r.seq, ns)] }
      else (outcomeFlags outcome s).putRbit Reg.schStat 9 true := ⟨_, rfl⟩

theorem placed_reportAt (ns : Word) (s : Engine) (outcome detail : Nat) (r : SchReq) :
    Placed r s (reportAt ns s outcome detail r) := by
  obtain ⟨w, hw⟩ := reportAt_eq ns s outcome detail r
  have hflags := agreeButStat_outcomeFlags outcome s
  have hsch : (outcomeFlags outcome s).sch = s.sch := hflags.sch
  rw [hw]
  generalize outcomeFlags outcome s = e at hflags hsch
  split
  case isTrue hroom =>
    obtain ⟨hframe, hreg⟩ := hflags
    refine ⟨?_, by rw [← hsch], hreg, .inr (.inl ⟨by rw [← hsch], .inl (by simp [hsch])⟩)⟩
    rw [hframe]
  case isFalse hfull =>
    obtain ⟨hframe, hreg⟩ := hflags.putRbit 9 true
    refine ⟨?_, by simp [hsch], hreg, .inr (.inl ⟨by simp [hsch], .inr (by rw [← hsch]; omega)⟩)⟩
    rw [hframe]

theorem placed_enqueue (r : SchReq) (ns : Word) (late : Bool) (s : Engine) : Placed r s (enqueue r ns late s) := by
  unfold enqueue
  split
  · exact placed_reportAt ns s 4 0 r
  · exact ⟨rfl, rfl, fun _ _ => rfl, .inl rfl⟩

theorem placed_later (r : SchReq) (ns : Word) (late : Bool) (s : Engine) : Placed r s (s.later (.submit r ns late)) :=
  ⟨rfl, rfl, fun _ _ => rfl, .inr (.inr ⟨rfl, ns, late, rfl⟩)⟩

/-! ### A submission at the scheduler (R216, R217) -/

/-- The number of the last accepted submission (R217). -/
def lastSubmitted (s : Engine) : Nat := (s.reg Reg.schLastSeqHi).toNat * 2 ^ 32 + (s.reg Reg.schLastSeqLo).toNat

/-- The number of a submission accepted (R217). -/
def acceptNumber (seq : Nat) (s : Engine) : Engine :=
  { s.setRegs [(Reg.schLastSeqLo, word seq), (Reg.schLastSeqHi, word (seq / 2 ^ 32))] with sch.accepted := true }

/-- The request that a submission's fields spell on the present edge. -/
def requestOf (cmd : Word) (requester dlNs : Nat) (dlSec : Word) (seq : Nat) (s : Engine) : SchReq :=
  { cmd := cmd, requester := requester, seq := seq, submitted := s.tick, direct := false,
    deadline := if dlNs = 0 ∧ dlSec = 0 then none
      else some ((s.nowSec / 2 ^ 32 * 2 ^ 32 + dlSec.toNat) * 1000000000 + dlNs) }

@[simp] theorem acceptNumber_mode (seq : Nat) (s : Engine) : (acceptNumber seq s).mode = s.mode := by simp [acceptNumber]
@[simp] theorem acceptNumber_due (seq : Nat) (s : Engine) : (acceptNumber seq s).due = s.due := by simp [acceptNumber]
@[simp] theorem acceptNumber_pak (seq : Nat) (s : Engine) : (acceptNumber seq s).pak = s.pak := by simp [acceptNumber]
@[simp] theorem acceptNumber_queue (seq : Nat) (s : Engine) : (acceptNumber seq s).sch.queue = s.sch.queue := by simp [acceptNumber]
@[simp] theorem acceptNumber_outs (seq : Nat) (s : Engine) : (acceptNumber seq s).sch.outs = s.sch.outs := by simp [acceptNumber]
@[simp] theorem acceptNumber_accepted (seq : Nat) (s : Engine) : (acceptNumber seq s).sch.accepted = true := rfl

theorem acceptNumber_reg (seq : Nat) (s : Engine) (a : Nat) :
    (acceptNumber seq s).reg a =
      if a = Reg.schLastSeqHi then word (seq / 2 ^ 32) else if a = Reg.schLastSeqLo then word seq else s.reg a := by
  have hset : (acceptNumber seq s).reg a =
      ((s.setReg Reg.schLastSeqLo (word seq)).setReg Reg.schLastSeqHi (word (seq / 2 ^ 32))).reg a := rfl
  rw [hset, Engine.reg_setReg, Engine.reg_setReg]

theorem submitRequest_duplicate {s : Engine} {seq : Nat} (ha : s.sch.accepted = true) (hle : seq ≤ lastSubmitted s)
    (cmd : Word) (requester dlNs : Nat) (dlSec : Word) :
    submitRequest cmd requester dlNs dlSec seq s = s.putRbit Reg.schStat 8 true := if_pos ⟨ha, hle⟩

/-- A submission whose number is accepted: refused at once, held for the removals of its TICK, or queued (R218). -/
def placeRequest (r : SchReq) (dlNs : Nat) (s : Engine) : Engine :=
  match refusal s r dlNs with
  | some o => report s o 0 r
  | none =>
    if (queueRefusal s r).isSome then s.later (.submit r (word s.nowSubNs) (deadlinePast s r))
    else enqueue r (word s.nowSubNs) (deadlinePast s r) s

theorem placed_placeRequest (r : SchReq) (dlNs : Nat) (s : Engine) : Placed r s (placeRequest r dlNs s) := by
  unfold placeRequest
  split
  · exact placed_reportAt ..
  · split
    · exact placed_later ..
    · exact placed_enqueue ..

/-- The first submission since reset is placed, whatever its number. -/
theorem submitRequest_first {s : Engine} (ha : s.sch.accepted = false) (cmd : Word) (requester dlNs : Nat) (dlSec : Word) (seq : Nat) :
    submitRequest cmd requester dlNs dlSec seq s =
      placeRequest (requestOf cmd requester dlNs dlSec seq s) dlNs (acceptNumber seq s) := if_neg (by simp [ha])

/-- The words that the first five writes of a submission stage. -/
def submissionWords (cmd : Word) (q : SubmitWords) : List (Nat × Word) :=
  [(0, cmd), (1, word q.requester.val), (2, word q.dlNs.toNat), (3, q.dlSec), (4, q.seqLo)]

/-- The engine with those words in the member's staging set. -/
def stagedWords (m : Bool) (cmd : Word) (q : SubmitWords) (s : Engine) : Engine :=
  { s with sch.stage := memWrites zeroWord s.sch.stage ((submissionWords cmd q).map fun p => (stageKey m p.1, p.2)) }

@[simp] theorem stagedWords_mode (m : Bool) (cmd : Word) (q : SubmitWords) (s : Engine) : (stagedWords m cmd q s).mode = s.mode := rfl
@[simp] theorem stagedWords_due (m : Bool) (cmd : Word) (q : SubmitWords) (s : Engine) : (stagedWords m cmd q s).due = s.due := rfl
@[simp] theorem stagedWords_pak (m : Bool) (cmd : Word) (q : SubmitWords) (s : Engine) : (stagedWords m cmd q s).pak = s.pak := rfl
@[simp] theorem stagedWords_queue (m : Bool) (cmd : Word) (q : SubmitWords) (s : Engine) : (stagedWords m cmd q s).sch.queue = s.sch.queue := rfl
@[simp] theorem stagedWords_outs (m : Bool) (cmd : Word) (q : SubmitWords) (s : Engine) : (stagedWords m cmd q s).sch.outs = s.sch.outs := rfl

/-- The staging words of a member lie apart. -/
theorem stageKey_inj (m : Bool) (i j : Nat) : stageKey m i = stageKey m j ↔ i = j := by simp [stageKey]

/-- The sixth write hands the scheduler what the other five have staged. -/
theorem submitStaged_stagedWords (m : Bool) (cmd : Word) (q : SubmitWords) (s : Engine) :
    submitStaged m q.seqHi (stagedWords m cmd q s) =
      submitRequest cmd q.requester.val q.dlNs.toNat q.dlSec (q.seqHi.toNat * 2 ^ 32 + q.seqLo.toNat) (stagedWords m cmd q s) := by
  have hreq : fld (word q.requester.val) 0 7 = q.requester.val := fld_word_of_lt (by decide) q.requester.isLt
  have hns : fld (word q.dlNs.toNat) 0 30 = q.dlNs.toNat := fld_word_of_lt (by decide) q.dlNs.isLt
  simp [submitStaged, stagedWords, submissionWords, memWrites, get0, stageKey_inj, hreq, hns]

/-- The six writes of a master that reaches the scheduler submit the request. -/
theorem submit_eq {s : Engine} {b : Bus} {m : Bool} (hm : s.mode ≠ .reset) (hr : s.reaches b = true) (hb : s.memberOf b = some m)
    (cmd : Word) (q : SubmitWords) :
    submit b cmd q s =
      submitRequest cmd q.requester.val q.dlNs.toNat q.dlSec (q.seqHi.toNat * 2 ^ 32 + q.seqLo.toNat) (stagedWords m cmd q s) := by
  rw [← submitStaged_stagedWords]
  exact Engine.accessGuarded_eq hm hr hb _

end Sys2Proof.Machine

namespace Sys2Proof.Safety

open Sys2Proof Sys2Proof.Machine

variable {c : Instr} {b : Bus} {m : Bool} {cmd : Word} {q : SubmitWords} {s : State} {seq : Nat} {r : SchReq} {t : Engine}

/-! ### The commands that submit -/

/-- A submission is a command of the bus: six writes, whose effect is `submit`. -/
theorem busOf_of_submits (h : submits c = some (b, cmd, q)) :
    busOf c = some { bus := b, accesses := Machine.submission cmd q, effect := submit b cmd q } := by
  unfold submits at h
  split at h <;> cases h <;> rfl

theorem exec_of_submits (h : submits c = some (b, cmd, q)) (s : State) : exec c s = s.bus c := by
  unfold submits at h
  split at h <;> cases h <;> rfl

theorem turnAfter_of_submits (h : submits c = some (b, cmd, q)) : turnAfter c = turnOf b := by
  simp only [turnAfter, busOf_of_submits h]

/-- The engine that has a submission's six writes in its log. -/
theorem logged_of_submits (h : submits c = some (b, cmd, q)) (s : State) :
    logged c s = s.eng.enterLog (entriesOf s.eng b (Machine.submission cmd q)) := by
  simp [logged, busOf_of_submits h, Machine.submission]

theorem logged_sch (h : submits c = some (b, cmd, q)) (s : State) : (logged c s).sch = s.eng.sch := by
  rw [logged_of_submits h]; rfl

theorem logged_due (h : submits c = some (b, cmd, q)) (s : State) : (logged c s).due = s.eng.due := by
  rw [logged_of_submits h]; rfl

/-- An accepted access runs the submission on the logged engine. -/
theorem becomes_submit (h : submits c = some (b, cmd, q)) (hmay : may s b) :
    becomes c s (submit b cmd q (logged c s)) := by
  obtain ⟨hmode, hreach, hturn, hreplay, hheld, hfollow, hroom⟩ := hmay
  have hissue := issue_live (c := c) (x := ⟨b, Machine.submission cmd q, submit b cmd q⟩) hmode hreach hreplay hheld hfollow
    (by rw [entriesOf_length]; exact hroom) (by simp [Machine.submission])
  rw [becomes, exec_of_submits h, State.bus_eq (busOf_of_submits h) hturn, hissue, turnAfter_of_submits h, logged_of_submits h]

/-- A submission's request reaches the scheduler on the logged engine, its words staged. -/
theorem becomes_submitRequest (h : submits c = some (b, cmd, q)) (hmay : may s b) (hb : s.eng.memberOf b = some m) :
    becomes c s (submitRequest cmd q.requester.val q.dlNs.toNat q.dlSec (submitSeq q) (stagedWords m cmd q (logged c s))) := by
  have hbecomes := becomes_submit h hmay
  obtain ⟨hmode, hreach, -⟩ := hmay
  rw [logged_of_submits h] at hbecomes ⊢
  rwa [submit_eq (s := s.eng.enterLog _) hmode hreach hb] at hbecomes

/-! ### The guard (R217) -/

/-- The fields of a submission spell its request, on the engine that has its writes in the log and in the staging set. -/
theorem requestOf_logged (h : submits c = some (b, cmd, q)) (m : Bool) (s : State) :
    requestOf cmd q.requester.val q.dlNs.toNat q.dlSec (submitSeq q) (stagedWords m cmd q (logged c s)) = submission s cmd q := by
  have hns : q.dlNs.toNat = 0 ↔ q.dlNs = 0 := (BitVec.toNat_eq (y := 0)).symm
  rw [logged_of_submits h]
  simp only [requestOf, submission, hns]
  rfl

/-- A submission up to the last accepted number leaves SCH_STAT.DUP and its words in the staging set, and nothing else. -/
theorem becomes_submit_duplicate (h : submits c = some (b, cmd, q)) (hmay : may s b) (hb : s.eng.memberOf b = some m) (ha : s.eng.sch.accepted = true)
    (hle : submitSeq q ≤ lastSubmitted s.eng) :
    becomes c s ((stagedWords m cmd q (logged c s)).putRbit Reg.schStat 8 true) := by
  have hbecomes := becomes_submitRequest h hmay hb
  rw [logged_of_submits h] at hbecomes ⊢
  rwa [submitRequest_duplicate (s := stagedWords m cmd q (s.eng.enterLog _)) ha hle] at hbecomes

/-- The first submission since reset takes its number and its place. -/
theorem becomes_submit_first (h : submits c = some (b, cmd, q)) (hmay : may s b) (hb : s.eng.memberOf b = some m) (ha : s.eng.sch.accepted = false) :
    ∃ t, becomes c s t ∧ Placed (submission s cmd q) (acceptNumber (submitSeq q) (stagedWords m cmd q (logged c s))) t := by
  have hfirst : (stagedWords m cmd q (logged c s)).sch.accepted = false := by rw [logged_of_submits h]; exact ha
  have hbecomes := becomes_submitRequest h hmay hb
  rw [submitRequest_first hfirst, requestOf_logged h] at hbecomes
  exact ⟨_, hbecomes, placed_placeRequest ..⟩

/-- The number of an accepted submission is the last accepted one. -/
theorem number_after_first {e : Engine} (hp : Placed r (acceptNumber (submitSeq q) e) t) :
    t.reg Reg.schLastSeqLo = q.seqLo ∧ t.reg Reg.schLastSeqHi = q.seqHi := by
  rw [hp.reg _ (by decide), hp.reg _ (by decide), acceptNumber_reg, acceptNumber_reg, submitSeq, word_of_pair, word_of_pair_div]
  exact ⟨if_neg (by decide), if_pos rfl⟩

/-- What the first copy of a submission leaves as it was: the mode, and of the Pack all but the log, which has its six writes. -/
theorem frame_after_first (h : submits c = some (b, cmd, q)) (hp : Placed r (acceptNumber seq (stagedWords m cmd q (logged c s))) t) :
    t.mode = s.eng.mode ∧ t.pak = (s.eng.enterLog (entriesOf s.eng b (Machine.submission cmd q))).pak := by
  rw [logged_of_submits h] at hp
  constructor
  · rw [hp.mode, acceptNumber_mode, stagedWords_mode]; rfl
  · rw [hp.pak, acceptNumber_pak, stagedWords_pak]

/-- The first copy of a submission leaves the master free to make the second, where the log has room for it. -/
theorem may_after_first (h : submits c = some (b, cmd, q)) (hmay : may s b) (hlog : s.eng.log.length + 12 ≤ 4096)
    (hp : Placed r (acceptNumber seq (stagedWords m cmd q (logged c s))) t) :
    may { s with eng := { t with turn := turnAfter c } } b := by
  obtain ⟨hmode, hreach, -, hreplay, hheld, hfollow, -⟩ := hmay
  obtain ⟨hmode', hpak⟩ := frame_after_first h hp
  have hlog' : t.log.length + 6 ≤ 4096 := by
    rw [Engine.log_eq_of_pak hpak, Engine.log_enterLog, List.length_append, entriesOf_length]
    simpa [Machine.submission] using hlog
  have hreach' : t.reaches b = true := by rw [Engine.reaches_eq_of_pak hpak]; exact hreach
  refine ⟨?_, hreach', Nat.le_of_eq (turnAfter_of_submits h), ?_, ?_, ?_, hlog'⟩
  · rwa [← hmode'] at hmode
  · exact (congrArg PakState.replay hpak).trans hreplay
  · exact (congrArg PakState.held hpak).trans hheld
  · exact (congrArg PakState.followHeld hpak).trans hfollow

end Sys2Proof.Safety

section

open Sys2Proof Sys2Proof.Machine Sys2Proof.Safety

/-- Settles O26: a repeated number sets SCH_STAT.DUP alone; the first number since reset is accepted with its words as the last number, from
an engine in which the second copy is then a repeated number. -/
theorem submissionGuard : Obligations.SubmissionGuard := by
  unfold Obligations.SubmissionGuard
  refine ⟨?duplicate, rfl, ?first⟩
  case duplicate =>
    intro s c b m cmd q h hmay hb ha hle
    refine ⟨_, becomes_submit_duplicate h hmay hb ha hle, Engine.rbit_putRbit_self _ _ _ _ (by decide), rfl,
      fun i hi => Engine.rbit_putRbit_apart _ _ _ hi, fun a ha => ?_, rfl⟩
    rw [Engine.reg_putRbit, if_neg (by simpa using ha)]
    rfl
  case first =>
    intro s c b m cmd q h hmay hlog hb ha
    obtain ⟨t, hbecomes, hp⟩ := becomes_submit_first h hmay hb ha
    obtain ⟨hlo, hhi⟩ := number_after_first hp
    have hacc : t.sch.accepted = true := by rw [hp.accepted, acceptNumber_accepted]
    have hlast : submitSeq q = lastSubmitted t := by rw [lastSubmitted, hlo, hhi, submitSeq]
    obtain ⟨-, hpak⟩ := frame_after_first h hp
    have hmember : t.memberOf b = some m := by rw [Engine.memberOf_eq_of_pak hpak]; exact hb
    have hplace := hp.place
    simp only [acceptNumber_queue, acceptNumber_outs, acceptNumber_due, stagedWords_queue, stagedWords_outs, stagedWords_due] at hplace
    refine ⟨t, hbecomes, hacc, hlo, hhi, hplace, _, becomes_submit_duplicate h (may_after_first h hmay hlog hp) hmember hacc
      (Nat.le_of_eq hlast),
      Engine.rbit_putRbit_self _ _ _ _ (by decide), ?_, ?_, ?_⟩
    · rw [Engine.putRbit_sch, stagedWords_queue, logged_sch h]
    · rw [Engine.putRbit_sch, stagedWords_outs, logged_sch h]
    · rw [Engine.putRbit_due, stagedWords_due, logged_due h]

end

/-! The secure owner's registers of the time base (R254): a command of the bus at an ACTIVE member, and which writes of the TIM window are
the secure owner's. -/

namespace Sys2Proof.Machine

open Sys2Proof

/-! ### The secure owner's accesses -/

theorem secureBus_eq_false_iff {b : Bus} : secureBus b = false ↔ b.secure = false ∨ b.master = .flp := by
  cases h : b.secure <;> simp [secureBus, h]

theorem secureBus_eq_true_iff {b : Bus} : secureBus b = true ↔ b.secure = true ∧ b.master ≠ .flp := by
  simp [secureBus]

/-- An access in any other context than the secure owner's sets TIM_STAT.DENIED and does nothing else. -/
theorem toutAccess_denied {s : Engine} {b : Bus} (hm : s.mode ≠ .reset) (hr : s.reaches b = true) (hb : secureBus b = false)
    (f : Engine → Engine) : toutAccess b f s = s.putRbit Reg.timStat 7 true := by
  rw [toutAccess, Engine.access_eq hm hr]
  exact if_neg (by simp [hb])

/-- An access of the secure owner has its effect. -/
theorem toutAccess_secure {s : Engine} {b : Bus} (hm : s.mode ≠ .reset) (hr : s.reaches b = true) (hb : secureBus b = true)
    (f : Engine → Engine) : toutAccess b f s = f s := by
  rw [toutAccess, Engine.access_eq hm hr]
  exact if_pos hb

/-! ### Where a word write goes in the TIM window (R400) -/

/-- The bus gives a write of an aligned word in the window to the block. -/
theorem busWrite_tim {s : Engine} (hm : s.mode ≠ .reset) {a : Nat} (hlo : 0x40010000 ≤ a) (hhi : a < 0x40020000) (ha : a % 4 = 0)
    (b : Bus) (v : Word) : busWrite b .word a v s = writeTim b a v s := by
  have hown : (inRom a || inSram a) = false := by simp only [inRom, inSram, Bool.or_eq_false_iff, decide_eq_false_iff_not]; omega
  have hblock : inBlocks a = true := decide_eq_true (by omega)
  have htim : (a - 0x40000000) / 0x10000 = 1 := by omega
  simp [busWrite, writeBlock, hm, hown, hblock, htim, ha]

/-- A write of an asymmetry constant of a TOUT output. -/
theorem writeTim_asymTout {a : Nat} (hlo : 0x40010050 ≤ a) (hhi : a ≤ 0x4001005C) (b : Bus) (v : Word) (s : Engine) :
    writeTim b a v s = toutAccess b (fun s => s.setReg a v) s := by
  simp only [writeTim, Reg.timCtl, Reg.timStat, Reg.timRateLo, Reg.timRateHi, Reg.timAdjFrac, Reg.timAdjNs, Reg.timSetSecLo,
    Reg.timSetSecHi, Reg.timSetNs, Reg.timAsymMgtRx, Reg.timAsymMgtTx, Reg.timAsymPpsIn, Reg.timPtpMaster, Reg.timAsymTout]
  repeat rw [if_neg (by omega)]
  exact if_pos (by omega)

/-- A write of a register of a TOUT output. -/
theorem writeTim_tout {a : Nat} (hlo : 0x40012000 ≤ a) (hhi : a < 0x40012080) (b : Bus) (v : Word) (s : Engine) :
    writeTim b a v s = writeTout b a v s := by
  simp only [writeTim, Reg.timCtl, Reg.timStat, Reg.timRateLo, Reg.timRateHi, Reg.timAdjFrac, Reg.timAdjNs, Reg.timSetSecLo,
    Reg.timSetSecHi, Reg.timSetNs, Reg.timAsymMgtRx, Reg.timAsymMgtTx, Reg.timAsymPpsIn, Reg.timPtpMaster, Reg.timAsymTout,
    Reg.timPtpCfg, Reg.timCmpCtl, Reg.timToutCtl]
  repeat rw [if_neg (by omega)]
  exact if_pos (by omega)

/-- Every register of a TOUT output is the secure owner's; only the reserved last word of its eight is not. -/
theorem writeTout_eq_toutAccess {a : Nat} (ha : a % 32 ≠ 28) (b : Bus) (v : Word) (s : Engine) :
    ∃ f, writeTout b a v s = toutAccess b f s := by
  unfold writeTout
  split
  case h_5 h => exact absurd h ha
  all_goals exact ⟨_, rfl⟩

/-- A write of an output's WIDTH. -/
theorem writeTout_width (k : Fin 4) (b : Bus) (v : Word) (s : Engine) :
    writeTout b (Reg.timToutWidth k) v s = toutAccess b (fun s => s.setReg (Reg.timToutWidth k) v) s := by
  have h : Reg.timToutWidth k % 32 = 20 := by simp only [Reg.timToutWidth]; omega
  simp only [writeTout, h]

/-! ### The secure owner's registers (R254) -/

/-- The registers of a TOUT output and its asymmetry constant. -/
abbrev toutAddresses (k : Fin 4) : List Nat :=
  [Reg.timToutCtl k, Reg.timToutNs k, Reg.timToutSecLo k, Reg.timToutSecHi k, Reg.timToutPeriod k, Reg.timToutWidth k,
    Reg.timToutCount k, Reg.timAsymTout k]

/-- They are aligned words, of the asymmetry constants or of the outputs' blocks, and none is a reserved one. -/
theorem toutAddresses_place {a : Nat} {k : Fin 4} (h : a ∈ toutAddresses k) :
    a % 4 = 0 ∧ ((0x40010050 ≤ a ∧ a ≤ 0x4001005C) ∨ (0x40012000 ≤ a ∧ a < 0x40012080 ∧ a % 32 ≠ 28)) := by
  simp only [toutAddresses, List.mem_cons, List.not_mem_nil, or_false, Reg.timToutCtl, Reg.timToutNs, Reg.timToutSecLo,
    Reg.timToutSecHi, Reg.timToutPeriod, Reg.timToutWidth, Reg.timToutCount, Reg.timAsymTout] at h
  omega

theorem toutAddresses_tim {a : Nat} {k : Fin 4} (h : a ∈ toutAddresses k) : 0x40010000 ≤ a ∧ a < 0x40020000 := by
  have := toutAddresses_place h
  omega

/-- A write of any of them is an access of the secure owner's registers. -/
theorem busWrite_eq_toutAccess {s : Engine} (hm : s.mode ≠ .reset) {a : Nat} {k : Fin 4} (h : a ∈ toutAddresses k) (b : Bus) (v : Word) :
    ∃ f, busWrite b .word a v s = toutAccess b f s := by
  obtain ⟨hlo, hhi⟩ := toutAddresses_tim h
  obtain ⟨halign, ⟨hasym, hasym'⟩ | ⟨htout, htout', hword⟩⟩ := toutAddresses_place h
  · rw [busWrite_tim hm hlo hhi halign, writeTim_asymTout hasym hasym']
    exact ⟨_, rfl⟩
  · rw [busWrite_tim hm hlo hhi halign, writeTim_tout htout htout']
    exact writeTout_eq_toutAccess hword b v s

theorem busWrite_asymTout {s : Engine} (hm : s.mode ≠ .reset) (k : Fin 4) (b : Bus) (v : Word) :
    busWrite b .word (Reg.timAsymTout k) v s = toutAccess b (fun s => s.setReg (Reg.timAsymTout k) v) s := by
  have h : 0x40010050 ≤ Reg.timAsymTout k ∧ Reg.timAsymTout k ≤ 0x4001005C ∧ Reg.timAsymTout k % 4 = 0 := by
    simp only [Reg.timAsymTout]; omega
  obtain ⟨hlo, hhi, halign⟩ := h
  rw [busWrite_tim hm (by omega) (by omega) halign, writeTim_asymTout hlo hhi]

theorem busWrite_toutWidth {s : Engine} (hm : s.mode ≠ .reset) (k : Fin 4) (b : Bus) (v : Word) :
    busWrite b .word (Reg.timToutWidth k) v s = toutAccess b (fun s => s.setReg (Reg.timToutWidth k) v) s := by
  have h : 0x40012000 ≤ Reg.timToutWidth k ∧ Reg.timToutWidth k < 0x40012080 ∧ Reg.timToutWidth k % 4 = 0 := by
    simp only [Reg.timToutWidth]; omega
  obtain ⟨hlo, hhi, halign⟩ := h
  rw [busWrite_tim hm (by omega) (by omega) halign, writeTim_tout hlo hhi, writeTout_width]

end Sys2Proof.Machine

namespace Sys2Proof.Safety

open Sys2Proof Sys2Proof.Machine

variable {s : State} {c : Instr} {x : BusCmd} {f : Engine → Engine} {b : Bus}

/-- A command of the bus whose accesses leave the member applies, where the access may be made, what its effect does on an engine that is
outside RESET and takes the master's accesses. -/
theorem applies_of_busOf (hexec : exec c s = s.bus c) (hc : busOf c = some x) (hx : x.accesses ≠ []) (hlen : x.accesses.length ≤ 6)
    (hmay : may s x.bus) (heffect : ∀ e : Engine, e.mode ≠ .reset → e.reaches x.bus = true → x.effect e = f e) : applies c s f := by
  obtain ⟨hmode, hreach, hturn, hreplay, hheld, hfollow, hroom⟩ := hmay
  have hissue := issue_live (c := c) hmode hreach hreplay hheld hfollow (by rw [entriesOf_length]; omega) hx
  have hlogged : logged c s = s.eng.enterLog (entriesOf s.eng x.bus x.accesses) := by simp [logged, hc, hx]
  have hturn' : turnAfter c = turnOf x.bus := by simp only [turnAfter, hc]
  rw [applies, becomes, hexec, State.bus_eq hc hturn, hissue, hlogged, hturn',
    heffect (s.eng.enterLog _) hmode hreach]

/-- A word written to a register beyond the member's own memory. -/
theorem applies_registerWrite {a : Nat} (ha : a < 2 ^ 32) (hrom : inRom a = false) (hsram : inSram a = false) (v : Word) (hmay : may s b)
    (heffect : ∀ e : Engine, e.mode ≠ .reset → e.reaches b = true → busWrite b .word a v e = f e) :
    applies (.registerWrite b .word (word a) v) s f := by
  have haddr : (word a).toNat = a := by simpa [word] using Nat.mod_eq_of_lt ha
  have hout : outside a (.write .word a v) = [.write .word a v] := by simp [outside, hrom, hsram]
  have hbus : busOf (.registerWrite b .word (word a) v) =
      some { bus := b, accesses := [.write .word a v], effect := busWrite b .word a v } := by
    simp only [busOf, haddr, hout]
  exact applies_of_busOf rfl hbus (by simp) (by simp) hmay heffect

/-- A word written to a TOUT register or an asymmetry constant. -/
theorem applies_toutWrite {a : Nat} {k : Fin 4} (ha : a ∈ toutAddresses k) (v : Word) (hmay : may s b)
    (heffect : ∀ e : Engine, e.mode ≠ .reset → e.reaches b = true → busWrite b .word a v e = f e) :
    applies (.registerWrite b .word (word a) v) s f := by
  obtain ⟨hlo, hhi⟩ := toutAddresses_tim ha
  exact applies_registerWrite (by omega) (decide_eq_false (by omega)) (decide_eq_false (by omega)) v hmay heffect

end Sys2Proof.Safety

section

open Sys2Proof Sys2Proof.Machine Sys2Proof.Safety

/-- Settles O32: every write of the TOUT registers and their asymmetry constants is an access of the secure owner's registers, which any
other context is denied. -/
theorem secureOutputs : Obligations.SecureOutputs := by
  unfold Obligations.SecureOutputs
  refine ⟨?deniedWords, ?deniedRows, ?secure⟩
  case deniedWords =>
    rintro s b a v hmay hb ⟨k, ha⟩
    refine applies_toutWrite ha v hmay fun e hm hr => ?_
    obtain ⟨f, hf⟩ := busWrite_eq_toutAccess hm ha b v
    rw [hf, toutAccess_denied hm hr (secureBus_eq_false_iff.2 hb)]
  case deniedRows =>
    intro s b k p q v hmay hb
    have hbus := secureBus_eq_false_iff.2 hb
    constructor
    · exact applies_of_busOf rfl rfl (by simp) (by simp) hmay fun e hm hr => toutAccess_denied hm hr hbus (toutOn k p q)
    · refine applies_of_busOf rfl rfl (by simp) (by simp) hmay fun e hm hr => ?_
      simp only [toutNsWrite, toutAccess_denied hm hr hbus]
  case secure =>
    intro s b k v hmay hsec hflp
    have hbus := secureBus_eq_true_iff.2 ⟨hsec, hflp⟩
    constructor
    · refine applies_toutWrite (k := k) (by simp) v hmay fun e hm hr => ?_
      rw [busWrite_asymTout hm, toutAccess_secure hm hr hbus]
    · refine applies_toutWrite (k := k) (by simp) v hmay fun e hm hr => ?_
      rw [busWrite_toutWidth hm, toutAccess_secure hm hr hbus]

end

/-! Accesses of a member that is not ACTIVE (R303): every command of the bus goes through a gate that marks them in PAK_STAT.BLOCKED and
does nothing else. The report of an access that no region decodes is R401 and R402 as log 74 deduces from them, and the delivery of a
follower's guarded writes in the log's order is R318 and R319 as log 69 deduces from them. -/

namespace Sys2Proof.Machine

open Sys2Proof

/-! ### Who is kept out (R303) -/

/-- A member that is not ACTIVE and follows no rehearsal, while the engine is outside RESET. -/
structure Barred (b : Bus) (s : Engine) : Prop where
  mode : s.mode ≠ .reset
  reaches : s.reaches b = false
  follows : s.follows b = false
  notFlp : b.master ≠ .flp

/-- PAK_STAT.BLOCKED set. -/
abbrev markBlocked (s : Engine) : Engine := s.putRbit Reg.pakStat 13 true

theorem Engine.memberOf_member {s : Engine} {b : Bus} {m : Bool} (h : b.master = if m then .memberB else .memberA) :
    s.memberOf b = some m := by
  cases m <;> simp [Engine.memberOf, h]

theorem Engine.reaches_of_memberOf {s : Engine} {b : Bus} {m : Bool} (h : s.memberOf b = some m) :
    s.reaches b = decide (s.role m = .active) := by
  simp only [Engine.reaches, h]

theorem Engine.follows_of_memberOf {s : Engine} {b : Bus} {m : Bool} (h : s.memberOf b = some m) :
    s.follows b = (s.pak.overlap && s.role m == .standby) := by
  simp only [Engine.follows, h]

theorem barred_of_member {s : Engine} {b : Bus} {m : Bool} (hmode : s.mode ≠ .reset) (hb : b.master = if m then .memberB else .memberA)
    (hactive : s.role m ≠ .active) (hfollow : s.pak.overlap = false ∨ s.role m ≠ .standby) : Barred b s where
  mode := hmode
  reaches := by simpa [Engine.reaches_of_memberOf (Engine.memberOf_member hb)] using hactive
  follows := by rcases hfollow with h | h <;> simp [Engine.follows_of_memberOf (Engine.memberOf_member hb), h]
  notFlp := by cases m <;> simp [hb]

/-! ### The gates -/

/-- A choice of which both branches come to the same. -/
theorem ite_eq_of_branches {p : Prop} [Decidable p] {x y t : Engine} (hx : x = t) (hy : y = t) : (if p then x else y) = t := by
  rw [hx, hy, ite_self]

section

variable {b : Bus} {s : Engine} (hb : Barred b s)

include hb

theorem Barred.access (f : Engine → Engine) : s.access b f = markBlocked s :=
  Engine.access_blocked hb.mode hb.reaches hb.follows hb.notFlp f

/-- A sequence-guarded port is open to a follower, but not to this member. -/
theorem Barred.accessGuarded (f : Bool → Engine → Engine) : s.accessGuarded b f = markBlocked s := by
  have hfollows := hb.follows
  unfold Engine.accessGuarded
  split
  · exact hb.access _
  · next m hm =>
    rw [Engine.follows_of_memberOf hm] at hfollows
    rw [if_neg (by rintro ⟨-, hoverlap, hrole⟩; simp [hoverlap, hrole] at hfollows), hb.access]

theorem Barred.cmpAccess (c : Fin 64) (f : Engine → Engine) : cmpAccess b c f s = markBlocked s := hb.access _

theorem Barred.toutAccess (f : Engine → Engine) : toutAccess b f s = markBlocked s := hb.access _

theorem Barred.give (v : Word) : Barred b (give b v s) := ⟨hb.mode, hb.reaches, hb.follows, hb.notFlp⟩

/-- An access that no region decodes is blocked and reported (R401, R402, log 74). -/
theorem Barred.undecoded (write : Bool) (a : Nat) : undecoded b write a s = busError b write a (markBlocked s) := by
  simp [Machine.undecoded, hb.reaches, hb.follows, hb.notFlp, hb.access]

/-! ### Reads -/

theorem Barred.busRead {a : Nat} (hrom : inRom a = false) (hsram : inSram a = false) (hpak : inPak a = false) :
    busRead b a s =
      if !decoded a || a % 4 != 0 then busError b false a (markBlocked (Machine.give b 0 s)) else markBlocked (Machine.give b 0 s) := by
  unfold Machine.busRead
  rw [if_neg hb.mode, if_neg (by simp [hrom, hsram]), if_neg (by simp [hb.follows]), (hb.give 0).undecoded,
    if_neg (show ¬ inPak a = true by simp [hpak]), (hb.give 0).access]

/-! ### Writes: in every block's window each register is behind a gate -/

theorem Barred.writeSys (a : Nat) (v : Word) : writeSys b a v s = markBlocked s := by
  unfold Machine.writeSys
  repeat' with_reducible apply ite_eq_of_branches
  all_goals exact hb.access _

theorem Barred.writeCmp (a : Nat) (v : Word) : writeCmp b a v s = markBlocked s := by
  unfold Machine.writeCmp
  split
  case h_1 => exact ite_eq_of_branches (hb.cmpAccess _ _) (hb.cmpAccess _ _)
  case h_8 => exact hb.access _
  all_goals exact hb.cmpAccess _ _

theorem Barred.writeTout (a : Nat) (v : Word) : writeTout b a v s = markBlocked s := by
  unfold Machine.writeTout
  split
  case h_5 => exact hb.access _
  all_goals exact hb.toutAccess _

theorem Barred.writeTim (a : Nat) (v : Word) : writeTim b a v s = markBlocked s := by
  unfold Machine.writeTim
  repeat' with_reducible apply ite_eq_of_branches
  any_goals exact hb.access _
  · exact hb.writeCmp a v
  · exact hb.writeTout a v

theorem Barred.writeEvt (a : Nat) (v : Word) : writeEvt b a v s = markBlocked s := by
  unfold Machine.writeEvt
  repeat' with_reducible apply ite_eq_of_branches
  all_goals exact hb.access _

theorem Barred.writeSch (a : Nat) (v : Word) : writeSch b a v s = markBlocked s := by
  unfold Machine.writeSch
  repeat' with_reducible apply ite_eq_of_branches
  any_goals exact hb.access _
  · exact hb.accessGuarded _
  · exact hb.accessGuarded _
  · split <;> exact hb.access _

theorem Barred.writeRte (a : Nat) (v : Word) : writeRte b a v s = markBlocked s := by
  unfold Machine.writeRte
  repeat' with_reducible apply ite_eq_of_branches
  any_goals exact hb.access _
  all_goals exact hb.accessGuarded _

theorem Barred.writeFlt (a : Nat) (v : Word) : writeFlt b a v s = markBlocked s := by
  unfold Machine.writeFlt
  repeat' with_reducible apply ite_eq_of_branches
  all_goals exact hb.access _

theorem Barred.writePwr (a : Nat) (v : Word) : writePwr b a v s = markBlocked s := by
  unfold Machine.writePwr
  repeat' with_reducible apply ite_eq_of_branches
  all_goals exact hb.access _

theorem Barred.writeNvm (a : Nat) (v : Word) : writeNvm b a v s = markBlocked s := by
  unfold Machine.writeNvm
  repeat' with_reducible apply ite_eq_of_branches
  all_goals exact hb.access _

theorem Barred.writeMgt (a : Nat) (v : Word) : writeMgt b a v s = markBlocked s := by
  unfold Machine.writeMgt
  repeat' with_reducible apply ite_eq_of_branches
  all_goals exact hb.access _

theorem Barred.writeCal (a : Nat) (v : Word) : writeCal b a v s = markBlocked s := by
  unfold Machine.writeCal
  repeat' with_reducible apply ite_eq_of_branches
  all_goals exact hb.access _

theorem Barred.writeDrv (a : Nat) (v : Word) : writeDrv b a v s = markBlocked s := by
  unfold Machine.writeDrv Machine.writeScent
  repeat' with_reducible apply ite_eq_of_branches
  any_goals exact hb.access _
  split <;> exact hb.access _

theorem Barred.writeSns (a : Nat) (v : Word) : writeSns b a v s = markBlocked s := by
  unfold Machine.writeSns
  repeat' with_reducible apply ite_eq_of_branches
  any_goals exact hb.access _
  split <;> exact hb.access _

theorem Barred.writeLp (a : Nat) (v : Word) : writeLp b a v s = markBlocked s := by
  unfold Machine.writeLp
  dsimp only
  repeat' with_reducible apply ite_eq_of_branches
  all_goals exact hb.access _

theorem Barred.writeBlock {a : Nat} (hblock : inBlocks a = true) (hpak : inPak a = false) (v : Word) :
    writeBlock b a v s = markBlocked s := by
  simp only [inBlocks, inPak, decide_eq_true_eq, decide_eq_false_iff_not] at hblock hpak
  unfold Machine.writeBlock
  split
  · exact hb.writeSys a v
  · exact hb.writeTim a v
  · exact hb.writeEvt a v
  · exact hb.writeSch a v
  · exact hb.writeRte a v
  · exact hb.writeFlt a v
  · exact hb.writePwr a v
  · exact hb.writeNvm a v
  · exact hb.writeMgt a v
  · omega
  · exact hb.writeCal a v
  · exact hb.writeDrv a v
  · exact hb.writeSns a v
  · exact hb.access _

theorem Barred.busWrite_word {a : Nat} (hrom : inRom a = false) (hsram : inSram a = false) (hpak : inPak a = false)
    (halign : a % 4 = 0) (hwindow : (inBlocks a || inLps a) = true) (v : Word) : busWrite b .word a v s = markBlocked s := by
  unfold Machine.busWrite
  rw [if_neg hb.mode, if_neg (by simp [hrom, hsram]), if_neg (by simp [halign])]
  cases hblock : inBlocks a with
  | true => rw [if_pos rfl, hb.writeBlock hblock hpak]
  | false =>
    have hlp : inLps a = true := by rwa [hblock, Bool.false_or] at hwindow
    rw [if_neg Bool.false_ne_true, if_pos hlp, hb.writeLp]

theorem Barred.busWrite_undecoded {w : Width} {a : Nat} (hrom : inRom a = false) (hsram : inSram a = false)
    (h : ¬ (w = .word ∧ a % 4 = 0 ∧ (inBlocks a || inLps a) = true)) (v : Word) :
    busWrite b w a v s = busError b true a (markBlocked s) := by
  unfold Machine.busWrite
  rw [if_neg hb.mode, if_neg (by simp [hrom, hsram])]
  by_cases hform : (w != .word || a % 4 != 0) = true
  · rw [if_pos hform, hb.undecoded]
  · have hword : w = .word ∧ a % 4 = 0 := by
      simpa only [Bool.or_eq_true, bne_iff_ne, ne_eq, not_or, Decidable.not_not] using hform
    have hwindow : ¬ (inBlocks a || inLps a) = true := fun hwindow => h ⟨hword.1, hword.2, hwindow⟩
    simp only [Bool.or_eq_true, not_or] at hwindow
    obtain ⟨hblock, hlp⟩ := hwindow
    rw [if_neg hform, if_neg hblock, if_neg hlp, hb.undecoded]

end

/-! ### What reaches the port of a follower (R304, R318, R319) -/

/-- A command of a member that neither reaches the registers nor follows goes to the gates as it is. -/
theorem issue_barred {c : Instr} {x : BusCmd} {s : Engine} (hb : Barred x.bus s) : issue c x s = x.effect s := by
  unfold issue
  simp [hb.reaches, hb.follows]

theorem issue_follower {c : Instr} {x : BusCmd} {s : Engine} (hm : s.mode ≠ .reset) (hr : s.reaches x.bus = false)
    (hf : s.follows x.bus = true) (hx : x.accesses ≠ []) : issue c x s = followNext s c := by
  unfold issue
  simp [hm, hr, hf, hx]

theorem followNext_eq_follow {c : Instr} {x : BusCmd} {s : Engine} (hc : busOf c = some x) (hf : s.follows x.bus = true)
    (hheld : s.pak.followHeld = []) : followNext s c = follow c x s := by
  simp [followNext, hc, hf, hheld]

/-- A guarded write that is the log's next entry is delivered, and counts as followed. -/
theorem follow_guardedWrite {c : Instr} {x : BusCmd} {s : Engine} {w : Width} {a : Nat} {v : Word} {rest : List LogEntry}
    (hx : x.accesses = [.write w a v]) (hguarded : guardedWrite (.write w a v) = true)
    (hlog : ((s.logOf s.pak.overlapFrom).filter (· != .firmware)).drop s.pak.followed = .write w a v :: rest) :
    follow c x s = x.effect { s with pak.followed := s.pak.followed + 1 } := by
  simp [follow, hlog, hx, hguarded, matchesLog, LogEntry.logs, giveReads]

/-- A follower has its effect at a sequence-guarded port. -/
theorem Engine.accessGuarded_follower {s : Engine} {b : Bus} {m : Bool} (hm : s.mode ≠ .reset) (hb : s.memberOf b = some m)
    (hrole : s.role m = .standby) (hoverlap : s.pak.overlap = true) (f : Bool → Engine → Engine) : s.accessGuarded b f = f m s := by
  simp [Engine.accessGuarded, hb, hm, hrole, hoverlap]

/-- The first five words of a submission are words of the staging set. -/
theorem writeSch_schReq (b : Bus) (i : Fin 5) (v : Word) (s : Engine) : writeSch b (Reg.schReq i) v s = stageWord b i v s := by
  have hi : (Reg.schReq i - Reg.schReq 0) / 4 = i := by simp only [Reg.schReq]; omega
  simp only [writeSch, hi]
  simp only [Reg.schCtl, Reg.schStat, Reg.schGuard, Reg.schCost, Reg.schLead, Reg.schReq]
  repeat rw [if_neg (by omega)]
  exact if_pos (by omega)

/-- The bus gives a write of an aligned word in the window of the scheduler to it (R400). -/
theorem busWrite_sch {s : Engine} (hm : s.mode ≠ .reset) {a : Nat} (hlo : 0x40030000 ≤ a) (hhi : a < 0x40040000) (ha : a % 4 = 0)
    (b : Bus) (v : Word) : busWrite b .word a v s = writeSch b a v s := by
  have hown : (inRom a || inSram a) = false := by simp only [inRom, inSram, Bool.or_eq_false_iff, decide_eq_false_iff_not]; omega
  have hblock : inBlocks a = true := decide_eq_true (by omega)
  have hsch : (a - 0x40000000) / 0x10000 = 3 := by omega
  simp [busWrite, writeBlock, hm, hown, hblock, hsch, ha]

/-- A follower's word of a submission is staged as its own. -/
theorem busWrite_schReq_follower {s : Engine} {b : Bus} {m : Bool} (hm : s.mode ≠ .reset) (hb : s.memberOf b = some m)
    (hrole : s.role m = .standby) (hoverlap : s.pak.overlap = true) (i : Fin 5) (v : Word) :
    busWrite b .word (Reg.schReq i) v s = { s with sch.stage := put0 s.sch.stage (stageKey m i) v } := by
  have hplace : 0x40030000 ≤ Reg.schReq i ∧ Reg.schReq i < 0x40040000 ∧ Reg.schReq i % 4 = 0 := by simp only [Reg.schReq]; omega
  obtain ⟨hlo, hhi, halign⟩ := hplace
  rw [busWrite_sch hm hlo hhi halign, writeSch_schReq]
  exact Engine.accessGuarded_follower hm hb hrole hoverlap _

end Sys2Proof.Machine

namespace Sys2Proof.Safety

open Sys2Proof Sys2Proof.Machine

/-! ### The rows of the bus -/

/-- What a command of the bus is to a member that is not ACTIVE: a read or a write of an address beyond its own memory, an access that is
marked and no more, or one that reaches into the PAK window. -/
inductive BusRow : BusCmd → Prop where
  | read {b : Bus} {a : Nat} (hrom : inRom a = false) (hsram : inSram a = false) :
    BusRow { bus := b, accesses := [.read a 0], effect := busRead b a }
  | write {b : Bus} {w : Width} {a : Nat} {v : Word} (hrom : inRom a = false) (hsram : inSram a = false) :
    BusRow { bus := b, accesses := [.write w a v], effect := busWrite b w a v }
  | marked {b : Bus} {l : List LogEntry} {f : Engine → Engine} (hwrites : ∀ a v, l ≠ [.read a v])
    (heffect : ∀ s, Barred b s → f s = markBlocked s) : BusRow { bus := b, accesses := l, effect := f }
  | pak {b : Bus} {a : Nat} {v : Word} {f : Engine → Engine} (hpak : inPak a = true) :
    BusRow { bus := b, accesses := [.write .word a v], effect := f }

/-- An access that leaves the member goes neither to the boot ROM nor to its SRAM. -/
theorem outside_ne_nil {a : Nat} {e : LogEntry} (h : outside a e ≠ []) : inRom a = false ∧ inSram a = false := by
  unfold outside at h
  split at h
  · exact absurd rfl h
  · next hown => simpa using hown

theorem outside_eq {a : Nat} (hrom : inRom a = false) (hsram : inSram a = false) (e : LogEntry) : outside a e = [e] := by
  simp [outside, hrom, hsram]

theorem busRow_outsideRead {b : Bus} {a : Nat} (h : outside a (.read a 0) ≠ []) :
    BusRow { bus := b, accesses := outside a (.read a 0), effect := busRead b a } := by
  obtain ⟨hrom, hsram⟩ := outside_ne_nil h
  rw [outside_eq hrom hsram]
  exact .read hrom hsram

theorem busRow_outsideWrite {b : Bus} {w : Width} {a : Nat} {v : Word} (h : outside a (.write w a v) ≠ []) :
    BusRow { bus := b, accesses := outside a (.write w a v), effect := busWrite b w a v } := by
  obtain ⟨hrom, hsram⟩ := outside_ne_nil h
  rw [outside_eq hrom hsram]
  exact .write hrom hsram

/-- A read of an address of a block window. -/
theorem busRow_blockRead {b : Bus} {a : Nat} (h : 0x40000000 ≤ a) (h' : a < 0x400D0000) :
    BusRow { bus := b, accesses := [.read a 0], effect := busRead b a } :=
  .read (decide_eq_false (by omega)) (decide_eq_false (by omega))

theorem resultRegAddr_block (r : ResultReg) : 0x40000000 ≤ resultRegAddr r ∧ resultRegAddr r < 0x400D0000 := by
  cases r with
  | rte => decide
  | cal => decide
  | scent g => simp only [resultRegAddr, Reg.drvScentResult]; omega

/-- A submission is no read. -/
theorem submission_ne_read (cmd : Word) (q : SubmitWords) (a : Nat) (v : Word) : Machine.submission cmd q ≠ [.read a v] := by
  simp [Machine.submission]

theorem busRow_of_busOf {c : Instr} {x : BusCmd} (h : busOf c = some x) (hx : x.accesses ≠ []) : BusRow x := by
  cases c
  case splitLowRead =>
    cases h
    exact busRow_outsideRead hx
  case splitHighWrite | registerWrite =>
    cases h
    exact busRow_outsideWrite hx
  case drvFltFifoRead | calDataRead | schOutRead | nowCapture | ledgerFifoRead | seqDraw | ptpTxStampRead =>
    cases h
    exact busRow_blockRead (by decide) (by decide)
  case keyAreaRead b slot w =>
    cases h
    exact busRow_blockRead (by simp only [Reg.nvmKey]; omega) (by simp only [Reg.nvmKey]; omega)
  case resultRead b r =>
    cases h
    obtain ⟨hlo, hhi⟩ := resultRegAddr_block r
    exact busRow_blockRead hlo hhi
  case seqBaseLoad | swapReq =>
    cases h
    exact .pak rfl
  case rteAdd | rteRemove | rtePermute | rtePin | rteUnpin | rteBadOp | txQueueOffer =>
    cases h
    exact .marked (by simp) fun s hb => hb.accessGuarded _
  case submitAdd | submitRemove | submitPermute | submitPin | submitUnpin =>
    cases h
    exact .marked (submission_ne_read _ _) fun s hb => hb.accessGuarded _
  case cmpArm | cmpDisarm | cmpNsWrite =>
    cases h
    exact .marked (by simp) fun s hb => hb.cmpAccess _ _
  case toutEnable | toutNsWrite =>
    cases h
    exact .marked (by simp) fun s hb => hb.toutAccess _
  all_goals cases h
  all_goals exact .marked (by simp) fun s hb => hb.access _

/-- Every row of the bus goes to the bus as it is. -/
theorem exec_of_busOf {c : Instr} {x : BusCmd} (hform : wellFormed c = true) (h : busOf c = some x) (s : State) : exec c s = s.bus c := by
  cases c
  case rteBadOp => exact if_pos hform
  all_goals cases h
  all_goals rfl

/-! ### What a blocked command leaves -/

/-- BLOCKED is set, and only the data that masters have read and the reports that wait may differ. -/
def BlockedOnly (s t : Engine) : Prop := ∃ d w, t = { markBlocked s with rdata := d, flt.waiting := w }

section

variable {s t : Engine} (h : BlockedOnly s t)

include h

theorem BlockedOnly.blocked : t.rbit Reg.pakStat 13 = true := by
  obtain ⟨d, w, rfl⟩ := h
  exact s.rbit_putRbit_self Reg.pakStat 13 true (by decide)

theorem BlockedOnly.pakStat_apart {i : Nat} (hi : i ≠ 13) : t.rbit Reg.pakStat i = s.rbit Reg.pakStat i := by
  obtain ⟨d, w, rfl⟩ := h
  exact s.rbit_putRbit_apart Reg.pakStat true hi

theorem BlockedOnly.regsBut : regsBut [Reg.pakStat] s t := by
  obtain ⟨d, w, rfl⟩ := h
  intro a ha
  exact (s.reg_putRbit Reg.pakStat 13 a true).trans (if_neg (by simpa using ha))

theorem BlockedOnly.frame : t = { s with regs := t.regs, rdata := t.rdata, flt.waiting := t.flt.waiting } := by
  obtain ⟨d, w, rfl⟩ := h
  rfl

end

@[simp] theorem lastRead_give (s : Engine) (b : Bus) (v : Word) : lastRead (give b v s) b = v := by
  simp [lastRead, give]

/-- The report of an access that no region decodes (R401). -/
theorem reports_busError (s : Engine) (b : Bus) (write : Bool) (a : Word) :
    reports (busError b write a.toNat s) = reports s ++ [(3, a)] := by
  simp [reports, busError, Engine.raiseBy, Engine.raiseAt, Engine.raiseWith, word]

theorem blockedOnly_busRead {b : Bus} {s : Engine} {a : Nat} (hb : Barred b s) (hrom : inRom a = false) (hsram : inSram a = false)
    (hpak : inPak a = false) : BlockedOnly s (busRead b a s) := by
  rw [hb.busRead hrom hsram hpak]
  split <;> exact ⟨_, _, rfl⟩

/-- A blocked read returns 0. -/
theorem lastRead_busRead {b : Bus} {s : Engine} {a : Nat} (hb : Barred b s) (hrom : inRom a = false) (hsram : inSram a = false)
    (hpak : inPak a = false) : lastRead (busRead b a s) b = 0 := by
  rw [hb.busRead hrom hsram hpak]
  split <;> exact lastRead_give s b 0

theorem blockedOnly_busWrite {b : Bus} {s : Engine} {w : Width} {a : Nat} (hb : Barred b s) (hrom : inRom a = false)
    (hsram : inSram a = false) (hpak : inPak a = false) (v : Word) : BlockedOnly s (busWrite b w a v s) := by
  by_cases hform : w = .word ∧ a % 4 = 0 ∧ (inBlocks a || inLps a) = true
  · obtain ⟨rfl, halign, hwindow⟩ := hform
    rw [hb.busWrite_word hrom hsram hpak halign hwindow]
    exact ⟨_, _, rfl⟩
  · rw [hb.busWrite_undecoded hrom hsram hform]
    exact ⟨_, _, rfl⟩

theorem BusRow.blockedOnly {x : BusCmd} {s : Engine} (h : BusRow x) (hb : Barred x.bus s) (hout : ∀ e ∈ x.accesses, outsidePak e = true) :
    BlockedOnly s (x.effect s) := by
  cases h with
  | read hrom hsram => exact blockedOnly_busRead hb hrom hsram (by simpa [outsidePak] using hout)
  | write hrom hsram => exact blockedOnly_busWrite hb hrom hsram (by simpa [outsidePak] using hout) _
  | marked hwrites heffect => exact ⟨_, _, heffect s hb⟩
  | pak hpak => simp [outsidePak, hpak] at hout

theorem BusRow.lastRead_eq_zero {x : BusCmd} {s : Engine} (h : BusRow x) (hb : Barred x.bus s)
    (hout : ∀ e ∈ x.accesses, outsidePak e = true) {a : Nat} {v : Word} (hread : x.accesses = [.read a v]) :
    lastRead (x.effect s) x.bus = 0 := by
  cases h with
  | read hrom hsram => exact lastRead_busRead hb hrom hsram (by simpa [outsidePak] using hout)
  | write => cases hread
  | marked hwrites => exact absurd hread (hwrites a v)
  | pak => cases hread

/-! ### The commands -/

/-- A command of a member that is not ACTIVE is its effect at the gates, with nothing logged. -/
theorem becomes_of_barred {c : Instr} {x : BusCmd} {s : State} (hexec : exec c s = s.bus c) (hc : busOf c = some x)
    (hb : Barred x.bus s.eng) (hturn : s.eng.turn ≤ turnOf x.bus) : becomes c s (x.effect s.eng) := by
  rw [becomes, hexec, State.bus_eq hc hturn, issue_barred hb]
  simp only [turnAfter, hc]

/-- A follower's guarded write that is the log's next entry is its effect, with the entry counted as followed. -/
theorem becomes_followed {c : Instr} {x : BusCmd} {s : State} {m : Bool} {w : Width} {a : Nat} {v : Word} {rest : List LogEntry}
    (hexec : exec c s = s.bus c) (hc : busOf c = some x) (hx : x.accesses = [.write w a v])
    (hguarded : guardedWrite (.write w a v) = true) (hm : s.eng.mode ≠ .reset) (hb : s.eng.memberOf x.bus = some m)
    (hrole : s.eng.role m = .standby) (hoverlap : s.eng.pak.overlap = true) (hheld : s.eng.pak.followHeld = [])
    (hturn : s.eng.turn ≤ turnOf x.bus)
    (hlog : ((s.eng.logOf s.eng.pak.overlapFrom).filter (· != .firmware)).drop s.eng.pak.followed = .write w a v :: rest) :
    becomes c s (x.effect { s.eng with pak.followed := s.eng.pak.followed + 1 }) := by
  have hreaches : s.eng.reaches x.bus = false := by simp [Engine.reaches_of_memberOf hb, hrole]
  have hfollows : s.eng.follows x.bus = true := by simp [Engine.follows_of_memberOf hb, hrole, hoverlap]
  rw [becomes, hexec, State.bus_eq hc hturn, issue_follower hm hreaches hfollows (by simp [hx]), followNext_eq_follow hc hfollows hheld,
    follow_guardedWrite hx hguarded hlog]
  simp only [turnAfter, hc]

/-- A write of one of the first five words of a submission is a row of the bus with one access, which is guarded. -/
theorem busOf_schReq (b : Bus) (i : Fin 5) (v : Word) :
    busOf (.registerWrite b .word (word (Reg.schReq i)) v) =
        some { bus := b, accesses := [.write .word (Reg.schReq i) v], effect := busWrite b .word (Reg.schReq i) v } ∧
      guardedWrite (.write .word (Reg.schReq i) v) = true := by
  have haddr : (word (Reg.schReq i)).toNat = Reg.schReq i := by simp only [word, BitVec.toNat_ofNat, Reg.schReq]; omega
  have hrom : inRom (Reg.schReq i) = false := decide_eq_false (by simp only [Reg.schReq]; omega)
  have hsram : inSram (Reg.schReq i) = false := decide_eq_false (by simp only [Reg.schReq]; omega)
  constructor
  · simp only [busOf, haddr, outside_eq hrom hsram]
  · simp only [guardedWrite, Reg.schReq, Bool.or_eq_true, decide_eq_true_eq]; omega

end Sys2Proof.Safety

section

open Sys2Proof Sys2Proof.Machine Sys2Proof.Safety

/-- Settles O39: every row of the bus stops at a gate that marks it, whatever it does behind it; an access outside every region is reported
as well; a follower's write that matches the log goes through the gate of its port. -/
theorem nonActiveAccess : Obligations.NonActiveAccess := by
  unfold Obligations.NonActiveAccess
  refine ⟨?rows, ?reads, ?writes, ?followed⟩
  case rows =>
    intro s c x m hform hc hmode hmaster hactive hfollow hturn hx hout
    have hb := barred_of_member hmode hmaster hactive hfollow
    have hrow := busRow_of_busOf hc hx
    have hblocked := hrow.blockedOnly hb hout
    exact ⟨_, becomes_of_barred (exec_of_busOf hform hc s) hc hb hturn, fun a v hread => hrow.lastRead_eq_zero hb hout hread,
      hblocked.blocked, fun i hi => hblocked.pakStat_apart hi, hblocked.regsBut, hblocked.frame⟩
  case reads =>
    intro s b a m hmode hmaster hactive hfollow hturn hrom hsram hpak
    have hb := barred_of_member hmode hmaster hactive hfollow
    have hread : becomes (.splitLowRead b a) s (busRead b a.toNat s.eng) :=
      becomes_of_barred (x := ⟨b, _, busRead b a.toNat⟩) rfl rfl hb hturn
    refine ⟨_, hread, lastRead_busRead hb hrom hsram hpak, fun hdecoded halign => ?_, fun hundecoded => ?_⟩
    · rw [hb.busRead hrom hsram hpak, if_neg (by simp [hdecoded, halign])]
      rfl
    · rw [hb.busRead hrom hsram hpak, if_pos (by simpa using hundecoded), reports_busError]
      rfl
  case writes =>
    intro s b w a v m hmode hmaster hactive hfollow hturn hrom hsram hpak
    have hb := barred_of_member hmode hmaster hactive hfollow
    have hwrite : becomes (.registerWrite b w a v) s (busWrite b w a.toNat v s.eng) :=
      becomes_of_barred (x := ⟨b, _, busWrite b w a.toNat v⟩) rfl rfl hb hturn
    have hhigh : becomes (.splitHighWrite b a v) s (busWrite b .word a.toNat v s.eng) :=
      becomes_of_barred (x := ⟨b, _, busWrite b .word a.toNat v⟩) rfl rfl hb hturn
    constructor
    · rintro ⟨rfl, halign, hwindow⟩
      rw [hb.busWrite_word hrom hsram hpak halign hwindow] at hwrite hhigh
      exact ⟨hwrite, hhigh⟩
    · intro hform
      rw [hb.busWrite_undecoded hrom hsram hform] at hwrite
      exact ⟨_, hwrite, reports_busError .., rfl⟩
  case followed =>
    intro s b i v m rest hmode hmaster hrole hoverlap hheld hturn hlog
    have hmember := Engine.memberOf_member (s := s.eng) hmaster
    obtain ⟨hc, hguarded⟩ := busOf_schReq b i v
    have hbecomes := becomes_followed rfl hc rfl hguarded hmode hmember hrole hoverlap hheld hturn hlog
    have hstaged := busWrite_schReq_follower (s := { s.eng with pak.followed := s.eng.pak.followed + 1 }) hmode hmember hrole hoverlap i v
    exact hstaged ▸ hbecomes

end
